-- ==== Sys2Proof/Word.lean ====
section
/-! DEFINITION. The plain types of the model: a byte, and the index types of the parts the chip numbers (R7, R28, R47, R56). -/

namespace Sys2Proof

/-- A byte of a memory, a tile payload or a host transfer. -/
abbrev Byte := BitVec 8

/-- A cluster, 0–35 (R7). -/
abbrev Cluster := Fin 36

/-- A bench within its cluster, 0–3 (R7). -/
abbrev BenchIx := Fin 4

/-- A graph of the plan, 0–7 (R30). -/
abbrev Graph := Fin 8

/-- A fabric link, 0–35 (R8). -/
abbrev Link := Fin 36

/-- A station endpoint number, 9 bits (R28). -/
abbrev Endpt := BitVec 9

/-- A stream number, 18 bits (R29). -/
abbrev StreamNo := BitVec 18

/-- A milestone index, 16 bits (R47). -/
abbrev Mls := BitVec 16

/-- A chip ID, 24 bits (R230). -/
abbrev ChipId := BitVec 24

/-- A Vusyn station, 0–3 (R28). -/
abbrev Vusyn := Fin 4

/-- A shelf, 0–15 (R28). -/
abbrev Shelf := Fin 16

/-- A CHECK unit, 0–15 (R440). -/
abbrev CheckUnit := Fin 16

/-- A command ring, completion ring or tile queue, 0–63 (R396). -/
abbrev Ring := Fin 64


end Sys2Proof
end

