-- ==== Sys2Proof/Syntax.lean ====
section
/-!
DEFINITION. The commands of the block: every operation and event of spec/opcode_table.json, and the operand forms they carry.
-/

namespace Sys2Proof

/-- The fields of a vector instruction but its OP (R127). -/
structure VInsn where
  et : BitVec 3
  vd : BitVec 5
  va : BitVec 5
  vb : BitVec 5
  vc : BitVec 5
  msk : BitVec 3
  men : Bool
  mz : Bool
  sa : BitVec 6
  sb : Bool
  rnd : Bool
  imm : BitVec 16
  deriving DecidableEq, Repr

/-- The window that a host read reaches: the register block, the drawers or the shelves (R375). -/
inductive Bar where
  | bar0 | bar2 | bar4
  deriving DecidableEq, Repr

/-- A fabric cell (R210): the header fields and the 64 payload bytes as a little-endian number. The check value is made anew on
every link (R211), so no cell at rest holds one. -/
structure Cell where
  dest : BitVec 24
  endpt : BitVec 9
  stream : BitVec 18
  seq : BitVec 24
  vc : BitVec 3
  kind : BitVec 5
  poison : Bool
  sample : Bool
  mcast : Bool
  last : Bool
  hops : BitVec 6
  reserved : BitVec 3
  payload : BitVec 512
  deriving DecidableEq, Repr


/-- What shelf training finds on a channel (R191, R207): a module seated, trained, able to run at 12,800 MT/s; CAP code. -/
structure Dimm where
  present : Bool
  trained : Bool
  fast : Bool
  cap : BitVec 2
  deriving DecidableEq, Repr

/-- What the hardware around the chip does in a start-up or a wake (R414, R416, R431). -/
structure StartUp where
  /-- The root PLL locks. -/
  lock : Bool
  /-- Training result per channel, channel 0 first; a channel beyond the list is empty. -/
  dimms : List Dimm
  /-- Chest channels that train. -/
  chOk : BitVec 8
  /-- The copies of the chest directory that can be read. -/
  dirOk : Bool × Bool
  /-- Firmware hangs in stage 4, 5 or 6, before it sets BOOT_OK. -/
  hang : Option (Fin 3)
  /-- In a wake, the sources by WAKE_CAUSE bit that become active up to the end of stage 1 (R431). -/
  more : BitVec 6
  deriving DecidableEq, Repr

/-- What host software sets in the function's configuration space, and PME status (R374, R431; log entry 137). -/
structure PcieCfg where
  /-- The function is in D3hot, else in D0. -/
  d3hot : Bool
  pmeEn : Bool
  pmeStatus : Bool
  /-- MSI-X Enable and Function Mask. -/
  msixEnable : Bool
  msixMaskAll : Bool
  /-- ASPM L1, and its substates L1.1 and L1.2. -/
  aspmL1 : Bool
  l11 : Bool
  l12 : Bool
  /-- Max Payload Size 128 × 2^n, up to 512 bytes; Max Read Request Size 128 × 2^n, up to 4,096 bytes. -/
  payload : Fin 3
  readReq : Fin 6
  deriving DecidableEq, Repr

/-- How the medium gives a page of a chest slot back (R457); a page that no entry names reads without an error. -/
structure PageRead where
  slot : BitVec 7
  page : Nat
  /-- Per codeword, the wrong bits of its first read and of each re-read. -/
  errs : List (Fin 9 × List Nat)
  /-- Bits in which data and header, once decoded, still differ from what was programmed, from byte 0 of the page on. -/
  flip : Nat
  deriving DecidableEq, Repr

/-- What an SMBus transaction reads (R494). -/
inductive SmbRead where
  | nothing | bootStatus | temp
  deriving DecidableEq, Repr

/-- Readings of the West, East and IO dies and of the coolant inlet, in °C (R438). -/
structure Temps where
  west : BitVec 8
  east : BitVec 8
  io : BitVec 8
  coolant : BitVec 8
  deriving DecidableEq, Repr

/-- Which message of an exchange (R281–R288, R327, R333). -/
structure MsgKey where
  /-- 0: on this chip's own behalf; 1: on behalf of the position it plays (R306). -/
  actor : Nat
  /-- A sample message (R333). -/
  sample : Bool
  /-- STREAM phase bit: 0 reduce-scatter, 1 gather or broadcast (R288). -/
  phase : Nat
  level : Nat
  /-- 0 toward the successor, 1 toward the predecessor, 0 on a clique (R288). -/
  dir : Nat
  /-- COLUMN, ROUND, DIGIT and PART of the piece header (R289). -/
  col : Nat
  round : Nat
  digit : Nat
  part : Nat
  /-- Digit on the level of the member at the other end. -/
  peer : Nat
  deriving DecidableEq, Repr

/-- A whole message at a Vusyn station (R288–R290, R327). -/
structure PieceMsg where
  /-- GRAD cells, else COLL cells. -/
  grad : Bool
  endpt : BitVec 9
  stream : BitVec 18
  /-- The 64 bytes of the header cell's payload, little-endian. -/
  head : BitVec 512
  /-- The wire bytes of the data cells as a little-endian number. -/
  data : Nat
  /-- Bit m: data cell m arrived with POISON (R296). -/
  poison : Nat
  deriving DecidableEq, Repr

/-- A command or event of the block: one constructor for each row of spec/opcode_table.json, with the row's operands. -/
inductive Instr where
  /-- REGISTER_WRITE (R2): A host or desk write to a register or field that has no row of its own acts according to its access code; writes to undefined BAR0 offsets and badly sized BAR0 accesses are discarded. -/
  | registerWrite (off : BitVec 26) (size : Nat) (val : BitVec 64) (hw : BitVec 64)
  /-- RC_READ (R3): A read of an RC field returns its value and then clears the field, and a hardware update in the same cycle is kept. -/
  | rcRead (bar : Bar) (off : BitVec 42) (size : Nat) (upd : BitVec 64) (stalls : List (Cluster × Graph))
  /-- BAR_MEMORY_WRITE (R205): A host write through BAR2 or BAR4 stores into a drawer or shelf line, in arrival order with station accesses, and is discarded in a hole. -/
  | barMemoryWrite (bar4 : Bool) (off : BitVec 42) (data : List Byte) (stalls : List (Cluster × Graph))
  /-- MODE_REQUEST (R16): A write to PWR_OPMODE.REQ restarts the standby PLL toward the requested mode, or cancels a pending switch when it names CUR; in P2 or P3 it is only latched. -/
  | modeRequest (m : BitVec 2)
  /-- STBY_PLL_LOCK (R18): The standby root PLL locks at the requested frequency, and a supply raise starts if the new clock is higher. -/
  | stbyPllLock
  /-- SUPPLY_RAISE_SETTLED (R16): The raised compute-die supply settles, so that the pending switch can be handed over at the next period boundary. -/
  | supplyRaiseSettled
  /-- BUDGET_PERIOD_BOUNDARY (R39): Every 65,536 CCLK cycles, every allowance is reset from its share and CAP with debt carried, and pending set changes and mode switches take effect. -/
  | budgetPeriodBoundary
  /-- BUDGET_SET_SELECT (R368): A write to GLB_BUDGET_SET.SEL requests a change of set at the next period boundary, replaces an earlier request, or cancels one. -/
  | budgetSetSelect (sel : BitVec 2) (late : Bool)
  /-- STREAM_CONTEXT_WRITE (R32): A host write to an RW field of a stream context is applied only while both stations are quiesced, and otherwise is discarded and sets WR_REJECT. -/
  | streamContextWrite (n : StreamNo) (word : Fin 16) (val : BitVec 32)
  /-- NEXT_SEQ_REWRITE (R58): A forward rewrite of NEXT_SEQ at a receiving side frees the skipped slots, counts them as consumed, returns credits and makes the milestone increments. -/
  | nextSeqRewrite (n : StreamNo) (seq : BitVec 32)
  /-- STREAM_FAULT_CLEAR (R58): A W1C clear of a stream's last stopping fault makes the stream eligible again from NEXT_SEQ and zeroes WD_COUNT. -/
  | streamFaultClear (n : StreamNo) (bits : BitVec 32) (hw : BitVec 32)
  /-- STREAM_WATCHDOG_FIRE (R56): WD_COUNT reaches WD_LIMIT: LOST or STALLED is set, the stream stops, and CODE of MLS_DONE is set. -/
  | streamWatchdogFire (n : StreamNo)
  /-- MLS_INC_WRITE (R48): A single 64-bit write to MLS_INC adds AMOUNT to a milestone by saturating addition. -/
  | mlsIncWrite (m : Mls) (amount : BitVec 32)
  /-- MILESTONE_ENTRY_WRITE (R53): A write to COUNT or TARGET of a milestone is applied before same-cycle increments and may make the milestone reached at once. -/
  | milestoneEntryWrite (m : Mls) (count : Option (BitVec 32)) (target : Option (BitVec 32))
  /-- STATION_QUIESCE (R60): Writing ENABLE = 0 stops admission; the firing in progress runs to its tile boundary and QUIESCED is then set. -/
  | stationQuiesce (e : Endpt)
  /-- STATION_RESUME (R60): Writing ENABLE = 1 resumes the station at its current step, resets its watchdogs and returns the chip from P1. -/
  | stationResume (e : Endpt)
  /-- STATION_ABORT (R61): Writing ABORT = 1 disables the station, discards its input tiles with their credits returned, marks the streams ABORTED and returns STEP_IDX to 0. -/
  | stationAbort (e : Endpt)
  /-- CONVERT (R83): A CONV firing converts one tile to DST_FMT with one rounding, gathers amax, and sets flags on its output. -/
  | convert (c : Cluster)
  /-- STASH_ENC (R94): A CONV firing encodes an activation tile into the raw, KF8R, BQ4 or MASK1 stash codec. -/
  | stashEnc (c : Cluster)
  /-- STASH_DEC (R94): A CONV firing decodes a stash tile exactly and rounds it once into BF16, FP16 or FP32. -/
  | stashDec (c : Cluster)
  /-- COPY (R83): A CONV firing moves one tile unchanged apart from SEQ, STEP and ORIGIN. -/
  | copy (c : Cluster)
  /-- COMPENSATE (R172): A CONV firing computes new BF16 parameters and compensation from the parameter, compensation and update tiles. -/
  | compensate (c : Cluster)
  /-- CLR_LOST (R87): Writing CLR_LOST clears CLU_CONV_LOST_NONZERO and its OVF. -/
  | clrLost (c : Cluster)
  /-- CLR_AMAX (R87): Writing a CLR_AMAX bit sets the named running amax register to +0. -/
  | clrAmax (c : Cluster) (k : Fin 8)
  /-- LOAD (R99): A bench LOAD firing validates the stationary tile, waits for the array to clear and writes the stationary and its checksum columns over 128 cycles. -/
  | benchLoad (c : Cluster) (b : BenchIx) (half : Bool) (overlap : BitVec 16)
  /-- STREAM (R100): A bench STREAM firing consumes one A tile, issues its rows and a checksum row, and accumulates, keeps or drains the result rows. -/
  | benchStream (c : Cluster) (b : BenchIx) (half : Bool) (overlap : BitVec 16) (stall : BitVec 16)
  /-- CLR_CHKFAIL_L (R117): Writing 1 clears CLU_BENCH_CHKFAIL_L. -/
  | clrChkfailL (c : Cluster) (b : BenchIx)
  /-- CLR_CHKFAIL_H (R117): Writing 1 clears CLU_BENCH_CHKFAIL_H. -/
  | clrChkfailH (c : Cluster) (b : BenchIx)
  /-- CLR_CHKSKIP (R117): Writing 1 clears CLU_BENCH_CHKSKIP. -/
  | clrChkskip (c : Cluster) (b : BenchIx)
  /-- CLR_ACC (R117): Writing 1 zeroes every accumulator row and poison bit of a quiesced bench. -/
  | clrAcc (c : Cluster) (b : BenchIx)
  /-- VEC_RUN (R123): A VEC firing is admitted: it samples FLUSH and SAT_EN, takes the desk snapshot, reads slot exponents and validates its inputs before running its program. -/
  | vecRun (c : Cluster)
  /-- VADD (R130): Vector element-wise addition. -/
  | vadd (c : Cluster) (i : VInsn)
  /-- VSUB (R130): Vector element-wise subtraction. -/
  | vsub (c : Cluster) (i : VInsn)
  /-- VMUL (R130): Vector element-wise multiplication. -/
  | vmul (c : Cluster) (i : VInsn)
  /-- VFMA (R130): Vector fused multiply-add with one rounding. -/
  | vfma (c : Cluster) (i : VInsn)
  /-- VMAX (R130): Vector element-wise maximum. -/
  | vmax (c : Cluster) (i : VInsn)
  /-- VMIN (R130): Vector element-wise minimum. -/
  | vmin (c : Cluster) (i : VInsn)
  /-- VABS (R130): Vector absolute value. -/
  | vabs (c : Cluster) (i : VInsn)
  /-- VNEG (R130): Vector negation. -/
  | vneg (c : Cluster) (i : VInsn)
  /-- VDOT4 (R130): INT8 four-term dot product into INT32 lanes. -/
  | vdot4 (c : Cluster) (i : VInsn)
  /-- VDOT2 (R130): 16-bit two-term dot product into FP32 lanes with one rounding. -/
  | vdot2 (c : Cluster) (i : VInsn)
  /-- VRCP (R130): Vector reciprocal, correctly rounded. -/
  | vrcp (c : Cluster) (i : VInsn)
  /-- VRSQRT (R130): Vector reciprocal square root. -/
  | vrsqrt (c : Cluster) (i : VInsn)
  /-- VEXP2 (R130): Vector power of two. -/
  | vexp2 (c : Cluster) (i : VInsn)
  /-- VLOG2 (R130): Vector base-2 logarithm. -/
  | vlog2 (c : Cluster) (i : VInsn)
  /-- VDIV (R130): Vector division. -/
  | vdiv (c : Cluster) (i : VInsn)
  /-- VSQRT (R130): Vector square root. -/
  | vsqrt (c : Cluster) (i : VInsn)
  /-- VCMP (R130): Vector compare into a mask register. -/
  | vcmp (c : Cluster) (i : VInsn)
  /-- VSEL (R130): Vector select under a mask. -/
  | vsel (c : Cluster) (i : VInsn)
  /-- MAND (R130): Mask AND. -/
  | mand (c : Cluster) (i : VInsn)
  /-- MOR (R130): Mask OR. -/
  | mor (c : Cluster) (i : VInsn)
  /-- MNOT (R130): Mask NOT. -/
  | mnot (c : Cluster) (i : VInsn)
  /-- MPOP (R130): Population count of a mask into every lane. -/
  | mpop (c : Cluster) (i : VInsn)
  /-- VAND (R130): Vector bitwise AND. -/
  | vand (c : Cluster) (i : VInsn)
  /-- VOR (R130): Vector bitwise OR. -/
  | vor (c : Cluster) (i : VInsn)
  /-- VXOR (R130): Vector bitwise exclusive OR. -/
  | vxor (c : Cluster) (i : VInsn)
  /-- VSHL (R130): Vector left shift. -/
  | vshl (c : Cluster) (i : VInsn)
  /-- VSHR (R130): Vector logical right shift. -/
  | vshr (c : Cluster) (i : VInsn)
  /-- VSAR (R130): Vector arithmetic right shift. -/
  | vsar (c : Cluster) (i : VInsn)
  /-- VCVT (R132): Vector conversion between element types, with optional unscaling. -/
  | vcvt (c : Cluster) (i : VInsn)
  /-- VMOV (R130): Vector register move. -/
  | vmov (c : Cluster) (i : VInsn)
  /-- VBRD (R130): Broadcast of a desk scalar into a vector register. -/
  | vbrd (c : Cluster) (i : VInsn)
  /-- VXB (R130): XOR-butterfly lane shuffle. -/
  | vxb (c : Cluster) (i : VInsn)
  /-- VROT (R130): Lane rotate. -/
  | vrot (c : Cluster) (i : VInsn)
  /-- VBCL (R130): Broadcast of one lane to every lane. -/
  | vbcl (c : Cluster) (i : VInsn)
  /-- VIDX (R130): Writes each element's index. -/
  | vidx (c : Cluster) (i : VInsn)
  /-- VRSUM (R136): Butterfly sum reduction in the fixed order. -/
  | vrsum (c : Cluster) (i : VInsn)
  /-- VRPROD (R136): Butterfly product reduction. -/
  | vrprod (c : Cluster) (i : VInsn)
  /-- VRMAX (R136): Maximum reduction. -/
  | vrmax (c : Cluster) (i : VInsn)
  /-- VRMIN (R136): Minimum reduction. -/
  | vrmin (c : Cluster) (i : VInsn)
  /-- VRAMAX (R136): Argmax reduction. -/
  | vramax (c : Cluster) (i : VInsn)
  /-- VRAMIN (R136): Argmin reduction. -/
  | vramin (c : Cluster) (i : VInsn)
  /-- VLD (R133): Load of 1,024 payload bytes of an input binding into a vector register. -/
  | vld (c : Cluster) (i : VInsn)
  /-- VST (R133): Store of active elements into an output buffer; a store beyond 32,767 fails that output. -/
  | vst (c : Cluster) (i : VInsn)
  /-- VLDH (R133): Load of an input tile's header into a vector register. -/
  | vldh (c : Cluster) (i : VInsn)
  /-- VSETH (R133): Sets an output header field from a desk scalar. -/
  | vseth (c : Cluster) (i : VInsn)
  /-- VRNG (R135): Fills a register with counter-based generator words. -/
  | vrng (c : Cluster) (i : VInsn)
  /-- VOUT (R126): Queues a lane value for a desk register s56–s63, written at the tile boundary. -/
  | vout (c : Cluster) (i : VInsn)
  /-- VSETA (R130): Sets an address register. -/
  | vseta (c : Cluster) (i : VInsn)
  /-- VADDA (R130): Adds to an address register. -/
  | vadda (c : Cluster) (i : VInsn)
  /-- VLOOP (R134): Opens a counted loop over the following instructions. -/
  | vloop (c : Cluster) (i : VInsn)
  /-- VEND (R124): Ends the VEC firing: completes, validates and writes the output tiles and consumes the inputs. -/
  | vend (c : Cluster)
  /-- VEC_IMEM_DATA_ACCESS (R148): An access to CLU_VEC_IMEM_DATA reads or writes the instruction at INDEX and advances INDEX when AUTOINC is set. -/
  | vecImemDataAccess (c : Cluster) (val : Option (BitVec 64))
  /-- DESK_MEM_DATA_ACCESS (R148): An access to CLU_DESK_MEM_DATA reads or writes the word at ADDR and advances ADDR when AUTOINC is set. -/
  | deskMemDataAccess (c : Cluster) (val : Option (BitVec 32))
  /-- DESK_RUN (R141): A DESK firing runs the script from ENTRY until HALT. -/
  | deskRun (c : Cluster)
  /-- ADD (R143): Desk register addition. -/
  | deskAdd (c : Cluster) (rd : BitVec 6) (ra : BitVec 6) (rb : BitVec 6)
  /-- SUB (R143): Desk register subtraction. -/
  | deskSub (c : Cluster) (rd : BitVec 6) (ra : BitVec 6) (rb : BitVec 6)
  /-- AND (R143): Desk bitwise AND. -/
  | deskAnd (c : Cluster) (rd : BitVec 6) (ra : BitVec 6) (rb : BitVec 6)
  /-- OR (R143): Desk bitwise OR. -/
  | deskOr (c : Cluster) (rd : BitVec 6) (ra : BitVec 6) (rb : BitVec 6)
  /-- XOR (R143): Desk bitwise exclusive OR. -/
  | deskXor (c : Cluster) (rd : BitVec 6) (ra : BitVec 6) (rb : BitVec 6)
  /-- SLL (R143): Desk left shift by register. -/
  | deskSll (c : Cluster) (rd : BitVec 6) (ra : BitVec 6) (rb : BitVec 6)
  /-- SRL (R143): Desk logical right shift by register. -/
  | deskSrl (c : Cluster) (rd : BitVec 6) (ra : BitVec 6) (rb : BitVec 6)
  /-- SRA (R143): Desk arithmetic right shift by register. -/
  | deskSra (c : Cluster) (rd : BitVec 6) (ra : BitVec 6) (rb : BitVec 6)
  /-- SLT (R143): Desk signed set-less-than. -/
  | deskSlt (c : Cluster) (rd : BitVec 6) (ra : BitVec 6) (rb : BitVec 6)
  /-- SLTU (R143): Desk unsigned set-less-than. -/
  | deskSltu (c : Cluster) (rd : BitVec 6) (ra : BitVec 6) (rb : BitVec 6)
  /-- MUL (R143): Desk multiply, low word. -/
  | deskMul (c : Cluster) (rd : BitVec 6) (ra : BitVec 6) (rb : BitVec 6)
  /-- MULHU (R143): Desk unsigned multiply, high word. -/
  | deskMulhu (c : Cluster) (rd : BitVec 6) (ra : BitVec 6) (rb : BitVec 6)
  /-- DIVU (R143): Desk unsigned divide. -/
  | deskDivu (c : Cluster) (rd : BitVec 6) (ra : BitVec 6) (rb : BitVec 6)
  /-- ADDI (R143): Desk add immediate. -/
  | deskAddi (c : Cluster) (rd : BitVec 6) (ra : BitVec 6) (imm : BitVec 14)
  /-- ANDI (R143): Desk AND immediate. -/
  | deskAndi (c : Cluster) (rd : BitVec 6) (ra : BitVec 6) (imm : BitVec 14)
  /-- ORI (R143): Desk OR immediate. -/
  | deskOri (c : Cluster) (rd : BitVec 6) (ra : BitVec 6) (imm : BitVec 14)
  /-- SLLI (R143): Desk left shift immediate. -/
  | deskSlli (c : Cluster) (rd : BitVec 6) (ra : BitVec 6) (sh : BitVec 5)
  /-- SRLI (R143): Desk logical right shift immediate. -/
  | deskSrli (c : Cluster) (rd : BitVec 6) (ra : BitVec 6) (sh : BitVec 5)
  /-- SRAI (R143): Desk arithmetic right shift immediate. -/
  | deskSrai (c : Cluster) (rd : BitVec 6) (ra : BitVec 6) (sh : BitVec 5)
  /-- LUI (R143): Desk load upper immediate. -/
  | deskLui (c : Cluster) (rd : BitVec 6) (imm : BitVec 20)
  /-- LW (R143): Desk load of a data word. -/
  | deskLw (c : Cluster) (rd : BitVec 6) (ra : BitVec 6) (imm : BitVec 14)
  /-- SW (R143): Desk store of a data word. -/
  | deskSw (c : Cluster) (rb : BitVec 6) (ra : BitVec 6) (imm : BitVec 14)
  /-- LBU (R143): Desk load of a data byte, zero-extended. -/
  | deskLbu (c : Cluster) (rd : BitVec 6) (ra : BitVec 6) (imm : BitVec 14)
  /-- SB (R143): Desk store of a data byte. -/
  | deskSb (c : Cluster) (rb : BitVec 6) (ra : BitVec 6) (imm : BitVec 14)
  /-- BEQ (R143): Desk branch if equal. -/
  | deskBeq (c : Cluster) (ra : BitVec 6) (rb : BitVec 6) (imm : BitVec 14)
  /-- BNE (R143): Desk branch if not equal. -/
  | deskBne (c : Cluster) (ra : BitVec 6) (rb : BitVec 6) (imm : BitVec 14)
  /-- BLT (R143): Desk branch if less than, signed. -/
  | deskBlt (c : Cluster) (ra : BitVec 6) (rb : BitVec 6) (imm : BitVec 14)
  /-- BGE (R143): Desk branch if greater or equal, signed. -/
  | deskBge (c : Cluster) (ra : BitVec 6) (rb : BitVec 6) (imm : BitVec 14)
  /-- BLTU (R143): Desk branch if less than, unsigned. -/
  | deskBltu (c : Cluster) (ra : BitVec 6) (rb : BitVec 6) (imm : BitVec 14)
  /-- BGEU (R143): Desk branch if greater or equal, unsigned. -/
  | deskBgeu (c : Cluster) (ra : BitVec 6) (rb : BitVec 6) (imm : BitVec 14)
  /-- JAL (R143): Desk jump and link. -/
  | deskJal (c : Cluster) (rd : BitVec 6) (imm : BitVec 20)
  /-- JALR (R143): Desk jump and link through a register. -/
  | deskJalr (c : Cluster) (rd : BitVec 6) (ra : BitVec 6) (imm : BitVec 14)
  /-- FADD (R144): Desk FP32 addition. -/
  | deskFadd (c : Cluster) (rd : BitVec 6) (ra : BitVec 6) (rb : BitVec 6)
  /-- FSUB (R144): Desk FP32 subtraction. -/
  | deskFsub (c : Cluster) (rd : BitVec 6) (ra : BitVec 6) (rb : BitVec 6)
  /-- FMUL (R144): Desk FP32 multiplication. -/
  | deskFmul (c : Cluster) (rd : BitVec 6) (ra : BitVec 6) (rb : BitVec 6)
  /-- FLT (R143): Desk FP32 less-than comparison. -/
  | deskFlt (c : Cluster) (rd : BitVec 6) (ra : BitVec 6) (rb : BitVec 6)
  /-- FCVTWS (R144): Desk conversion of FP32 to INT32, saturating. -/
  | deskFcvtws (c : Cluster) (rd : BitVec 6) (ra : BitVec 6)
  /-- FCVTSW (R143): Desk conversion of INT32 to FP32. -/
  | deskFcvtsw (c : Cluster) (rd : BitVec 6) (ra : BitVec 6)
  /-- MWAIT (R145): The desk waits for a milestone to be reached and takes its CODE. -/
  | deskMwait (c : Cluster) (rd : BitVec 6) (ra : BitVec 6)
  /-- MWAIT_TIMEOUT (R145): WAIT_LIMIT expires during an MWAIT, which ends with rd = 0xFF. -/
  | mwaitTimeout (c : Cluster)
  /-- MINC (R145): The desk increments a milestone. -/
  | deskMinc (c : Cluster) (ra : BitVec 6) (rb : BitVec 6)
  /-- MTGT (R143): The desk sets a milestone's TARGET. -/
  | deskMtgt (c : Cluster) (ra : BitVec 6) (rb : BitVec 6)
  /-- MRD (R143): The desk reads a milestone's COUNT. -/
  | deskMrd (c : Cluster) (rd : BitVec 6) (ra : BitVec 6)
  /-- CSRR (R143): The desk reads a CSR. -/
  | deskCsrr (c : Cluster) (rd : BitVec 6) (csr : BitVec 12)
  /-- CSRW (R143): The desk writes a CSR. -/
  | deskCsrw (c : Cluster) (rb : BitVec 6) (csr : BitVec 12)
  /-- LDX (R144): The desk reads a BAR0 word in its cluster window. -/
  | deskLdx (c : Cluster) (rd : BitVec 6) (ra : BitVec 6) (imm : BitVec 14)
  /-- STX (R144): The desk writes a BAR0 word in its cluster window, as a host write would. -/
  | deskStx (c : Cluster) (rb : BitVec 6) (ra : BitVec 6) (imm : BitVec 14)
  /-- TIN (R143): The desk copies an input tile into data memory. -/
  | deskTin (c : Cluster) (rd : BitVec 6) (ra : BitVec 6) (bind : BitVec 2)
  /-- TOUT (R144): The desk emits a tile from data memory on an output binding. -/
  | deskTout (c : Cluster) (ra : BitVec 6) (bind : BitVec 1)
  /-- HALT (R141): Ends the DESK firing at its tile boundary and consumes its inputs. -/
  | deskHalt (c : Cluster)
  /-- MEM_WRITE (R202): A DRAWER or SHELF WRITE firing stores one tile into the next record of its region or view. -/
  | memWrite (e : Endpt)
  /-- MEM_READ (R203): A DRAWER or SHELF READ firing emits one record, poisoned where uncorrectable, or stops on a bad header. -/
  | memRead (e : Endpt) (strikes : List (Nat × Nat))
  /-- DRAWER_SCRUB (R189): The drawer patrol scrub reads and corrects a word in an idle bank cycle, logging double-bit errors. -/
  | drawerScrub (c : Cluster) (w : BitVec 21) (err : Fin 3)
  /-- SHELF_SCRUB (R193): The shelf patrol scrub visits a line, writes back corrections and poisons uncorrectable lines. -/
  | shelfScrub (ch : Shelf) (line : BitVec 32) (err : Fin 17) (raced : Bool) (stalled : Option Graph) (n : BitVec 16)
  /-- SHELF_REFRESH (R194): A DRAM refresh occupies the channel. -/
  | shelfRefresh (ch : Shelf) (stalled : Option Graph) (n : BitVec 16)
  /-- DRW_CLR_CE (R207): Writing 1 clears CLU_DRW_ECC_CE. -/
  | drwClrCe (c : Cluster)
  /-- DRW_CLR_UE (R207): Writing 1 clears CLU_DRW_ECC_UE. -/
  | drwClrUe (c : Cluster)
  /-- SHF_CLR_CE (R207): Writing 1 clears SHF_ECC_CE. -/
  | shfClrCe (ch : Shelf)
  /-- SHF_CLR_UE (R207): Writing 1 clears SHF_ECC_UE. -/
  | shfClrUe (ch : Shelf)
  /-- TILE_CELL_RX (R220): A TILE cell reaches its destination chip and is accepted, dropped or written into its slot's reassembly. -/
  | tileCellRx (src : Option Link) (c : Cell) (parity : Bool)
  /-- CREDIT_CELL_SEND (R216): The receiving side sends a CREDIT cell carrying TILES_DONE, unless the graph's receive allowance at the port holds it. -/
  | creditCellSend (n : StreamNo)
  /-- CREDIT_CELL_RX (R216): A CREDIT cell reaches the sending side, which takes a newer TILES_DONE, counts completions and recomputes CREDITS. -/
  | creditCellRx (src : Option Link) (c : Cell) (parity : Bool)
  /-- MLS_INC_CELL (R217): An MLS_INC cell applies its amount to a milestone at the destination chip. -/
  | mlsIncCell (src : Option Link) (c : Cell)
  /-- CELL_ROUTE (R230): A unicast cell is looked up axis by axis and delivered, queued for a route alternative with credit, or dropped. -/
  | cellRoute (src : Option Link) (vc : BitVec 3) (parity : Option Bool)
  /-- MCAST_CELL (R236): A multicast cell is delivered locally and copied to each unfenced port of its group entry. -/
  | mcastCell (src : Option Link) (vc : BitVec 3) (parity : Option Bool)
  /-- NOTICE_CELL (R237): A FENCE, LINK_DOWN or QUARANTINE notice reaches the management endpoint and is passed to desk 0 firmware for reporting. -/
  | noticeCell (src : Option Link) (c : Cell)
  /-- FENCE_ENTRY_WRITE (R239): A write to a LNK_FENCE entry governs lookups from the next MCLK cycle. -/
  | fenceEntryWrite (i : Fin 64) (chip : ChipId) (valid : Bool)
  /-- MCAST_FENCED_WRITE (R243): A write to FENCED of a LNK_MCAST entry governs copies from the next MCLK cycle. -/
  | mcastFencedWrite (g : Fin 4096) (mask : BitVec 16)
  /-- ROUTER_COUNTER_CLEAR (R242): A write to LNK_RT_CLR clears the router counters whose bits are set. -/
  | routerCounterClear (mask : BitVec 9)
  /-- FRAME_TX (R233): A link sends a frame whose positions are filled by VC0 cells, then data VCs round robin, and PAD, with a trailer carrying acknowledgements and credits. -/
  | frameTx (l : Link) (struck : List (Fin 16 × Bool))
  /-- FRAME_RX (R252): A received frame is accepted or rejected with a NAK, and its trailer's acknowledgements, NAK and credits are acted on. -/
  | frameRx (l : Link) (frame : List Byte) (bad : Bool) (corr : Nat) (uncorr : Nat) (lossy : Bool)
  /-- REPLAY_TIMEOUT (R251): The oldest held frame has stayed unacknowledged for 2 µs, and the transmitter replays from it. -/
  | replayTimeout (l : Link)
  /-- NAK_RETRY_TIMEOUT (R252): No replayed frame has been accepted within 2 µs of a NAK, and the receiver sends NAK again. -/
  | nakRetryTimeout (l : Link)
  /-- LINK_LIGHT_LOST (R248): A receive lane loses light, and the link goes to DARK. -/
  | linkLightLost (l : Link) (lit : BitVec 8)
  /-- LINK_LIGHT_PRESENT (R248): Light is present on all eight receive lanes with DARK = 0, and the link enters LOCK. -/
  | linkLightPresent (l : Link)
  /-- LINK_LOCK_DONE (R248): Every lane's clock is recovered, and the link enters FEC. -/
  | linkLockDone (l : Link)
  /-- LINK_FEC_DONE (R248): Codeword alignment is found, and the link enters FRAME. -/
  | linkFecDone (l : Link)
  /-- LINK_FRAME_DONE (R248): Four consecutive trailers pass TCRC, and the link enters CREDIT. -/
  | linkFrameDone (l : Link)
  /-- CREDIT_HANDSHAKE (R249): The credit handshake completes, and the link enters SERVICE_ONLY with CAUSE PENDING. -/
  | creditHandshake (l : Link) (ns : BitVec 16)
  /-- LINK_STAGE_TIMEOUT (R248): A bring-up stage exceeds its limit, and the link returns to LOCK with LNK_RETRAINS incremented. -/
  | linkStageTimeout (l : Link)
  /-- DARK (R248): Writing DARK unlights the transmitter and takes the link to DARK; clearing it allows bring-up. -/
  | dark (l : Link) (on : Bool)
  /-- RETRAIN (R250): Writing RETRAIN takes the link down to LOCK. -/
  | retrain (l : Link)
  /-- LINK_COUNTER_CLEAR (R270): Writing the CLR bits of LNK_CTRL clears the named link counters. -/
  | linkCounterClear (l : Link) (mask : BitVec 8)
  /-- WAYMARK_SEND (R262): A link sends a waymark each 1 ms, and within 10 µs of a discovery change. -/
  | waymarkSend (l : Link)
  /-- WAYMARK_RX (R263): A waymark is consumed by the management endpoint, replaces the peer record and re-judges link admission. -/
  | waymarkRx (l : Link)
  /-- ELECTION_RECOMPUTE (R266): Desk 0 firmware recomputes the origin election and the discovered coordinate. -/
  | electionRecompute (stale : BitVec 36)
  /-- DISC_SETTLE (R267): The coordinate and ORIGIN stay unchanged for SETTLE_MS, and DISC_STABLE is set. -/
  | discSettle
  /-- COLL (R279): A VUSYN COLL firing stages a contribution tile into WORK, or emits a result tile, for one collective instance. -/
  | coll (v : Vusyn) (parity : Bool)
  /-- PIECE_SEND (R282): A Vusyn sends a piece message of a stage to a ring or clique partner once it has a partial and a free message slot. -/
  | pieceSend (t : BitVec 12) (k : MsgKey) (struck : List (Fin 512))
  /-- PIECE_MESSAGE (R291): A whole piece message passes the endpoint, epoch, instance, signature and layout checks and is combined or kept in WORK. -/
  | pieceMessage (cells : List Cell) (struck : List (Fin 512))
  /-- COLL_CREDIT (R290): A collective CREDIT cell returns a count of released messages to the sending Vusyn. -/
  | collCredit (c : Cell)
  /-- ABORT_CELL (R294): An ABORT cell ends the named instance at this member and is forwarded once to its partners. -/
  | abortCell (c : Cell)
  /-- ENTER_CELL (R311): An ENTER cell is checked and recorded, and lateness counters are updated once all members have entered. -/
  | enterCell (c : Cell)
  /-- COLL_WATCHDOG_FIRE (R295): An active instance makes no progress for COLL_WD units, and it ends with STALLED. -/
  | collWatchdogFire (t : BitVec 12)
  /-- LAG_CLEAR (R313): Writing CLR in VSY_LAG_CFG clears the lateness window and VSY_LAGGARD. -/
  | lagClear
  /-- COLL_COUNTER_CLEAR (R313): A write to VSY_CNT_CLR clears the named collective counters. -/
  | collCounterClear (mask : BitVec 5)
  /-- COMMIT_ATTEMPT (R178): A rise of REACHED of COMMIT_MLS starts a commit attempt: IN_COMMIT is set and pass A begins. -/
  | commitAttempt (g : Graph)
  /-- COMMIT_CELL (R300): A COMMIT cell is merged into its pass, and finishing pass A, pass B or a DETOUR pass fixes or applies the outcome. -/
  | commitCell (c : Cell)
  /-- COMMIT_WATCHDOG_FIRE (R301): A commit pass waits for COMMIT_WD units, and the member abandons the attempt and applies HALT. -/
  | commitWatchdogFire (g : Graph)
  /-- STEP_HALT (R181): Writing HALT in GLB_STEP_CTRL halts the graph as if frozen on the chip. -/
  | stepHalt (g : Graph)
  /-- RESUME (R181): Writing RESUME clears HALTED and starts a held commit attempt if there is one. -/
  | resume (g : Graph)
  /-- ROLLBACK (R184): Writing ROLLBACK toggles CUR_HALF and decrements the step number when halted, idle, after a PASS and with NEXT_DIRTY = 0, and otherwise sets RB_REFUSED. -/
  | rollback (g : Graph)
  /-- FORCE_FAIL (R177): Writing FORCE_FAIL raises commit source 9 in the current attempt. -/
  | forceFail (g : Graph)
  /-- STEP_NUM_WRITE (R185): A write to GLB_STEP_NUM takes effect only while the graph is halted and idle or not enabled. -/
  | stepNumWrite (g : Graph) (v : BitVec 32)
  /-- FAIL_HOLD_EXPIRY (R303): Every link to a chip has been out of UP for FAIL_HOLD_MS in SERVICE, and firmware declares the chip failed. -/
  | failHoldExpiry (chip : ChipId)
  /-- FAIL_DECLARE (R303): Writing GO in VSY_FAIL_DECLARE declares a listed chip failed in SERVICE with a plan active. -/
  | failDeclare (chip : ChipId)
  /-- FAIL_NOTICE (R304): A FAIL notice with a matching PLAN_HASH records the failure of its chip. -/
  | failNotice
  /-- FABRIC_ROLE_WRITE (R310): A write to GLB_MODE.ROLE changes the fabric role from the next CCLK cycle. -/
  | fabricRoleWrite (r : BitVec 2)
  /-- BUCKET (R316): A VUSYN BUCKET firing stages BF16 gradient contributions, or emits finished FP32 shard tiles, for one bucket instance. -/
  | bucket (v : Vusyn) (parity : Bool)
  /-- BUCKET_FINISH (R320): Once a column's reduce-scatter stages are complete, the owner scales its FP32 sums, runs the dual-path comparisons and NaN capture, and increments MLS_FIN. -/
  | bucketFinish (t : BitVec 12) (col : BitVec 32) (parity : Bool)
  /-- SAMPLE_MESSAGE (R333): A whole sample message is accepted and its exact partials are combined by exact addition. -/
  | sampleMessage (cells : List Cell) (struck : List (Fin 512))
  /-- PUBLISH (R324): A PUBLISH firing multicasts one BF16 parameter tile of the owner's or a played shard. -/
  | publish (v : Vusyn) (parity : Bool)
  /-- GATHER (R316): A GATHER firing arms the gather of the bucket instance. -/
  | gather (v : Vusyn)
  /-- PUBLICATION_MESSAGE (R325): A publication message is written into PREGION, and into MREGION for the successor; the last record completes the gather. -/
  | publicationMessage (cells : List Cell) (struck : List (Fin 512))
  /-- GRAD_COUNTER_CLEAR (R340): A write to VSY_GRAD_CLR clears the named gradient counters. -/
  | gradCounterClear (mask : BitVec 3)
  /-- PLAN_CTRL_LOAD (R351): Writing LOAD in GLB_PLAN_CTRL starts a plan load when LOAD_STATE is IDLE, and otherwise sets BUSY_REJECT. -/
  | planCtrlLoad
  /-- ABANDON (R353): Writing ABANDON in CHECKING or ARMED ends the load with RESULT ABANDONED. -/
  | abandon (load : Bool)
  /-- TOLLGATE_CHECK (R358): The tollgate completes its checks and either arms the load, quiescing the stations under AUTO_QUIESCE, or refuses it. -/
  | tollgateCheck
  /-- QUIESCENT_POINT (R354): An armed load reaches a cycle with every station quiesced, no commit in progress and no HOST DMA outstanding, and it enters ACTIVATING. -/
  | quiescentPoint
  /-- ACTIVATION_CYCLE (R356): After the re-read checks pass, every table of the new plan replaces the old one in one CCLK cycle, which begins a period. -/
  | activationCycle
  /-- COMMAND_ACCEPT (R382): A command ring accepts the entry at HEAD when it is running, has room and HSEQ matches, and otherwise stops on a sequence or fetch error. -/
  | commandAccept (r : Ring) (entry : Option (BitVec 512))
  /-- NOP (R379): Command that does nothing and completes at once. -/
  | nop (r : Ring)
  /-- REG_WR (R379): Command that writes a BAR0 register as a host write. -/
  | regWr (r : Ring)
  /-- REG_RD (R379): Command that reads a BAR0 register into RESULT. -/
  | regRd (r : Ring)
  /-- MLS_INC (R379): Command that increments a milestone as a write to MLS_INC. -/
  | mlsInc (r : Ring)
  /-- MLS_WAIT (R379): Command that completes when a milestone is reached, returning CODE and COUNT. -/
  | mlsWait (r : Ring)
  /-- COPY_H2D (R380): Command that copies host memory into device memory. -/
  | copyH2D (r : Ring) (hseq : BitVec 32) (data : List Byte) (err : Bool) (stalls : List (Cluster × Graph))
  /-- COPY_D2H (R380): Command that copies device memory into host memory. -/
  | copyD2H (r : Ring) (hseq : BitVec 32) (n : BitVec 32) (err : Bool) (stalls : List (Cluster × Graph))
  /-- PLAN_LOAD (R379): Command that writes GLB_PLAN_ADDR and LOAD and completes when the load returns to IDLE. -/
  | planLoad (r : Ring)
  /-- BUDGET (R379): Command that writes GLB_BUDGET_SET.SEL and completes when the change takes effect or is cancelled. -/
  | budget (r : Ring) (late : Bool)
  /-- SNAPSHOT (R379): Command that requests a counter snapshot and returns CNT_SNAP_SEQ. -/
  | snapshot (r : Ring)
  /-- FENCE (R379): Command that completes when every earlier command of its ring has completed. -/
  | fence (r : Ring)
  /-- COAL_TIMER_EXPIRY (R394): COAL_US passes after the first unsignalled completion, and the ring's vector is signalled. -/
  | coalTimerExpiry (n : Ring)
  /-- CMD_RING_RUN (R386): Writing RUN starts or stops acceptance on a command ring; STOPPED is set once nothing is in flight. -/
  | cmdRingRun (r : Ring) (run : Bool)
  /-- CMD_RING_RESET (R386): Writing RESET while STOPPED sets HEAD and TAIL to 0, and is otherwise discarded. -/
  | cmdRingReset (r : Ring)
  /-- ABORT_WAITS (R386): Writing RESET with ABORT_WAITS completes every waiting MLS_WAIT with ABORTED and resets the ring once it stops. -/
  | abortWaits (r : Ring)
  /-- CPL_RING_CONFIG_WRITE (R386): A write to a completion ring's BASE, SIZE_LOG2 or SEQ_NEXT, when no naming ring is active, resets HEAD, TAIL and PHASE. -/
  | cplRingConfigWrite (n : Ring) (base : Option (BitVec 58)) (size : Option (BitVec 5)) (seq : Option (BitVec 32))
  /-- PUT (R389): A HOST PUT firing writes one tile as a frame into a free slot of a device-to-host queue and advances DEV_IDX. -/
  | put (begins : Bool)
  /-- GET (R390): A HOST GET firing reads the frame at DEV_IDX, judges ALIVE and the check value, and emits, discards or faults. -/
  | get (frame : Option (List Byte × Bool)) (begins : Bool)
  /-- CONVENTIONAL_RESET (R377): PERST_N or a hot reset resets the whole device, or with PRESERVE = 1 only the PCIe port and the HST block. -/
  | conventionalReset (data : List (Ring × BitVec 32 × List Byte)) (o : StartUp)
  /-- FUNCTION_LEVEL_RESET (R377): A Function Level Reset resets the HST block, stopping rings and queues, and leaves the link trained. -/
  | functionLevelReset (data : List (Ring × BitVec 32 × List Byte))
  /-- GET_CERT (R409): DOE request that returns the identity certificate. -/
  | getCert (vendor : BitVec 16) (type : BitVec 8)
  /-- GET_REPORT (R410): DOE request that returns a signed attestation report over the chosen measurements and the nonce. -/
  | getReport (vendor : BitVec 16) (type : BitVec 8) (mask : BitVec 16) (nonce : BitVec 256)
  /-- FW_WRITE (R404): SEC command that programs staged bytes into a firmware slot and marks it unsealed. -/
  | fwWrite (slot : Bool) (again : Bool)
  /-- FW_SEAL (R404): SEC command that verifies a slot and records it valid, clearing BAD, or invalid. -/
  | fwSeal (slot : Bool) (again : Bool)
  /-- SET_PREF (R404): SEC command that sets PREF_SLOT to a sealed valid slot. -/
  | setPref (slot : Bool) (again : Bool)
  /-- COMMIT_SVN (R403): SEC command that blows fuse bits until the fused SVN equals RUN_SVN. -/
  | commitSvn (again : Bool)
  /-- ENROLL (R412): SEC command that acts on a signed enrolment record to store or revoke a customer key and the signing policy. -/
  | enroll (again : Bool) (load : Bool)
  /-- DEBUG_UNLOCK (R413): SEC command that accepts a signed unlock token and sets DEBUG_UNLOCKED. -/
  | debugUnlock (again : Bool) (load : Bool)
  /-- MEAS_EXTEND (R408): Writing GO in SEC_EXT_CTRL extends measurement register 8–15 with SEC_EXT_DATA. -/
  | measExtend (idx : BitVec 4) (again : Bool)
  /-- POWER_ON (R414): Power-on or a full reset runs the start-up steps from power good through discovery to START_UP. -/
  | powerOn (o : StartUp)
  /-- BOOT_WATCHDOG_EXPIRY (R402): Firmware has not set BOOT_OK 30 s after starting, and Bigefel marks the slot BAD and resets the device. -/
  | bootWatchdogExpiry (o : StartUp)
  /-- ROOT_LOCK_LOST (R421): The root PLL loses lock; the synchronous clocks stop and the AO domain resets the device with LOCK_LOST set. -/
  | rootLockLost (o : StartUp)
  /-- IDLE_REQUEST (R427): Writing IDLE = 1 enters P1 when every station is quiesced and no load or commit is in progress, and is otherwise refused. -/
  | idleRequest
  /-- IDLE_EXIT (R427): Writing IDLE = 0 returns the chip to P0 within 1 µs, or cancels a pending entry. -/
  | idleExit
  /-- ARM (R429): Writing ARM arms entry to P2 under the conditions of R427. -/
  | arm
  /-- CANCEL (R429): Writing CANCEL disarms P2 entry before the commit. -/
  | cancel
  /-- WATCH_COMMIT (R429): An armed chip whose function is in D3hot or has no link commits to P2: the plan ends, links darken, shelves self-refresh and the dies are gated. -/
  | watchCommit (d3 : Bool) (clkreq : Bool) (o : StartUp)
  /-- WATCH_SAMPLE (R433): Each PERIOD_MS in P2 the sampler reads temperatures and service light, stores them and wakes the chip on an enabled threshold. -/
  | watchSample (t : Temps) (light : Bool) (o : StartUp)
  /-- SMBUS_ADDRESS_MATCH (R436): An SMBus start condition matching ADDR in P2 is acknowledged, SCL is held and the chip wakes. -/
  | smbusAddressMatch (addr : BitVec 7) (window : Bool) (read : SmbRead) (o : StartUp)
  /-- WAKE_N_LOW (R435): WAKE_N held low wakes the chip from P2, or after 10 ms restarts the converter from P3. -/
  | wakeNLow (low : Bool) (held : Bool) (input : Bool) (o : StartUp)
  /-- PCIE_WAKE (R435): The host asserts CLKREQ# to leave L1.2, or writes D0 to the function, and the chip wakes from P2. -/
  | pcieWake (d0 : Bool) (o : StartUp)
  /-- OFF (R432): Writing OFF switches the module converter off into P3 under the conditions of R427. -/
  | off
  /-- INPUT_POWER_LOSS (R490): The 72 V input fails or the board removes it, and all volatile state and the step in progress are lost. -/
  | inputPowerLoss (cut : Option (Fin 2))
  /-- MODULE_WITHDRAWAL (R493): Withdrawal breaks PRSNT_N first, and the converter stops at once. -/
  | moduleWithdrawal (cut : Option (Fin 2))
  /-- THERMAL_TRIP (R500): A die reading reaches 110 °C, and the AO domain removes the module rails within 1 ms, leaving the module in P3. -/
  | thermalTrip (cut : Option (Fin 2))
  /-- SNAPSHOT_REQUEST (R473): Writing GO to CNT_SNAPSHOT requests a snapshot, or joins one that is pending. -/
  | snapshotRequest
  /-- SNAPSHOT_COMPLETE (R473): Every shadow copy is complete, CNT_SNAP_SEQ increments and PENDING falls. -/
  | snapshotComplete
  /-- FAULT_RECORD_POST (R478): Firmware posts a fault record, coalesces it into the newest record, or counts it lost when the log is full. -/
  | faultRecordPost (recent : Bool) (cycles : BitVec 16)
  /-- CLR_FLT_LOST (R487): Writing 1 clears CNT_FLT_LOST. -/
  | clrFltLost
  /-- CLR_DRAIN_DROP (R487): Writing 1 clears CNT_DRAIN_DROP. -/
  | clrDrainDrop
  /-- REWIND (R485): Writing REWIND for a halted, idle graph with step transactions starts its rewind drain, and is otherwise refused. -/
  | rewind (g : Graph) (outcome : Bool)
  /-- REWIND_DRAIN_END (R484): DRAIN_US passes, and the graph's instances, contexts, milestones and stations are returned to the attempt mark. -/
  | rewindDrainEnd (g : Graph)
  /-- FOLD (R446): A CHECK FOLD firing folds a tile into CHK_STATE and passes it on. -/
  | fold (u : CheckUnit)
  /-- CHECK_SEAL (R446): A CHECK SEAL firing folds a tile, appends the check value and restarts the state. -/
  | checkSeal (u : CheckUnit)
  /-- VERIFY (R446): A CHECK VERIFY firing folds a tile, compares and strips the check value, and poisons the tile on a mismatch. -/
  | verify (u : CheckUnit)
  /-- CHECK_STATE_WRITE (R448): A write to CHK_STATE is applied only while the station is quiesced and between queue frames, and otherwise sets WR_REJECT. -/
  | checkStateWrite (u : CheckUnit) (v : BitVec 64)
  /-- CHECK_CONFIG_WRITE (R451): A write to CHK_CFG, POLY, INIT or XOROUT is applied only when quiesced, between queue frames and valid. -/
  | checkConfigWrite (u : CheckUnit) (reg : Fin 4) (v : BitVec 64)
  /-- CLR_MISMATCH (R451): Writing 1 clears CHK_MISMATCH. -/
  | clrMismatch (u : CheckUnit)
  /-- APPEND (R461): A CHEST APPEND firing programs one tile record into the pages of an OPEN slot. -/
  | append (units : BitVec 32) (bad : List Nat)
  /-- CHEST_READ (R462): A CHEST READ firing emits the record at the slot's read cursor and advances the cursor. -/
  | chestRead (units : BitVec 32) (reads : List PageRead)
  /-- OPEN (R459): Chest command that reserves pages for an EMPTY slot and makes it OPEN. -/
  | chestOpen (k : BitVec 7) (bad : List Nat) (again : Bool)
  /-- CHEST_SEAL (R459): Chest command that waits for appends to finish, writes the directory and makes the slot SEALED. -/
  | chestSeal (k : BitVec 7) (bad : List Nat) (again : Bool)
  /-- ERASE (R459): Chest command that empties a slot and returns its blocks to the pool. -/
  | erase (k : BitVec 7) (bad : List Nat) (again : Bool)
  /-- PARK (R459): Chest command that opens a plan slot, copies bytes from the shelves and seals it. -/
  | park (k : BitVec 7) (bad : List Nat) (media : Bool) (again : Bool)
  /-- UNPARK (R459): Chest command that copies a sealed plan slot to the shelves. -/
  | unpark (k : BitVec 7) (reads : List PageRead) (again : Bool)
  /-- CHEST_REWIND (R459): Chest command that sets a slot's read cursor to record 0. -/
  | chestRewind (k : BitVec 7) (again : Bool)
  /-- FORMAT (R459): Chest command that erases every good block, rebuilds the block table and empties every slot. -/
  | format (factory : List Nat) (bad : List Nat) (again : Bool)
  /-- CHEST_SCRUB_PASS (R466): Every SCRUB_DAYS a pass reads every programmed page and relocates weak blocks. -/
  | chestScrubPass (reads : List PageRead) (bad : List Nat)
  /-- CHEST_COUNTER_CLEAR (R469): A write to CHS_CLR clears the named chest counters. -/
  | chestCounterClear (mask : BitVec 6)
  /-- LASER_OFF (R497): Writing an OFF bit in PWR_LASER darkens the unit's twelve transmitters; clearing it lights the unit. -/
  | laserOff (k : Fin 3) (off : Bool)
  /-- LASER_INSERT (R497): A laser unit is seated, PRESENT rises and, with OFF = 0, the unit lights within 50 ms and its links start bring-up. -/
  | laserInsert (k : Fin 3)
  /-- LASER_REMOVE (R497): A laser unit is withdrawn, and its links fall. -/
  | laserRemove (k : Fin 3)
  /-- LASER_FAULT (R497): A laser unit cannot hold its comb, sets FAULT and darkens itself. -/
  | laserFault (k : Fin 3)
  /-- TEMPERATURE_REFRESH (R438): Every 1 ms in P0 and P1 the die and coolant readings in PWR_TEMP are refreshed, and ALERT_N is asserted or released against DIE_HI and COOL_HI. -/
  | temperatureRefresh (t : Temps)
  /-- ILLEGAL_INSTRUCTION (R147): The desk issues a script word with a reserved OP or a non-zero unused field, which has no effect, stops the script context as an abort and records CAUSE ILLEGAL in CLU_DESK_FAULT. -/
  | illegalInstruction (c : Cluster)
  /-- PCIE_LINK_TRAINING (R373): The PCIe port trains, retrains or loses its link with a partner, HST_LINK reports the new rate and width, and the HOST CAP follows at the next period boundary. -/
  | pcieLinkTraining (rate : Fin 7) (width : BitVec 5) (flit : Bool) (cfg : Option (PcieCfg × Fin 13))
  /-- DOE_INVALID_REQUEST (R409): A DOE request of another OPCODE or length is answered with a one-dword response holding 0xFF. -/
  | doeInvalidRequest (vendor : BitVec 16) (type : BitVec 8)
  deriving DecidableEq, Repr

end Sys2Proof
end

