-- ==== Sys2Proof/Machine/State.lean ====
section
/-!
DEFINITION. The state of the CH4 block as plain data: the BAR0 registers in one sparse store of fields, the memories, the tile
slots, the station programs, the queues of the fabric and the host port, and the queue of waiting commands.
-/

namespace Sys2Proof.Machine

/-- A sparse map from keys to values in canonical form: keys strictly rising, no entry at the map's default. -/
abbrev Map := List (Nat × Nat)

/-- A register field: its bit address in BAR0, its width, and its reset value (R2, R30). -/
structure Field where
  key : Nat
  width : Nat
  reset : Nat
  deriving DecidableEq, Repr

/-- The access codes of R2. -/
inductive Access where
  | rw | ro | wo | w1c | w1s | rc
  deriving DecidableEq, Repr

/-- A field within a register: its low bit, width, access code and reset value. -/
structure FieldDef where
  lo : Nat
  width : Nat
  acc : Access
  reset : Nat
  deriving DecidableEq, Repr

/-- A row of the register map: `count` registers of `size` bytes at `base`, `stride` apart. -/
structure RegDef where
  base : Nat
  stride : Nat
  count : Nat
  size : Nat
  fields : List FieldDef
  deriving DecidableEq, Repr

/-- The sparse memories and tables whose cells are plain numbers. -/
inductive Bank where
  /-- snapshot copies of the SNAP counters, by field key (R473–R475). -/
  | shadow
  /-- per on-chip stream, the SEQ of the next tile its consumer takes (R31; log entry 6). -/
  | rxSeq
  /-- per stream, tiles completed since plan activation (R35). -/
  | tilesSince
  /-- per stream, TILES_DONE at plan activation (R35). -/
  | activeBase
  /-- per budget key, the duration in CCLK cycles of the firing that may leave time-class debt (R41). -/
  | fireLen
  /-- per stream, tiles produced in the current step attempt: t of R80. -/
  | stepTile
  /-- per sending end, tiles begun since plan activation (R216). -/
  | begun
  /-- per receiving end, the TILES_DONE that the last CREDIT cell carried (R216). -/
  | consumedSince
  /-- per graph, a rise of COMMIT_MLS that has started no attempt yet (R178, R506). -/
  | commitDue
  /-- per completion ring, passes through the ring modulo 2 (R381). -/
  | cplPhase
  /-- per completion ring, entries posted since the last signal (R394). -/
  | cplSince
  /-- per command ring, a RESET with ABORT_WAITS waits for STOPPED (R386). -/
  | resetAsked
  /-- per cluster and graph (8 × c + g), VEC firings of the current step attempt: t of R135. -/
  | vecOrd
  /-- per bench part (2 × bench + half), the loaded stationary tile as header and payload bits (R99). -/
  | stationary
  /-- per bench part, 256 + the exponent E_w held with the stationary; 0 when the tile is not SCALED (R99). -/
  | statExp
  /-- per bench and accumulator row (bench × 1,024 + row), 128 words of 32 bits (R97). -/
  | accRow
  /-- per bench and accumulator row, the poison bits of the two halves (R97). -/
  | accPoison
  /-- per bench part, rows of the current STREAM step already streamed: j of R101. -/
  | streamRow
  /-- per bench part, the firing admitted last in this period: 16 × its CCLK cycles + its graph, 8 where it has none (R107). -/
  | lastFire
  /-- per cluster and vector register (32 × c + v), 8,192 bits (R119). -/
  | vreg
  /-- per cluster and mask register (8 × c + m), 1,024 bits (R119). -/
  | vmask
  /-- per cluster and address register (4 × c + a), 32 bits (R119). -/
  | vaddr
  /-- per cluster and index (2,048 × c + i), a 64-bit vector instruction (R121). -/
  | vimem
  /-- per cluster and word (16,384 × c + w), a 32-bit desk instruction (R139). -/
  | dimem
  /-- per cluster and byte (65,536 × c + a), a byte of desk data memory (R139). -/
  | ddmem
  /-- per cluster and register (64 × c + n), the desk registers of the firmware context (R138). -/
  | fwReg
  /-- per drawer 128-bit word (2^21 × c + w), what its check bits show: 1 a single-bit error, 2 a double-bit error (R188). -/
  | drwErr
  /-- per shelf 64-byte line (2^32 × ch + line), 1 + the failed device, or 16 where uncorrectable (R192). -/
  | shfErr
  /-- per endpoint, an abort waits for the tile boundary of the firing in progress (R61). -/
  | abortDue
  /-- per port, 1 + the member link last used for it (R231). -/
  | portLast
  /-- per link and VC (8 × l + v), the credit counter of the transmitting end (R225). -/
  | txCred
  /-- per link and VC, the recorded last CRv of the other end (R225). -/
  | lastCr
  /-- per link and VC, cells released by the receive buffer since credit initialisation, modulo 256 (R224). -/
  | rxRel
  /-- per link, FSEQ of the next held frame (R251). -/
  | fseqNext
  /-- per link, the expected FSEQ (R252). -/
  | fexpect
  /-- per link, a valid waymark has come since it left CREDIT (R264). -/
  | wmSince
  /-- per link, the last 58 scrambled bits, the oldest lowest (R245). -/
  | scram
  /-- per link, 2^n + the n scrambled bits that fill no codeword yet, the oldest lowest; 0 where there are none (R245). -/
  | lineBits
  /-- per link, the next trailer carries NAK = 1 (R252). -/
  | nakDue
  /-- per link, held frames are discarded until a replayed one with FSEQ = expected is accepted (R252). -/
  | nakHold
  /-- per link, held frames of the replay in progress still to resend (R251). -/
  | replayLeft
  /-- per link, ASEQ of the latest replay (R251). -/
  | replayAseq
  /-- per link, consecutive replays during which the oldest held frame was not acknowledged (R254). -/
  | replayFails
  /-- per link, frames with CRINIT = 1 still to send in CREDIT (R249). -/
  | crinitLeft
  /-- per link in CREDIT: bit 0 step 2 of R249 is done, bit 1 a frame with CRINIT = 0 was sent, bit 2 one was received. -/
  | crSteps
  /-- per link, the data VC that last filled a frame position (R233). -/
  | rrVc
  /-- per link and VC, the input that last filled a position: link, or 36 for the own egress (R233). -/
  | rrIn
  /-- per stream context, 1 + the logical port on which its latest TILE cell arrived (R235). -/
  | recvPort
  /-- per link, the payload of the latest valid waymark (R261, R263). -/
  | peerWm
  /-- per graph, a rewind drain is in progress (R484). -/
  | draining
  /-- per tag and element (2^32 × t + i), the FP32 or INT32 word of the position this chip plays (R306). -/
  | playWork
  /-- per graph, A_DONE: pass A of the attempt in progress has completed (R300). -/
  | aDone
  /-- per graph, the outcome of the completed pass A (R299). -/
  | aOut
  /-- per graph, VSY_FIRST_NAN was set in the current attempt (R322). -/
  | nanFresh
  /-- per group, the TAKEOVER of the detour entry in force (R306). -/
  | takeover
  /-- per group, the NORM in force under a detour (R306). -/
  | norm
  /-- per multicast group, 1 + its substitute under a detour (R306). -/
  | subst
  /-- per graph, this chip has withdrawn: it takes no part in the collectives and commits of the graph (R305). -/
  | gone
  /-- per cluster and CSR (4,096 × c + n), the RW CSRs and the latched high word of KCYCLE (R145). -/
  | dcsr
  /-- boot flash, per slot and byte (2^23 × slot + byte) (R400); it lists nothing at reset (log entry 12). -/
  | flash
  /-- per boot flash slot: bit 0 unsealed, bit 1 recorded valid, bit 2 BAD (R402, R404). -/
  | slotMeta
  /-- fuses (R399): 0 and 1 ROOT_DIGEST as a little-endian number, 2 and 3 REVOKE, 4 the number of blown bits of SVN, 5 DEVICE_SECRET, 6 DEBUG_LOCK. -/
  | fuse
  /-- Bigefel: 0 PREF_SLOT, 1 POLICY, 2 SEQ of the customer keys, 3 the boot watchdog runs (R401, R402, R412). -/
  | bootMeta
  /-- per customer key slot, the 1,793 bytes of the enrolled key as a little-endian number, 0 where none (R411). -/
  | custKey
  /-- bytes of the staging window (R404). -/
  | staging
  /-- chest controller (R458, R464): per slot, at 16 × slot + 0 ALIVE0, 1 pages reserved, 2 the CRC-64 register of its data bytes, 3 pages written; at 1,280 CHS_PAGE_SEQ, 1,281 retired blocks, 1,282 blocks with a factory mark, 1,283 erases of every good block, 1,284 directory writes, 1,285 and 1,286 start and SCRUB_DAYS of the latest scrub pass, 1,287 power has been off since; and directory copy c at 4,096 × (c + 1) + 16 × slot + 0 STATE, 1 ROLE, 2 GEN, 3 PAGES, 4 BYTES, 5 RECORDS, 6 STEP, 7 CRC, 8 ALIVE0, and + 1,280 the number of the directory write, 0 for none. -/
  | chestDir
  /-- per endpoint and part (4 × endpoint + part), 1 + the place in its step of the alternative whose run of firings is under way; 0 where none is (R100, R201). -/
  | runAlt
  /-- per block of the chest, its erases apart from those of FORMAT (R465). -/
  | blkErase
  /-- per block of the chest: bit 0 programmed since its last erase, bit 1 retired, bit 2 factory mark (R463). -/
  | blkState
  /-- per chest slot and record (2^32 × slot + record), the first page of the record (R461). -/
  | chestRec
  deriving DecidableEq, Repr

/-- An event that produces a fault record (R477). -/
structure FaultEvent where
  cls : Nat
  source : Nat
  chip : Nat
  graph : Nat
  detail : Nat
  deriving DecidableEq, Repr

/-- How the module answered the latest SMBus start condition (R436, R494). -/
structure Smbus where
  /-- The address was acknowledged. -/
  acked : Bool
  /-- SCL was held low until the AO target ran. -/
  held : Bool
  /-- What the transaction read. -/
  read : Option Nat
  deriving DecidableEq, Repr

/-- A tile as bits: the 32-byte header in the low 256 bits (R22) and the payload above it. -/
structure Tile where
  raw : Nat
  deriving DecidableEq, Repr

/-- An input tile slot that holds a tile or part of one (R33, R220). -/
structure Slot where
  /-- Stream number. -/
  stream : Nat
  seq : Nat
  /-- Bit i: the cell of index i has arrived. -/
  seen : Nat
  /-- Index of the cell with LAST, once it has arrived. -/
  last : Option Nat
  /-- A cell of the tile was poisoned (R215). -/
  poison : Bool
  /-- The tile is wholly present (R220). -/
  present : Bool
  tile : Tile
  deriving DecidableEq, Repr

/-- One alternative of a station program step: operation word, input and output streams in binding order (R36, R347). -/
structure Alt where
  op : Nat
  /-- Streams of input bindings 0–2, none where unbound. -/
  ins : List (Option Nat)
  /-- Streams of output bindings 0–1, none where unbound. -/
  outs : List (Option Nat)
  deriving DecidableEq, Repr

/-- A step of a station program: the step that follows it and its alternatives in plan order (R36). -/
structure Step where
  next : Nat
  alts : List Alt
  deriving DecidableEq, Repr

/-- The program of a station, or of one half of a split bench: PART 0 whole, 1 half L, 2 half H (R112, R347). -/
structure Prog where
  endpt : Nat
  part : Nat
  steps : List Step
  deriving DecidableEq, Repr

/-- A region of MEMORY_MAP (R198): MEM, byte offset BASE, RECORD in units of 64 bytes, RECORDS per half. -/
structure Region where
  num : Nat
  mem : Nat
  base : Nat
  record : Nat
  records : Nat
  paired : Bool
  graph : Nat
  deriving DecidableEq, Repr

/-- An active instance of a descriptor (R279, R316). -/
structure Inst where
  tag : Nat
  num : Nat
  /-- The instance FLUSH (R285). -/
  flush : Bool
  /-- The step's input and output streams. -/
  ins : List Nat
  outs : List Nat
  /-- SAMPLE_L at entry (R340). -/
  sampleL : Nat
  /-- Elements staged so far. -/
  staged : Nat
  /-- Poisoned elements: actor, first, count (R296). -/
  poisoned : List (Nat × Nat × Nat)
  /-- Messages sent, and messages combined or kept. -/
  sent : List MsgKey
  got : List MsgKey
  /-- Columns finished: actor, column (R320). -/
  finished : List (Nat × Nat)
  /-- Elements emitted on output 0 and on output 1. -/
  emitted : Nat
  emitted1 : Nat
  /-- MLS_FIN has been incremented (R323). -/
  finDone : Bool
  /-- GATHER has armed the gather (R316). -/
  armed : Bool
  /-- PUBLISH firings with PLAYED = 0 and with PLAYED = 1 (R324). -/
  published : Nat
  played : Nat
  /-- Records written by the gather: shard, tile (R325). -/
  records : List (Nat × Nat)
  /-- Comparisons of the sampled check made (R336). -/
  compared : Nat
  deriving DecidableEq, Repr

/-- Messages toward one receiver under one STREAM value (R288, R290). -/
structure SentCount where
  stream : Nat
  chip : Nat
  /-- Messages sent in the instance: the next message number. -/
  num : Nat
  /-- Messages sent and released since plan activation, modulo 2^32. -/
  sent : Nat
  released : Nat
  deriving DecidableEq, Repr

/-- Messages of one sender under one STREAM value that a station has released, modulo 2^32 (R290). -/
structure TakenCount where
  endpt : Nat
  stream : Nat
  chip : Nat
  released : Nat
  deriving DecidableEq, Repr

/-- An exact partial of the sampled check (R334). -/
structure Exact where
  tag : Nat
  actor : Nat
  elem : Nat
  sum : Int
  abs : Nat
  unv : Bool
  deriving DecidableEq, Repr

/-- A programmed page of the chest (R455, R456). -/
structure ChestPage where
  slot : Nat
  page : Nat
  /-- The 16,384 data bytes as a little-endian number. -/
  data : Nat
  /-- The 64 header bytes as a little-endian number. -/
  head : Nat
  /-- Bytes 16,448 to 18,431, the parities and the filler, as a little-endian number. -/
  tail : Nat
  deriving DecidableEq, Repr

/-- Where a page of the chest stands (R453): its file, a slot or one of the controller's own, and index; the block and its page. -/
structure Place where
  file : Nat
  page : Nat
  block : Nat
  row : Nat
  deriving DecidableEq, Repr

/-- The blocks that a file of the chest writes into, one on each plane of a die, and the next page of them (R453, R461). -/
structure Stripe where
  file : Nat
  blocks : List Nat
  next : Nat
  deriving DecidableEq, Repr

/-- An entry of the DETOURS section (R306). -/
structure Detour where
  group : Nat
  position : Nat
  takeover : Bool
  norm : Nat
  subst : List (Nat × Nat)
  deriving DecidableEq, Repr

/-- A dissemination pass of a graph (R298, R300, R307): pass 1 A, 2 B, 3 DETOUR. -/
structure CommitPass where
  graph : Nat
  pass : Nat
  round : Nat
  /-- BITS of R299 as merged so far. -/
  bits : Nat
  aOut : Nat
  step : Nat
  sig : Nat
  cmin : Nat
  cmax : Nat
  deriving DecidableEq, Repr

/-- Arrivals of ENTER cells for one instance of the traced group (R311). -/
structure Enter where
  tag : Nat
  num : Nat
  /-- SCLK count of the member's own entry, once it has entered. -/
  own : Option Nat
  /-- Rank, chip and SCLK count of each other member's ENTER. -/
  others : List (Nat × Nat × Nat)
  deriving DecidableEq, Repr

/-- An attempt mark (R482). -/
structure Mark where
  graph : Nat
  /-- Stream, NEXT_SEQ, TILES_DONE, and the consumer's position on chip. -/
  streams : List (Nat × Nat × Nat × Nat)
  /-- Milestone, COUNT, TARGET. -/
  mls : List (Nat × Nat × Nat)
  /-- Descriptor, INST. -/
  descs : List (Nat × Nat)
  /-- Station, part, STEP_IDX. -/
  steps : List (Nat × Nat × Nat)
  deriving DecidableEq, Repr

/-- A host command in flight on a command ring (R378, R383). -/
structure HostCmd where
  ring : Ring
  opcode : Nat
  /-- FLAGS.CPL: post a completion on OK too. -/
  cpl : Bool
  /-- FLAGS.ORDER. -/
  order : Bool
  hseq : Nat
  tag : Nat
  /-- Operand bytes 16–63 as a little-endian number. -/
  args : Nat
  /-- FLAGS bits [7:2], byte 3. -/
  reserved : Nat
  /-- Its effect has been made, and it waits for its completion. -/
  started : Bool
  /-- Bytes moved so far by a COPY. -/
  moved : Nat
  deriving DecidableEq, Repr

/-- A VEC firing in progress (R123). -/
structure VecFiring where
  cluster : Cluster
  graph : Nat
  alt : Alt
  flush : Bool
  satEn : Bool
  /-- Registers s0–s63 at admission (R125). -/
  snap : List Nat
  /-- Input tiles of bindings 0–2 as consumed. -/
  tiles : List Tile
  /-- Exponent E of each input binding's tile, 0 when it is not SCALED. -/
  exps : List Int
  /-- Output headers and buffers of bindings 0–1. -/
  heads : List Nat
  bufs : List Nat
  /-- Bit b: output b took a store beyond byte 32,767 (R133). -/
  failed : Nat
  /-- Values queued by VOUT: register number and value, in program order (R126). -/
  vouts : List (BitVec 6 × Nat)
  /-- Open loops, innermost first: first instruction, last instruction (R134). -/
  loops : List (Nat × Nat)
  /-- The firing's ordinal on the station within the step attempt (R135). -/
  ord : Nat
  /-- The CCLK cycle, counted from admission, in which the next instruction may issue (R123, R129). -/
  clock : Nat
  /-- Cycles of it that the graph has been charged (R40). -/
  paid : Nat
  /-- Cycles in which registers become ready: v0–v31, m0–m7 at 32, a0–a3 at 40 (R129, R130). -/
  ready : List (Nat × Nat)
  /-- Cycles in which operations of less than one per cycle may issue again, by OP (R130). -/
  units : List (Nat × Nat)
  deriving DecidableEq, Repr

/-- A message that this chip originates and whose cells wait at its router (R234). -/
structure OutMsg where
  /-- The graph it is charged to; none for VC0 traffic and for a firing without a graph. -/
  graph : Option Nat
  /-- Admitted to the fabric as a whole. -/
  admitted : Bool
  cells : List Cell
  deriving DecidableEq, Repr

/-- A cell in a link's receive buffer (R225). -/
structure RxCell where
  /-- Names the cell until it is released. -/
  id : Nat
  link : Nat
  cell : Cell
  deriving DecidableEq, Repr

/-- A copy of a multicast cell that waits for credit on its port (R231, R236). -/
structure McastCopy where
  id : Nat
  /-- Link it arrived on; none when it originated here. -/
  src : Option Nat
  port : Nat
  /-- On a clique port, the peer's W (R259). -/
  peer : Option Nat
  /-- The cell as it arrived. -/
  orig : Cell
  deriving DecidableEq, Repr

/-- A cell queued for a link (R231, R233). -/
structure TxCell where
  id : Nat
  link : Nat
  src : Option Nat
  /-- It is this copy of a multicast cell. -/
  copy : Option McastCopy
  /-- The cell as it leaves. -/
  cell : Cell
  /-- The cell as it arrived. -/
  orig : Cell
  deriving DecidableEq, Repr

/-- A held frame in a link's replay buffer (R251): its 16 positions, PAD where empty. -/
structure HeldFrame where
  link : Nat
  fseq : Nat
  cells : List Cell
  deriving DecidableEq, Repr

/-- A DESK firing in progress (R141). -/
structure DeskFiring where
  cluster : Cluster
  alt : Alt
  /-- Number of TOUTs done on output bindings 0 and 1. -/
  touts : List Nat
  /-- The register that a milestone wait in progress will write, and its milestone (R145). -/
  wait : Option (BitVec 6 × Nat)
  deriving DecidableEq, Repr

/-- Why a command stops. The model's memory and registers give no command a fault: every address outside a device is a hole
that reads 0 and discards writes (R6, R197). -/
inductive Fault where
  /-- No meaning raises it: kept so that the type of faults is not empty. Safe. -/
  | none
  deriving DecidableEq, Repr

/-- Why a command is refused. -/
inductive Refusal where
  /-- Raised by `exec` alone, for a command that has no meaning yet. Safe: nothing is claimed of it. -/
  | notModelled (mnemonic : String)
  /-- Raised by a vector command of a form to which the spec gives no effect: an element type that the operation table does not
  allow, a reserved field value, or a binding that the alternative does not bind (R121, R127, R130–R135). The tollgate refuses
  the program that holds it. Safe: nothing is claimed of it. -/
  | reservedVectorForm
  deriving DecidableEq, Repr

set_option maxRecDepth 4000 in
/-- The state of the chip. -/
structure State where
  /-- The commands that are waiting, first in, first out. -/
  pending : List Instr
  /-- The model's own counter of free values drawn (log entry 1). -/
  free : Nat
  /-- The BAR0 registers, by field key. -/
  regs : Map
  /-- Drawers and shelves by device address (R196). -/
  mem : List Host.Cell
  /-- Allowances by budget key (R39). -/
  allow : List (Nat × Int)
  /-- Input tile slots in use. -/
  slots : List Slot
  /-- Station programs of the active plan. -/
  progs : List Prog
  /-- Regions of the active plan (R198). -/
  regions : List Region
  /-- Active instances of descriptors (R279). -/
  insts : List Inst
  /-- Whole messages that wait in Vusyn slots, oldest first (R291). -/
  waitMsgs : List PieceMsg
  /-- COLL and GRAD cells at the Vusyn stations that are part of no whole message yet (R290). -/
  vsyCells : List Cell
  /-- Messages toward each receiver (R290). -/
  sentCounts : List SentCount
  /-- Messages released for each sender (R290). -/
  takenCounts : List TakenCount
  /-- Exact partials of the sampled entries (R334). -/
  exacts : List Exact
  /-- Aborts recorded for instances not entered yet, and the latest abort of each descriptor: tag, instance, and the payload of the ABORT (R293, R294). -/
  earlyAborts : List (Nat × Nat × Nat)
  /-- Dissemination passes in progress (R298). -/
  passes : List CommitPass
  /-- COMMIT cells that wait (R299). -/
  commitCells : List Cell
  /-- ENTER cells recorded (R311). -/
  enters : List Enter
  /-- Detour entries of the active plan (R306). -/
  detours : List Detour
  /-- COORDS of the active plan: serial, chip ID (R348). -/
  coords : List (Nat × Nat)
  /-- Chips whose failure is recorded under the active plan (R304). -/
  failed : List Nat
  /-- Attempt marks (R482). -/
  marks : List Mark
  /-- VEC firings in progress. -/
  vecs : List VecFiring
  /-- DESK firings in progress. -/
  desks : List DeskFiring
  /-- Budget periods since plan activation (R146). -/
  period : Nat
  /-- The mode whose level the compute-die supply stands at (R16). -/
  supply : Nat
  /-- SEL was written in the last cycle of the period in progress (R368). -/
  selLate : Bool
  /-- FSEQ of the next fault record (R478). -/
  faultSeq : Nat
  /-- The plan's 64-bit RNG seed (R167). -/
  seed : Nat
  /-- Messages that this chip has originated and whose cells wait at its router, oldest first (R233, R234). -/
  egress : List OutMsg
  /-- Cells in the links' receive buffers, oldest first (R225). -/
  rxBuf : List RxCell
  /-- Copies of multicast cells that wait for credit (R236). -/
  copies : List McastCopy
  /-- Cells queued for a link and not yet placed in a frame, oldest first (R231). -/
  txq : List TxCell
  /-- Names given to received cells so far: the model's own count. -/
  cellIds : Nat
  /-- Held frames that await acknowledgement, oldest first (R251). -/
  heldFrames : List HeldFrame
  /-- Frames sent, oldest first: link and 1,296 bytes (R223). -/
  wire : List (Nat × List Byte)
  /-- The image that the tollgate admitted, as a little-endian number, while its load is under way (R352, R355). -/
  admitted : Option Nat
  /-- What host software has set in the configuration space (R374). -/
  pcie : PcieCfg
  /-- PM_PME messages sent (R431). -/
  pmPmes : Nat
  /-- Vendor ID and data object type × 2^16 of the latest DOE response (R409). -/
  doeObject : Nat
  /-- How the latest SMBus start condition was answered (R436). -/
  smb : Smbus
  /-- BODY of the firmware image that runs, which the desk and Bigefel memories hold and retention memory keeps (R401, R430). -/
  fwBody : Nat
  /-- Pages of the block table (file 80) and of the two directory copies (81, 82) (R456, R458). -/
  chestSys : List ChestPage
  /-- Where every programmed page of the chest stands (R453). -/
  places : List Place
  /-- The blocks into which the files of the chest write (R453). -/
  stripes : List Stripe
  /-- Events that firmware has still to report, oldest first (R477, R478). -/
  faultDue : List FaultEvent
  /-- Codewords sent, oldest first: link and the 68 symbols of each of its eight lanes (R245). -/
  fibre : List (Nat × List (List Nat))
  /-- Notice payloads at the management endpoint, oldest first (R237). -/
  notices : List Nat
  /-- Host commands in flight, in the order of acceptance (R383). -/
  inflight : List HostCmd
  /-- Writes posted to host memory, oldest first: host address and bytes (R384, R389). -/
  hostOut : List (Nat × List Byte)
  /-- MSI-X vectors signalled to the host, oldest first (R393). -/
  msix : List Nat
  /-- Data that the latest host read returned. -/
  readOut : Nat
  /-- Dwords of the latest DOE response (R409). -/
  doe : List Nat
  /-- Programmed pages of the chest (R455). -/
  chest : List ChestPage
  /-- log2 of the size that Resizable BAR gives BAR4: 30–42 (R374, R375). -/
  bar4Log : Nat
  /-- ALERT_N is asserted (R499, R500). -/
  alert : Bool
  /-- The module is in P3 by a thermal trip (R500). -/
  tripped : Bool
  /-- The board holds WAKE_N low (R435, R495). -/
  wakeLow : Bool
  /-- Fifths of an SCLK cycle that have passed since CNT_CYCLE last counted (R11, R471). -/
  sclkPart : Nat
  /-- Bank: snapshot copies of the SNAP counters, by field key (R473–R475). -/
  shadow : Map
  /-- Bank: per on-chip stream, the SEQ of the next tile its consumer takes (R31; log entry 6). -/
  rxSeq : Map
  /-- Bank: per stream, tiles completed since plan activation (R35). -/
  tilesSince : Map
  /-- Bank: per stream, TILES_DONE at plan activation (R35). -/
  activeBase : Map
  /-- Bank: per budget key, the duration in CCLK cycles of the firing that may leave time-class debt (R41). -/
  fireLen : Map
  /-- Bank: per stream, tiles produced in the current step attempt: t of R80. -/
  stepTile : Map
  /-- Bank: per sending end, tiles begun since plan activation (R216). -/
  begun : Map
  /-- Bank: per receiving end, the TILES_DONE that the last CREDIT cell carried (R216). -/
  consumedSince : Map
  /-- Bank: per graph, a rise of COMMIT_MLS that has started no attempt yet (R178, R506). -/
  commitDue : Map
  /-- Bank: per completion ring, passes through the ring modulo 2 (R381). -/
  cplPhase : Map
  /-- Bank: per completion ring, entries posted since the last signal (R394). -/
  cplSince : Map
  /-- Bank: per command ring, a RESET with ABORT_WAITS waits for STOPPED (R386). -/
  resetAsked : Map
  /-- Bank: per cluster and graph (8 × c + g), VEC firings of the current step attempt: t of R135. -/
  vecOrd : Map
  /-- Bank: per bench part (2 × bench + half), the loaded stationary tile as header and payload bits (R99). -/
  stationary : Map
  /-- Bank: per bench part, 256 + the exponent E_w held with the stationary; 0 when the tile is not SCALED (R99). -/
  statExp : Map
  /-- Bank: per bench and accumulator row (bench × 1,024 + row), 128 words of 32 bits (R97). -/
  accRow : Map
  /-- Bank: per bench and accumulator row, the poison bits of the two halves (R97). -/
  accPoison : Map
  /-- Bank: per bench part, rows of the current STREAM step already streamed: j of R101. -/
  streamRow : Map
  /-- Bank: per bench part, the firing admitted last in this period: 16 × its CCLK cycles + its graph, 8 where it has none (R107). -/
  lastFire : Map
  /-- Bank: per cluster and vector register (32 × c + v), 8,192 bits (R119). -/
  vreg : Map
  /-- Bank: per cluster and mask register (8 × c + m), 1,024 bits (R119). -/
  vmask : Map
  /-- Bank: per cluster and address register (4 × c + a), 32 bits (R119). -/
  vaddr : Map
  /-- Bank: per cluster and index (2,048 × c + i), a 64-bit vector instruction (R121). -/
  vimem : Map
  /-- Bank: per cluster and word (16,384 × c + w), a 32-bit desk instruction (R139). -/
  dimem : Map
  /-- Bank: per cluster and byte (65,536 × c + a), a byte of desk data memory (R139). -/
  ddmem : Map
  /-- Bank: per cluster and register (64 × c + n), the desk registers of the firmware context (R138). -/
  fwReg : Map
  /-- Bank: per drawer 128-bit word (2^21 × c + w), what its check bits show: 1 a single-bit error, 2 a double-bit error (R188). -/
  drwErr : Map
  /-- Bank: per shelf 64-byte line (2^32 × ch + line), 1 + the failed device, or 16 where uncorrectable (R192). -/
  shfErr : Map
  /-- Bank: per endpoint, an abort waits for the tile boundary of the firing in progress (R61). -/
  abortDue : Map
  /-- Bank: per port, 1 + the member link last used for it (R231). -/
  portLast : Map
  /-- Bank: per link and VC (8 × l + v), the credit counter of the transmitting end (R225). -/
  txCred : Map
  /-- Bank: per link and VC, the recorded last CRv of the other end (R225). -/
  lastCr : Map
  /-- Bank: per link and VC, cells released by the receive buffer since credit initialisation, modulo 256 (R224). -/
  rxRel : Map
  /-- Bank: per link, FSEQ of the next held frame (R251). -/
  fseqNext : Map
  /-- Bank: per link, the expected FSEQ (R252). -/
  fexpect : Map
  /-- Bank: per link, a valid waymark has come since it left CREDIT (R264). -/
  wmSince : Map
  /-- Bank: per link, the last 58 scrambled bits, the oldest lowest (R245). -/
  scram : Map
  /-- Bank: per link, 2^n + the n scrambled bits that fill no codeword yet, the oldest lowest; 0 where there are none (R245). -/
  lineBits : Map
  /-- Bank: per link, the next trailer carries NAK = 1 (R252). -/
  nakDue : Map
  /-- Bank: per link, held frames are discarded until a replayed one with FSEQ = expected is accepted (R252). -/
  nakHold : Map
  /-- Bank: per link, held frames of the replay in progress still to resend (R251). -/
  replayLeft : Map
  /-- Bank: per link, ASEQ of the latest replay (R251). -/
  replayAseq : Map
  /-- Bank: per link, consecutive replays during which the oldest held frame was not acknowledged (R254). -/
  replayFails : Map
  /-- Bank: per link, frames with CRINIT = 1 still to send in CREDIT (R249). -/
  crinitLeft : Map
  /-- Bank: per link in CREDIT: bit 0 step 2 of R249 is done, bit 1 a frame with CRINIT = 0 was sent, bit 2 one was received. -/
  crSteps : Map
  /-- Bank: per link, the data VC that last filled a frame position (R233). -/
  rrVc : Map
  /-- Bank: per link and VC, the input that last filled a position: link, or 36 for the own egress (R233). -/
  rrIn : Map
  /-- Bank: per stream context, 1 + the logical port on which its latest TILE cell arrived (R235). -/
  recvPort : Map
  /-- Bank: per link, the payload of the latest valid waymark (R261, R263). -/
  peerWm : Map
  /-- Bank: per graph, a rewind drain is in progress (R484). -/
  draining : Map
  /-- Bank: per tag and element (2^32 × t + i), the FP32 or INT32 word of the position this chip plays (R306). -/
  playWork : Map
  /-- Bank: per graph, A_DONE: pass A of the attempt in progress has completed (R300). -/
  aDone : Map
  /-- Bank: per graph, the outcome of the completed pass A (R299). -/
  aOut : Map
  /-- Bank: per graph, VSY_FIRST_NAN was set in the current attempt (R322). -/
  nanFresh : Map
  /-- Bank: per group, the TAKEOVER of the detour entry in force (R306). -/
  takeover : Map
  /-- Bank: per group, the NORM in force under a detour (R306). -/
  norm : Map
  /-- Bank: per multicast group, 1 + its substitute under a detour (R306). -/
  subst : Map
  /-- Bank: per graph, this chip has withdrawn: it takes no part in the collectives and commits of the graph (R305). -/
  gone : Map
  /-- Bank: per cluster and CSR (4,096 × c + n), the RW CSRs and the latched high word of KCYCLE (R145). -/
  dcsr : Map
  /-- Bank: boot flash, per slot and byte (2^23 × slot + byte) (R400); it lists nothing at reset (log entry 12). -/
  flash : Map
  /-- Bank: per boot flash slot: bit 0 unsealed, bit 1 recorded valid, bit 2 BAD (R402, R404). -/
  slotMeta : Map
  /-- Bank: fuses (R399): 0 and 1 ROOT_DIGEST as a little-endian number, 2 and 3 REVOKE, 4 the number of blown bits of SVN, 5 DEVICE_SECRET, 6 DEBUG_LOCK. -/
  fuse : Map
  /-- Bank: Bigefel: 0 PREF_SLOT, 1 POLICY, 2 SEQ of the customer keys, 3 the boot watchdog runs (R401, R402, R412). -/
  bootMeta : Map
  /-- Bank: per customer key slot, the 1,793 bytes of the enrolled key as a little-endian number, 0 where none (R411). -/
  custKey : Map
  /-- Bank: bytes of the staging window (R404). -/
  staging : Map
  /-- Bank: chest controller (R458, R464): per slot, at 16 × slot + 0 ALIVE0, 1 pages reserved, 2 the CRC-64 register of its data bytes, 3 pages written; at 1,280 CHS_PAGE_SEQ, 1,281 retired blocks, 1,282 blocks with a factory mark, 1,283 erases of every good block, 1,284 directory writes, 1,285 and 1,286 start and SCRUB_DAYS of the latest scrub pass, 1,287 power has been off since; and directory copy c at 4,096 × (c + 1) + 16 × slot + 0 STATE, 1 ROLE, 2 GEN, 3 PAGES, 4 BYTES, 5 RECORDS, 6 STEP, 7 CRC, 8 ALIVE0, and + 1,280 the number of the directory write, 0 for none. -/
  chestDir : Map
  /-- Bank: per endpoint and part (4 × endpoint + part), 1 + the place in its step of the alternative whose run of firings is under way; 0 where none is (R100, R201). -/
  runAlt : Map
  /-- Bank: per block of the chest, its erases apart from those of FORMAT (R465). -/
  blkErase : Map
  /-- Bank: per block of the chest: bit 0 programmed since its last erase, bit 1 retired, bit 2 factory mark (R463). -/
  blkState : Map
  /-- Bank: per chest slot and record (2^32 × slot + record), the first page of the record (R461). -/
  chestRec : Map
  deriving DecidableEq, Repr

/-- The machine right after reset (R2 and the Reset columns; every sparse store lists nothing, so that each field reads its
reset value, but for the fuse DEBUG_LOCK, blown at manufacture: R399). -/
def State.reset : State where
  pending := []
  free := 0
  regs := []
  mem := []
  allow := []
  slots := []
  progs := []
  regions := []
  insts := []
  waitMsgs := []
  vsyCells := []
  sentCounts := []
  takenCounts := []
  exacts := []
  earlyAborts := []
  passes := []
  commitCells := []
  enters := []
  detours := []
  coords := []
  failed := []
  marks := []
  vecs := []
  desks := []
  period := 0
  supply := 0
  selLate := false
  faultSeq := 0
  seed := 0
  egress := []
  rxBuf := []
  copies := []
  txq := []
  cellIds := 0
  heldFrames := []
  wire := []
  admitted := none
  pcie := ⟨false, false, false, false, false, false, false, false, 0, 0⟩
  pmPmes := 0
  doeObject := 0
  smb := ⟨false, false, none⟩
  fwBody := 0
  chestSys := []
  places := []
  stripes := []
  faultDue := []
  fibre := []
  notices := []
  inflight := []
  hostOut := []
  msix := []
  readOut := 0
  doe := []
  chest := []
  bar4Log := 30
  alert := false
  tripped := false
  wakeLow := false
  sclkPart := 0
  shadow := []
  rxSeq := []
  tilesSince := []
  activeBase := []
  fireLen := []
  stepTile := []
  begun := []
  consumedSince := []
  commitDue := []
  cplPhase := []
  cplSince := []
  resetAsked := []
  vecOrd := []
  stationary := []
  statExp := []
  accRow := []
  accPoison := []
  streamRow := []
  lastFire := []
  vreg := []
  vmask := []
  vaddr := []
  vimem := []
  dimem := []
  ddmem := []
  fwReg := []
  drwErr := []
  shfErr := []
  abortDue := []
  portLast := []
  txCred := []
  lastCr := []
  rxRel := []
  fseqNext := []
  fexpect := []
  wmSince := []
  scram := []
  lineBits := []
  nakDue := []
  nakHold := []
  replayLeft := []
  replayAseq := []
  replayFails := []
  crinitLeft := []
  crSteps := []
  rrVc := []
  rrIn := []
  recvPort := []
  peerWm := []
  draining := []
  playWork := []
  aDone := []
  aOut := []
  nanFresh := []
  takeover := []
  norm := []
  subst := []
  gone := []
  dcsr := []
  flash := []
  slotMeta := []
  fuse := [(6, 1)]
  bootMeta := []
  custKey := []
  staging := []
  chestDir := []
  runAlt := []
  blkErase := []
  blkState := []
  chestRec := []

end Sys2Proof.Machine
end

