-- ==== Sys2Proof/Machine/Store.lean ====
section
/-!
DEFINITION. Reading and updating the state: sparse maps, register fields, banks, memory bytes; the elementary updates a command
is made of; and `Act`, a state change that carries the proof that it is a run of elementary updates, so that an invariant of
the elementary updates is an invariant of every command.
-/

namespace Sys2Proof.Machine

/-! Sparse maps. -/

/-- The value at `k`, `d` where nothing is listed. -/
def Map.find (m : Map) (k d : Nat) : Nat :=
  match m with
  | [] => d
  | (k', v) :: t => if k' = k then v else Map.find t k d

/-- Remove every entry at `k`. -/
def Map.erase (m : Map) (k : Nat) : Map := m.filter (fun p => p.1 ≠ k)

/-- Put `v` at `k`, keeping the keys in rising order. -/
def Map.insert (m : Map) (k v : Nat) : Map :=
  match m with
  | [] => [(k, v)]
  | (k', v') :: t =>
    if k < k' then (k, v) :: (k', v') :: t
    else if k = k' then (k, v) :: t
    else (k', v') :: Map.insert t k v

/-- Store `v` at `k` in a map whose default at `k` is `d`: the default is not listed. -/
def Map.put (m : Map) (k v d : Nat) : Map := if v = d then m.erase k else m.insert k v

/-! Memory: bytes by address; an unlisted byte reads 0 (R191, log entry 3). -/

/-- The byte at `a`. -/
def Mem.read (m : List Host.Cell) (a : Nat) : Byte :=
  match m with
  | [] => 0#8
  | (a', b) :: t => if a' = a then b else Mem.read t a

/-- Put `b` at `a`, keeping the addresses in rising order. -/
def Mem.insert (m : List Host.Cell) (a : Nat) (b : Byte) : List Host.Cell :=
  match m with
  | [] => [(a, b)]
  | (a', b') :: t =>
    if a < a' then (a, b) :: (a', b') :: t
    else if a = a' then (a, b) :: t
    else (a', b') :: Mem.insert t a b

/-- Write one byte: a zero byte is not listed. -/
def Mem.write (m : List Host.Cell) (a : Nat) (b : Byte) : List Host.Cell :=
  if b = 0#8 then m.filter (fun p => p.1 ≠ a) else Mem.insert m a b

/-- The canonical form of memory: addresses strictly rising, and no listed zero. -/
def Memory.wf : List Host.Cell → Bool
  | [] => true
  | (a, b) :: t => b != 0#8 && (t.all fun p => a < p.1) && Memory.wf t

/-! Fields and banks. -/

/-- The value of a register field. -/
def State.get (s : State) (f : Field) : Nat := s.regs.find f.key f.reset % 2 ^ f.width

/-- The one place a register field changes: the value is taken modulo 2^width. -/
def State.set (s : State) (f : Field) (v : Nat) : State :=
  { s with regs := s.regs.put f.key (v % 2 ^ f.width) f.reset }

/-- The map behind a bank. -/
def State.bank (s : State) (b : Bank) : Map :=
  match b with
  | .shadow => s.shadow
  | .rxSeq => s.rxSeq
  | .tilesSince => s.tilesSince
  | .activeBase => s.activeBase
  | .fireLen => s.fireLen
  | .stepTile => s.stepTile
  | .begun => s.begun
  | .consumedSince => s.consumedSince
  | .commitDue => s.commitDue
  | .cplPhase => s.cplPhase
  | .cplSince => s.cplSince
  | .resetAsked => s.resetAsked
  | .vecOrd => s.vecOrd
  | .stationary => s.stationary
  | .statExp => s.statExp
  | .accRow => s.accRow
  | .accPoison => s.accPoison
  | .streamRow => s.streamRow
  | .lastFire => s.lastFire
  | .vreg => s.vreg
  | .vmask => s.vmask
  | .vaddr => s.vaddr
  | .vimem => s.vimem
  | .dimem => s.dimem
  | .ddmem => s.ddmem
  | .fwReg => s.fwReg
  | .drwErr => s.drwErr
  | .shfErr => s.shfErr
  | .abortDue => s.abortDue
  | .portLast => s.portLast
  | .txCred => s.txCred
  | .lastCr => s.lastCr
  | .rxRel => s.rxRel
  | .fseqNext => s.fseqNext
  | .fexpect => s.fexpect
  | .wmSince => s.wmSince
  | .scram => s.scram
  | .lineBits => s.lineBits
  | .nakDue => s.nakDue
  | .nakHold => s.nakHold
  | .replayLeft => s.replayLeft
  | .replayAseq => s.replayAseq
  | .replayFails => s.replayFails
  | .crinitLeft => s.crinitLeft
  | .crSteps => s.crSteps
  | .rrVc => s.rrVc
  | .rrIn => s.rrIn
  | .recvPort => s.recvPort
  | .peerWm => s.peerWm
  | .draining => s.draining
  | .playWork => s.playWork
  | .aDone => s.aDone
  | .aOut => s.aOut
  | .nanFresh => s.nanFresh
  | .takeover => s.takeover
  | .norm => s.norm
  | .subst => s.subst
  | .gone => s.gone
  | .dcsr => s.dcsr
  | .flash => s.flash
  | .slotMeta => s.slotMeta
  | .fuse => s.fuse
  | .bootMeta => s.bootMeta
  | .custKey => s.custKey
  | .staging => s.staging
  | .chestDir => s.chestDir
  | .runAlt => s.runAlt
  | .blkErase => s.blkErase
  | .blkState => s.blkState
  | .chestRec => s.chestRec

/-- Replace the map behind a bank. -/
def State.withBank (s : State) (b : Bank) (m : Map) : State :=
  match b with
  | .shadow => { s with shadow := m }
  | .rxSeq => { s with rxSeq := m }
  | .tilesSince => { s with tilesSince := m }
  | .activeBase => { s with activeBase := m }
  | .fireLen => { s with fireLen := m }
  | .stepTile => { s with stepTile := m }
  | .begun => { s with begun := m }
  | .consumedSince => { s with consumedSince := m }
  | .commitDue => { s with commitDue := m }
  | .cplPhase => { s with cplPhase := m }
  | .cplSince => { s with cplSince := m }
  | .resetAsked => { s with resetAsked := m }
  | .vecOrd => { s with vecOrd := m }
  | .stationary => { s with stationary := m }
  | .statExp => { s with statExp := m }
  | .accRow => { s with accRow := m }
  | .accPoison => { s with accPoison := m }
  | .streamRow => { s with streamRow := m }
  | .lastFire => { s with lastFire := m }
  | .vreg => { s with vreg := m }
  | .vmask => { s with vmask := m }
  | .vaddr => { s with vaddr := m }
  | .vimem => { s with vimem := m }
  | .dimem => { s with dimem := m }
  | .ddmem => { s with ddmem := m }
  | .fwReg => { s with fwReg := m }
  | .drwErr => { s with drwErr := m }
  | .shfErr => { s with shfErr := m }
  | .abortDue => { s with abortDue := m }
  | .portLast => { s with portLast := m }
  | .txCred => { s with txCred := m }
  | .lastCr => { s with lastCr := m }
  | .rxRel => { s with rxRel := m }
  | .fseqNext => { s with fseqNext := m }
  | .fexpect => { s with fexpect := m }
  | .wmSince => { s with wmSince := m }
  | .scram => { s with scram := m }
  | .lineBits => { s with lineBits := m }
  | .nakDue => { s with nakDue := m }
  | .nakHold => { s with nakHold := m }
  | .replayLeft => { s with replayLeft := m }
  | .replayAseq => { s with replayAseq := m }
  | .replayFails => { s with replayFails := m }
  | .crinitLeft => { s with crinitLeft := m }
  | .crSteps => { s with crSteps := m }
  | .rrVc => { s with rrVc := m }
  | .rrIn => { s with rrIn := m }
  | .recvPort => { s with recvPort := m }
  | .peerWm => { s with peerWm := m }
  | .draining => { s with draining := m }
  | .playWork => { s with playWork := m }
  | .aDone => { s with aDone := m }
  | .aOut => { s with aOut := m }
  | .nanFresh => { s with nanFresh := m }
  | .takeover => { s with takeover := m }
  | .norm => { s with norm := m }
  | .subst => { s with subst := m }
  | .gone => { s with gone := m }
  | .dcsr => { s with dcsr := m }
  | .flash => { s with flash := m }
  | .slotMeta => { s with slotMeta := m }
  | .fuse => { s with fuse := m }
  | .bootMeta => { s with bootMeta := m }
  | .custKey => { s with custKey := m }
  | .staging => { s with staging := m }
  | .chestDir => { s with chestDir := m }
  | .runAlt => { s with runAlt := m }
  | .blkErase => { s with blkErase := m }
  | .blkState => { s with blkState := m }
  | .chestRec => { s with chestRec := m }

/-- The cell `k` of a bank; a cell that nothing has written reads 0. -/
def State.rd (s : State) (b : Bank) (k : Nat) : Nat := (s.bank b).find k 0

/-- Write the cell `k` of a bank. -/
def State.wr (s : State) (b : Bank) (k v : Nat) : State := s.withBank b ((s.bank b).put k v 0)

/-- The byte of device memory at `a`. -/
def State.byte (s : State) (a : Nat) : Byte := Mem.read s.mem a

/-! Elementary updates and acts. -/

/-- What a command can do to the state, one step at a time. None of them touches the queue of commands. -/
inductive Upd where
  /-- Set a register field. -/
  | set (f : Field) (v : Nat)
  /-- Write a cell of a bank. -/
  | put (b : Bank) (k v : Nat)
  /-- Empty a bank. -/
  | clear (b : Bank)
  /-- Write a byte of device memory. -/
  | poke (a : Nat) (v : Byte)
  /-- Remove every register entry whose key is in none of the kept ranges (first, first past the end): those fields read their
  reset values again. -/
  | resetRegs (kept : List (Nat × Nat))
  /-- Remove every byte of device memory from `lo` up to `hi`. -/
  | zeroMem (lo hi : Nat)
  /-- Replace `free`. -/
  | free (v : Nat)
  /-- Replace `allow`. -/
  | allow (v : List (Nat × Int))
  /-- Replace `slots`. -/
  | slots (v : List Slot)
  /-- Replace `progs`. -/
  | progs (v : List Prog)
  /-- Replace `regions`. -/
  | regions (v : List Region)
  /-- Replace `insts`. -/
  | insts (v : List Inst)
  /-- Replace `waitMsgs`. -/
  | waitMsgs (v : List PieceMsg)
  /-- Replace `vsyCells`. -/
  | vsyCells (v : List Cell)
  /-- Replace `sentCounts`. -/
  | sentCounts (v : List SentCount)
  /-- Replace `takenCounts`. -/
  | takenCounts (v : List TakenCount)
  /-- Replace `exacts`. -/
  | exacts (v : List Exact)
  /-- Replace `earlyAborts`. -/
  | earlyAborts (v : List (Nat × Nat × Nat))
  /-- Replace `passes`. -/
  | passes (v : List CommitPass)
  /-- Replace `commitCells`. -/
  | commitCells (v : List Cell)
  /-- Replace `enters`. -/
  | enters (v : List Enter)
  /-- Replace `detours`. -/
  | detours (v : List Detour)
  /-- Replace `coords`. -/
  | coords (v : List (Nat × Nat))
  /-- Replace `failed`. -/
  | failed (v : List Nat)
  /-- Replace `marks`. -/
  | marks (v : List Mark)
  /-- Replace `vecs`. -/
  | vecs (v : List VecFiring)
  /-- Replace `desks`. -/
  | desks (v : List DeskFiring)
  /-- Replace `period`. -/
  | period (v : Nat)
  /-- Replace `supply`. -/
  | supply (v : Nat)
  /-- Replace `selLate`. -/
  | selLate (v : Bool)
  /-- Replace `faultSeq`. -/
  | faultSeq (v : Nat)
  /-- Replace `seed`. -/
  | seed (v : Nat)
  /-- Replace `egress`. -/
  | egress (v : List OutMsg)
  /-- Replace `rxBuf`. -/
  | rxBuf (v : List RxCell)
  /-- Replace `copies`. -/
  | copies (v : List McastCopy)
  /-- Replace `txq`. -/
  | txq (v : List TxCell)
  /-- Replace `cellIds`. -/
  | cellIds (v : Nat)
  /-- Replace `heldFrames`. -/
  | heldFrames (v : List HeldFrame)
  /-- Replace `wire`. -/
  | wire (v : List (Nat × List Byte))
  /-- Replace `admitted`. -/
  | admitted (v : Option Nat)
  /-- Replace `pcie`. -/
  | pcie (v : PcieCfg)
  /-- Replace `pmPmes`. -/
  | pmPmes (v : Nat)
  /-- Replace `doeObject`. -/
  | doeObject (v : Nat)
  /-- Replace `smb`. -/
  | smb (v : Smbus)
  /-- Replace `fwBody`. -/
  | fwBody (v : Nat)
  /-- Replace `chestSys`. -/
  | chestSys (v : List ChestPage)
  /-- Replace `places`. -/
  | places (v : List Place)
  /-- Replace `stripes`. -/
  | stripes (v : List Stripe)
  /-- Replace `faultDue`. -/
  | faultDue (v : List FaultEvent)
  /-- Replace `fibre`. -/
  | fibre (v : List (Nat × List (List Nat)))
  /-- Replace `notices`. -/
  | notices (v : List Nat)
  /-- Replace `inflight`. -/
  | inflight (v : List HostCmd)
  /-- Replace `hostOut`. -/
  | hostOut (v : List (Nat × List Byte))
  /-- Replace `msix`. -/
  | msix (v : List Nat)
  /-- Replace `readOut`. -/
  | readOut (v : Nat)
  /-- Replace `doe`. -/
  | doe (v : List Nat)
  /-- Replace `chest`. -/
  | chest (v : List ChestPage)
  /-- Replace `bar4Log`. -/
  | bar4Log (v : Nat)
  /-- Replace `alert`. -/
  | alert (v : Bool)
  /-- Replace `tripped`. -/
  | tripped (v : Bool)
  /-- Replace `wakeLow`. -/
  | wakeLow (v : Bool)
  /-- Replace `sclkPart`. -/
  | sclkPart (v : Nat)

/-- One elementary update. -/
def Upd.apply (u : Upd) (s : State) : State :=
  match u with
  | .set f v => s.set f v
  | .put b k v => s.wr b k v
  | .clear b => s.withBank b []
  | .poke a v => { s with mem := Mem.write s.mem a v }
  | .resetRegs kept => { s with regs := s.regs.filter fun p => kept.any fun r => r.1 ≤ p.1 && p.1 < r.2 }
  | .zeroMem lo hi => { s with mem := s.mem.filter fun p => !(lo ≤ p.1 && p.1 < hi) }
  | .free v => { s with free := v }
  | .allow v => { s with allow := v }
  | .slots v => { s with slots := v }
  | .progs v => { s with progs := v }
  | .regions v => { s with regions := v }
  | .insts v => { s with insts := v }
  | .waitMsgs v => { s with waitMsgs := v }
  | .vsyCells v => { s with vsyCells := v }
  | .sentCounts v => { s with sentCounts := v }
  | .takenCounts v => { s with takenCounts := v }
  | .exacts v => { s with exacts := v }
  | .earlyAborts v => { s with earlyAborts := v }
  | .passes v => { s with passes := v }
  | .commitCells v => { s with commitCells := v }
  | .enters v => { s with enters := v }
  | .detours v => { s with detours := v }
  | .coords v => { s with coords := v }
  | .failed v => { s with failed := v }
  | .marks v => { s with marks := v }
  | .vecs v => { s with vecs := v }
  | .desks v => { s with desks := v }
  | .period v => { s with period := v }
  | .supply v => { s with supply := v }
  | .selLate v => { s with selLate := v }
  | .faultSeq v => { s with faultSeq := v }
  | .seed v => { s with seed := v }
  | .egress v => { s with egress := v }
  | .rxBuf v => { s with rxBuf := v }
  | .copies v => { s with copies := v }
  | .txq v => { s with txq := v }
  | .cellIds v => { s with cellIds := v }
  | .heldFrames v => { s with heldFrames := v }
  | .wire v => { s with wire := v }
  | .admitted v => { s with admitted := v }
  | .pcie v => { s with pcie := v }
  | .pmPmes v => { s with pmPmes := v }
  | .doeObject v => { s with doeObject := v }
  | .smb v => { s with smb := v }
  | .fwBody v => { s with fwBody := v }
  | .chestSys v => { s with chestSys := v }
  | .places v => { s with places := v }
  | .stripes v => { s with stripes := v }
  | .faultDue v => { s with faultDue := v }
  | .fibre v => { s with fibre := v }
  | .notices v => { s with notices := v }
  | .inflight v => { s with inflight := v }
  | .hostOut v => { s with hostOut := v }
  | .msix v => { s with msix := v }
  | .readOut v => { s with readOut := v }
  | .doe v => { s with doe := v }
  | .chest v => { s with chest := v }
  | .bar4Log v => { s with bar4Log := v }
  | .alert v => { s with alert := v }
  | .tripped v => { s with tripped := v }
  | .wakeLow v => { s with wakeLow := v }
  | .sclkPart v => { s with sclkPart := v }

/-- A run of elementary updates, in order. -/
def applyAll (us : List Upd) (s : State) : State := us.foldl (fun s u => u.apply s) s

/-- `t` comes from `s` by elementary updates. -/
def Reach (s t : State) : Prop := ∃ us : List Upd, t = applyAll us s

theorem Reach.refl (s : State) : Reach s s := ⟨[], rfl⟩

theorem Reach.trans {s t u : State} (h : Reach s t) (k : Reach t u) : Reach s u := by
  obtain ⟨a, rfl⟩ := h
  obtain ⟨b, rfl⟩ := k
  exact ⟨a ++ b, by simp [applyAll]⟩

/-- A state change that is a run of elementary updates. -/
structure Act where
  run : State → State
  ok : ∀ s, Reach s (run s)

namespace Act

/-- Change nothing. -/
def skip : Act := ⟨fun s => s, Reach.refl⟩

/-- One elementary update. -/
def upd (u : Upd) : Act := ⟨u.apply, fun _ => ⟨[u], rfl⟩⟩

/-- One act, then another. -/
def seq (a b : Act) : Act := ⟨fun s => b.run (a.run s), fun s => (a.ok s).trans (b.ok _)⟩

/-- An act that depends on the state it starts from. -/
def ask (f : State → Act) : Act := ⟨fun s => (f s).run s, fun s => (f s).ok s⟩

/-- Acts in order. -/
def all : List Act → Act
  | [] => skip
  | a :: t => seq a (all t)

/-- The act where the condition holds, nothing otherwise. -/
def when (c : Bool) (a : Act) : Act := bif c then a else skip

/-- An act for each element, in order. -/
def each {α : Type} (l : List α) (f : α → Act) : Act := all (l.map f)

/-- Set a register field. -/
def set (f : Field) (v : Nat) : Act := upd (.set f v)

/-- Set a field to a function of its value. -/
def modify (f : Field) (g : Nat → Nat) : Act := ask fun s => set f (g (s.get f))

/-- Write a cell of a bank. -/
def put (b : Bank) (k v : Nat) : Act := upd (.put b k v)

/-- Write bytes of device memory from an address upwards. -/
def pokes (a : Nat) : List Byte → Act
  | [] => skip
  | b :: t => seq (upd (.poke a b)) (pokes (a + 1) t)

end Act

end Sys2Proof.Machine
end

