-- ==== Sys2Proof/Machine/Operands.lean ====
section
/-!
DEFINITION. Operand forms: bit fields and byte order (R1), sequence-number comparison (R27), the tile header and its validity
(R22–R25), the element layout of a payload (R23, R24), and the tile record (R199).
-/

namespace Sys2Proof.Machine

/-- Bits `lo` to `lo + w − 1` of `n`. -/
def bits (n lo w : Nat) : Nat := (n >>> lo) % 2 ^ w

/-- `n` with bits `lo` to `lo + w − 1` replaced by the low bits of `v`. -/
def setBits (n lo w v : Nat) : Nat :=
  n % 2 ^ lo + (v % 2 ^ w) <<< lo + (n >>> (lo + w)) <<< (lo + w)

/-- Bit `i` of `n`. -/
def bitAt (n i : Nat) : Bool := (n >>> i) % 2 = 1

/-- The two's-complement value of a `w`-bit word. -/
def signed (w n : Nat) : Int := if n % 2 ^ w < 2 ^ (w - 1) then (n % 2 ^ w : Nat) else (n % 2 ^ w : Nat) - (2 ^ w : Nat)

/-- The `w`-bit two's-complement word of an integer, modulo 2^w. -/
def unsigned (w : Nat) (i : Int) : Nat := (i % (2 ^ w : Nat)).toNat

/-- ⌈a ÷ b⌉. -/
def ceilDiv (a b : Nat) : Nat := (a + b - 1) / b

/-- `a − b` modulo 2^32 as a signed value: the order of sequence numbers (R27). -/
def seqDiff (a b : Nat) : Int := signed 32 ((a + 2 ^ 32 - b % 2 ^ 32) % 2 ^ 32)

/-- Forward distance from `b` to `a` modulo 2^32. -/
def seqFwd (a b : Nat) : Nat := (a + 2 ^ 32 - b % 2 ^ 32) % 2 ^ 32

/-- Next sequence number (R27). -/
def seqNext (a : Nat) : Nat := (a + 1) % 2 ^ 32

/-- Bytes as a little-endian number (R1). -/
def leNat : List Byte → Nat
  | [] => 0
  | b :: t => b.toNat + 256 * leNat t

/-- The `n` low bytes of a number, least significant first (R1). -/
def leBytes : Nat → Nat → List Byte
  | 0, _ => []
  | n + 1, v => BitVec.ofNat 8 v :: leBytes n (v / 256)

/-- A list of equal-width words packed with element 0 lowest. -/
def pack (w : Nat) : List Nat → Nat
  | [] => 0
  | x :: t => x % 2 ^ w + (pack w t) <<< w

/-- Packing of a list of a few large words, halving the list: equal to `pack`, and quick to run. -/
def packFast (w : Nat) (l : List Nat) : Nat :=
  (l.foldl (fun (acc : Nat × Nat) x => (acc.1 + (x % 2 ^ w) <<< acc.2, acc.2 + w)) (0, 0)).1

/-- The first `n` `w`-bit words of a number. -/
def unpack (w n v : Nat) : List Nat := (List.range n).map fun i => bits v (i * w) w

/-! The tile header (R22). -/

def hFmt (h : Nat) : Nat := bits h 0 8
def hPoison (h : Nat) : Bool := bitAt h 8
def hLast (h : Nat) : Bool := bitAt h 9
def hScaled (h : Nat) : Bool := bitAt h 10
def hRows (h : Nat) : Nat := bits h 16 16
def hCols (h : Nat) : Nat := bits h 32 16
def hRowBytes (h : Nat) : Nat := bits h 48 16
def hSlot (h : Nat) : Nat := bits h 64 14
def hBsOffset (h : Nat) : Nat := bits h 80 16
def hBsk (h : Nat) : Nat := bits h 96 2
def hSeq (h : Nat) : Nat := bits h 128 32
def hStep (h : Nat) : Nat := bits h 160 32
def hOrigin (h : Nat) : Nat := bits h 192 24
def hPayloadLen (h : Nat) : Nat := bits h 224 16

/-- The reserved fields of a header, together. -/
def hReserved (h : Nat) : Nat := bits h 11 5 + bits h 78 2 + bits h 98 30 + bits h 216 8 + bits h 240 16

def b2n (b : Bool) : Nat := bif b then 1 else 0

/-- A header from its fields, reserved fields 0. -/
def mkHeader (fmt : Nat) (poison last scaled : Bool) (rows cols rowBytes slot bsOff bsk seq step origin len : Nat) : Nat :=
  fmt % 2 ^ 8 + b2n poison <<< 8 + b2n last <<< 9 + b2n scaled <<< 10 + (rows % 2 ^ 16) <<< 16 + (cols % 2 ^ 16) <<< 32 +
  (rowBytes % 2 ^ 16) <<< 48 + (slot % 2 ^ 14) <<< 64 + (bsOff % 2 ^ 16) <<< 80 + (bsk % 4) <<< 96 + (seq % 2 ^ 32) <<< 128 +
  (step % 2 ^ 32) <<< 160 + (origin % 2 ^ 24) <<< 192 + (len % 2 ^ 16) <<< 224

/-- The header of a tile. -/
def Tile.head (t : Tile) : Nat := t.raw % 2 ^ 256

/-- The payload of a tile as bits. -/
def Tile.payload (t : Tile) : Nat := t.raw >>> 256

/-- A tile from header and payload bits. -/
def Tile.of (h p : Nat) : Tile := ⟨h % 2 ^ 256 + p <<< 256⟩

/-- A tile with its POISON set when `p` holds (R26). -/
def Tile.withPoison (t : Tile) (p : Bool) : Tile := bif p then ⟨setBits t.raw 8 1 1⟩ else t

/-- A tile with SEQ, STEP and ORIGIN as its producer sets them (R84). -/
def Tile.stamp (t : Tile) (seq step origin : Nat) : Tile :=
  ⟨setBits (setBits (setBits t.raw 128 32 seq) 160 32 step) 192 24 origin⟩

/-- Bytes of the tile record: 32 + PAYLOAD_LEN (R199). -/
def Tile.recordLen (t : Tile) : Nat := 32 + hPayloadLen t.head

/-- The bytes of the tile record (R199). -/
def Tile.record (t : Tile) : List Byte := (List.range t.recordLen).map fun i => BitVec.ofNat 8 (bits t.raw (8 * i) 8)

/-- A tile from the bytes of a record. -/
def Tile.ofBytes (bs : List Byte) : Tile := ⟨packFast 8 (bs.map fun b => b.toNat)⟩

/-- The element bits of a format code, and none where it is reserved (R23). -/
def elemBits (fmt : Nat) : Option Nat :=
  match fmt with
  | 0x00 => some 8
  | 0x01 => some 4
  | 0x02 => some 8
  | 0x03 => some 32
  | 0x04 => some 4
  | 0x05 => some 8
  | 0x06 => some 8
  | 0x07 => some 8
  | 0x08 => some 16
  | 0x09 => some 16
  | 0x0A => some 32
  | 0x0B => some 1
  | 0x0C => some 8
  | _ => none

/-- The BSK that the format code allows (R23). -/
def fmtBsk (fmt : Nat) : Nat := if fmt = 0x04 ∨ fmt = 0x05 then 1 else if fmt = 0x0C then 2 else 0

/-- Bytes of one row's elements: ⌈COLS × element bits ÷ 8⌉. -/
def rowLen (fmt cols : Nat) : Nat := ceilDiv (cols * (elemBits fmt).getD 8) 8

/-- Scale bytes of a tile (R24). -/
def scaleBytes (bsk rows cols : Nat) : Nat := if bsk = 1 then rows * ceilDiv cols 32 else if bsk = 2 then rows else 0

/-- Whether a tile header is valid (R24). -/
def headerValid (h : Nat) : Bool :=
  match elemBits (hFmt h) with
  | none => false
  | some _ =>
    let rl := rowLen (hFmt h) (hCols h)
    let n := scaleBytes (hBsk h) (hRows h) (hCols h)
    let o := hBsOffset h
    (1 ≤ hRows h && hRows h ≤ 128) && (1 ≤ hCols h) && (1 ≤ hRowBytes h && hRowBytes h ≤ 32768) &&
    (1 ≤ hPayloadLen h && hPayloadLen h ≤ 32768) && (rl ≤ hRowBytes h) &&
    ((hRows h - 1) * hRowBytes h + rl ≤ hPayloadLen h) && (hBsk h = fmtBsk (hFmt h)) &&
    (n = 0 || (o + n ≤ hPayloadLen h &&
      (List.range (hRows h)).all fun r => o + n ≤ r * hRowBytes h || r * hRowBytes h + rl ≤ o)) &&
    hReserved h = 0

/-- The code of element `i` of row `r` of a payload (R23). -/
def elemCode (h p : Nat) (w r i : Nat) : Nat := bits p (8 * (r * hRowBytes h) + i * w) w

/-- The scale byte that governs element `i` of row `r` (R24). -/
def scaleByte (h p r i : Nat) : Nat :=
  let o := hBsOffset h
  if hBsk h = 1 then bits p (8 * (o + r * ceilDiv (hCols h) 32 + i / 32)) 8
  else if hBsk h = 2 then bits p (8 * (o + r)) 8 else 0

/-- Units charged for a tile: one for the header and one per 64 payload bytes (R40). -/
def tileUnits (t : Tile) : Nat := 1 + ceilDiv (hPayloadLen t.head) 64

end Sys2Proof.Machine
end

