-- ==== Sys2Proof/Machine/Num.lean ====
section
/-!
DEFINITION. Exact values, the number formats and the one rounding (R67–R82, R131): decoding a code to an exact value, exact
arithmetic on values, and rounding a value into a format with the sticky flags that R76 and R81 name.
-/

namespace Sys2Proof.Machine

/-! Sticky flags as bits, in the order of bits [294:288] of a stream context (R30). -/

def fNanIn : Nat := 1
def fInvalid : Nat := 2
def fOverflow : Nat := 4
def fDenorm : Nat := 8
def fSaturate : Nat := 16
def fIntSat : Nat := 32
def fEmpty : Nat := 64

/-- An exact value: NaN, an infinity, or (−1)^neg × m × 2^e, with signed zeros. -/
inductive Val where
  | nan
  | inf (neg : Bool)
  | fin (neg : Bool) (m : Nat) (e : Int)
  deriving DecidableEq, Repr

namespace Val

def zero : Val := .fin false 0 0

/-- An integer as an exact value. -/
def ofInt (i : Int) : Val := .fin (i < 0) i.natAbs 0

/-- A value times 2^k. -/
def scale (v : Val) (k : Int) : Val :=
  match v with
  | .fin s m e => .fin s m (e + k)
  | v => v

def neg : Val → Val
  | .nan => .nan
  | .inf s => .inf (!s)
  | .fin s m e => .fin (!s) m e

def abs : Val → Val
  | .nan => .nan
  | .inf _ => .inf false
  | .fin _ m e => .fin false m e

def isNan : Val → Bool
  | .nan => true
  | _ => false

def isInf : Val → Bool
  | .inf _ => true
  | _ => false

def isFinite : Val → Bool
  | .fin _ _ _ => true
  | _ => false

def isZero : Val → Bool
  | .fin _ m _ => m = 0
  | _ => false

/-- The signed mantissa of a finite value over the exponent `q` ≤ its own. -/
def mant (q : Int) : Val → Int
  | .fin s m e => if s then -((m <<< (e - q).toNat : Nat) : Int) else ((m <<< (e - q).toNat : Nat) : Int)
  | _ => 0

/-- The exponent of a finite value. -/
def expo : Val → Int
  | .fin _ _ e => e
  | _ => 0

/-- Order of two values that are not NaN: −1, 0 or 1, with the zeros equal. -/
def cmp (a b : Val) : Int :=
  match a, b with
  | .inf s, .inf t => if s = t then 0 else if s then -1 else 1
  | .inf s, _ => if s then -1 else 1
  | _, .inf t => if t then 1 else -1
  | a, b =>
    let q := min a.expo b.expo
    let x := a.mant q
    let y := b.mant q
    if x < y then -1 else if x = y then 0 else 1

/-- Order of values with −0 below +0 (R131). -/
def below (a b : Val) : Bool :=
  match a, b with
  | .fin s 0 _, .fin t 0 _ => s && !t
  | a, b => a.cmp b < 0

/-- The exact sum; INVALID for +Inf plus −Inf, NAN_IN for a NaN operand (R131). The exact zero of a sum of values of opposite
sign is +0 (IEEE 754, R75). -/
def add (a b : Val) : Val × Nat :=
  match a, b with
  | .nan, _ => (.nan, fNanIn)
  | _, .nan => (.nan, fNanIn)
  | .inf s, .inf t => if s = t then (.inf s, 0) else (.nan, fInvalid)
  | .inf s, .fin _ _ _ => (.inf s, 0)
  | .fin _ _ _, .inf t => (.inf t, 0)
  | .fin s m e, .fin t n f =>
    let q := min e f
    let x := (Val.fin s m e).mant q + (Val.fin t n f).mant q
    if x = 0 then (.fin (s && t && (m = 0 && n = 0)) 0 q, 0) else (.fin (x < 0) x.natAbs q, 0)

/-- The exact product; INVALID for 0 × Inf (R131). -/
def mul (a b : Val) : Val × Nat :=
  match a, b with
  | .nan, _ => (.nan, fNanIn)
  | _, .nan => (.nan, fNanIn)
  | .inf s, .inf t => (.inf (s != t), 0)
  | .inf s, .fin t n _ => if n = 0 then (.nan, fInvalid) else (.inf (s != t), 0)
  | .fin s m _, .inf t => if m = 0 then (.nan, fInvalid) else (.inf (s != t), 0)
  | .fin s m e, .fin t n f => (.fin (s != t) (m * n) (e + f), 0)

/-- The exact sum of a list, for finite values: a superaccumulator. -/
def sumFin (l : List Val) : Val :=
  let q := l.foldl (fun q v => min q v.expo) 0
  let x := l.foldl (fun x v => x + v.mant q) (0 : Int)
  .fin (x < 0) x.natAbs q

end Val

/-! Rounding (R79, R80). -/

/-- A rounding: to nearest even, stochastic with a 16-bit random value (R80), or away from zero (the amax of R88). -/
inductive Rnd where
  | rne
  | sr (r : Nat)
  | up
  deriving DecidableEq, Repr

/-- The magnitude m × 2^e in units of 2^q, rounded to an integer. -/
def roundMag (rnd : Rnd) (m : Nat) (e q : Int) : Nat :=
  if q ≤ e then m <<< (e - q).toNat
  else
    let d := (q - e).toNat
    let k := m >>> d
    let rem := m % 2 ^ d
    match rnd with
    | .rne => if 2 * rem > 2 ^ d ∨ (2 * rem = 2 ^ d ∧ k % 2 = 1) then k + 1 else k
    | .sr r => if (rem <<< 16) >>> d > r then k + 1 else k
    | .up => if rem = 0 then k else k + 1

/-- A float format: exponent bits, mantissa bits, bias, and whether it is an IEEE layout with infinities (R75) or a KF layout
with the single NaN 0x80 (R69–R71). -/
structure FFmt where
  eb : Nat
  mb : Nat
  bias : Int
  ieee : Bool
  deriving DecidableEq, Repr

def fp16 : FFmt := ⟨5, 10, 15, true⟩
def bf16 : FFmt := ⟨8, 7, 127, true⟩
def fp32 : FFmt := ⟨8, 23, 127, true⟩
def kf8 : FFmt := ⟨4, 3, 7, false⟩
def kf8w : FFmt := ⟨5, 2, 15, false⟩

namespace FFmt

/-- Least exponent of a normal number. -/
def emin (f : FFmt) : Int := 1 - f.bias

/-- Greatest exponent of a finite number. -/
def emax (f : FFmt) : Int := if f.ieee then f.bias else (2 ^ f.eb : Nat) - 1 - f.bias

/-- Bits of a code. -/
def width (f : FFmt) : Nat := 1 + f.eb + f.mb

/-- The canonical NaN (R71, R75). -/
def nanCode (f : FFmt) : Nat := if f.ieee then (2 ^ f.eb - 1) <<< f.mb + 2 ^ (f.mb - 1) else 0x80

/-- ±Inf. -/
def infCode (f : FFmt) (s : Bool) : Nat := b2n s <<< (f.eb + f.mb) + (2 ^ f.eb - 1) <<< f.mb

/-- ± the largest finite number. -/
def maxCode (f : FFmt) (s : Bool) : Nat :=
  b2n s <<< (f.eb + f.mb) + (if f.ieee then (2 ^ f.eb - 1) <<< f.mb - 1 else 2 ^ (f.eb + f.mb) - 1)

/-- The exact value of a code (R69, R70, R75). -/
def decode (f : FFmt) (c : Nat) : Val :=
  let s := bitAt c (f.eb + f.mb)
  let E := bits c f.mb f.eb
  let m := bits c 0 f.mb
  if f.ieee && E = 2 ^ f.eb - 1 then (if m = 0 then .inf s else .nan)
  else if !f.ieee && c % 256 = 0x80 then .nan
  else if E = 0 then .fin s m (f.emin - f.mb)
  else .fin s (2 ^ f.mb + m) (E - f.bias - f.mb)

/-- Read an operand: a BF16 or FP32 subnormal is a zero of the same sign under FLUSH, with DENORM_FLUSHED (R76). -/
def read (f : FFmt) (flush : Bool) (c : Nat) : Val × Nat :=
  match f.decode c with
  | .fin s m e => if flush && f.eb = 8 && m ≠ 0 && m < 2 ^ f.mb then (.fin s 0 e, fDenorm) else (.fin s m e, 0)
  | v => (v, 0)

/-- The code of a positive magnitude k × 2^q that fits the format, `k` below 2^(mb+1) or equal to it. -/
def codeOf (f : FFmt) (s : Bool) (k : Nat) (q : Int) : Nat :=
  if k < 2 ^ f.mb then b2n s <<< (f.eb + f.mb) + k
  else
    let l := Nat.log2 k
    b2n s <<< (f.eb + f.mb) + ((l + q + f.bias).toNat <<< f.mb) + (k >>> (l - f.mb) - 2 ^ f.mb)

/-- Round a finite value into the format (R79–R81): the code and the flags OVERFLOW, SATURATE and DENORM_FLUSHED. -/
def roundFin (f : FFmt) (rnd : Rnd) (flush sat : Bool) (s : Bool) (m : Nat) (e : Int) : Nat × Nat :=
  let z := if f.ieee then b2n s <<< (f.eb + f.mb) else 0
  if m = 0 then (z, 0)
  else
    let top : Int := Nat.log2 m + e
    let ku := roundMag rnd m e (top - f.mb)
    let tiny : Bool := (Nat.log2 ku : Int) + (top - f.mb) < f.emin
    if flush && f.eb = 8 && f.ieee && tiny then (z, fDenorm)
    else
      let q := max top f.emin - f.mb
      let k := roundMag rnd m e q
      if k = 0 then (z, 0)
      else if (Nat.log2 k : Int) + q > f.emax then
        if sat then (f.maxCode s, fSaturate) else (if f.ieee then f.infCode s else 0x80, fOverflow)
      else (f.codeOf s k q, 0)

/-- Round a value into the format. A NaN becomes the canonical NaN, and an infinity in a KF format becomes NaN; their flags are
the caller's (R81, R131). -/
def round (f : FFmt) (rnd : Rnd) (flush sat : Bool) (v : Val) : Nat × Nat :=
  match v with
  | .nan => (f.nanCode, 0)
  | .inf s => (if f.ieee then f.infCode s else 0x80, 0)
  | .fin s m e => f.roundFin rnd flush sat s m e

end FFmt

/-- Round a value into a `w`-bit two's-complement integer (R81): the code and the flags. -/
def roundInt (w : Nat) (rnd : Rnd) (v : Val) : Nat × Nat :=
  let lo : Int := -(2 ^ (w - 1) : Nat)
  let hi : Int := (2 ^ (w - 1) : Nat) - 1
  match v with
  | .nan => (0, fInvalid)
  | .inf s => (unsigned w (if s then lo else hi), fSaturate)
  | .fin s m e =>
    let k : Int := roundMag rnd m e 0
    let k := if s then -k else k
    if k < lo then (unsigned w lo, fSaturate) else if k > hi then (unsigned w hi, fSaturate) else (unsigned w k, 0)

/-- Saturating two's-complement result of an integer operation, with INT_SAT (R68, R131). -/
def satInt (w : Nat) (i : Int) : Nat × Nat :=
  let lo : Int := -(2 ^ (w - 1) : Nat)
  let hi : Int := (2 ^ (w - 1) : Nat) - 1
  if i < lo then (unsigned w lo, fIntSat) else if i > hi then (unsigned w hi, fIntSat) else (unsigned w i, 0)

/-- The value of an FP32 code, and the FP32 code of a value under RNE without FLUSH. -/
def fp32Val (c : Nat) : Val := fp32.decode c
def fp32Code (v : Val) : Nat := (fp32.round .rne false false v).1

/-- An amax: a magnitude rounded toward +∞ to FP32, held at the largest finite value (R88). -/
def amaxCode (v : Val) : Nat :=
  match v with
  | .fin _ m e => (fp32.roundFin .up false true false m e).1
  | _ => 0

/-- The larger of two non-negative FP32 codes, which order as integers. -/
def maxCode32 (a b : Nat) : Nat := max a b

/-! Correctly rounded functions (R131). A quotient or root that is not exact carries a low sticky bit, so that one rounding of
it is the rounding of the exact result. -/

/-- m1 ÷ m2 with 80 fraction bits and a sticky bit. -/
def Val.divMag (m1 : Nat) (e1 : Int) (m2 : Nat) (e2 : Int) : Nat × Int :=
  let sh := 80 + Nat.log2 m2
  let x := m1 <<< sh
  let q := x / m2
  (2 * q + (if x % m2 = 0 then 0 else 1), e1 - e2 - sh - 1)

/-- Newton iteration for the integer square root, with `fuel` steps from above. -/
def isqrtLoop : Nat → Nat → Nat → Nat
  | 0, _, x => x
  | fuel + 1, n, x =>
    let y := (x + n / x) / 2
    if y < x then isqrtLoop fuel n y else x

/-- ⌊√n⌋. -/
def isqrt (n : Nat) : Nat := if n = 0 then 0 else isqrtLoop (Nat.log2 n + 8) n (2 ^ (Nat.log2 n / 2 + 1))

/-- √(m × 2^e) with at least 80 significant bits and a sticky bit. -/
def Val.sqrtMag (m : Nat) (e : Int) : Nat × Int :=
  let sh : Nat := if (e - 160) % 2 = 0 then 160 else 161
  let x := m <<< sh
  let r := isqrt x
  (2 * r + (if r * r = x then 0 else 1), (e - sh) / 2 - 1)

/-- The exact quotient; the flags of R131. -/
def Val.div (a b : Val) : Val × Nat :=
  match a, b with
  | .nan, _ => (.nan, fNanIn)
  | _, .nan => (.nan, fNanIn)
  | .inf _, .inf _ => (.nan, fInvalid)
  | .inf s, .fin t _ _ => (.inf (s != t), 0)
  | .fin s _ _, .inf t => (.fin (s != t) 0 0, 0)
  | .fin s m e, .fin t n f =>
    if n = 0 then (if m = 0 then (.nan, fInvalid) else (.inf (s != t), fOverflow))
    else
      let r := Val.divMag m e n f
      (.fin (s != t) r.1 r.2, 0)

/-- The square root; −0 gives −0, and a negative number is invalid. -/
def Val.sqrt (a : Val) : Val × Nat :=
  match a with
  | .nan => (.nan, fNanIn)
  | .inf s => if s then (.nan, fInvalid) else (.inf false, 0)
  | .fin s m e =>
    if m = 0 then (.fin s 0 e, 0) else if s then (.nan, fInvalid)
    else
      let r := Val.sqrtMag m e
      (.fin false r.1 r.2, 0)

/-- 1 / √a: ±0 gives the infinity of its sign (R131, log entry 7). -/
def Val.rsqrt (a : Val) : Val × Nat :=
  match a with
  | .nan => (.nan, fNanIn)
  | .inf s => if s then (.nan, fInvalid) else (.fin false 0 0, 0)
  | .fin s m e =>
    if m = 0 then (.inf s, fOverflow) else if s then (.nan, fInvalid)
    else
      -- √(2^k ÷ m) with k + e even, so that the root of the floor is the floor of the root
      let k0 : Nat := 400 + Nat.log2 m
      let k : Nat := if (e + k0) % 2 = 0 then k0 else k0 + 1
      let q := 2 ^ k / m
      let r := isqrt q
      (.fin false (2 * r + (if 2 ^ k % m = 0 && r * r = q then 0 else 1)) ((-e - k) / 2 - 1), 0)

/-- 2^(bits of f below the point), with `p` fraction bits rounded down: the product of the roots 2^(2^−i) of the set bits of the
`p`-bit fraction `f`. -/
def exp2Loop (p : Nat) : Nat → Nat → Nat → Nat → Nat
  | 0, _, _, acc => acc
  | n + 1, c, f, acc =>
    -- c = 2^(2^−i) for the current bit i, scaled by 2^p
    let acc := if bitAt f n then (acc * c) >>> p else acc
    exp2Loop p n (isqrt (c <<< p)) f acc

/-- Bounds of 2^x for a finite x that is not an integer, at precision p: (lower, upper, exponent). -/
def exp2Bounds (p : Nat) (s : Bool) (m : Nat) (e : Int) : Nat × Nat × Int :=
  let x : Int := (Val.fin s m e).mant (min e 0)
  let d := (-(min e 0)).toNat
  let n : Int := x / (2 ^ d : Nat)
  let fr : Nat := (x % (2 ^ d : Nat)).toNat
  let f := if d ≤ p then fr <<< (p - d) else fr >>> (d - p)
  let lo := exp2Loop p p (isqrt (2 <<< (2 * p))) f (2 ^ p)
  (lo, lo + 4 * p + 8, n - p)

/-- Digits of log2 of y × 2^−w in [1, 2), `k` of them. -/
def log2Loop (w : Nat) : Nat → Nat → Nat → Nat
  | 0, _, acc => acc
  | k + 1, y, acc =>
    let y2 := (y * y) >>> w
    if y2 ≥ 2 ^ (w + 1) then log2Loop w k (y2 / 2) (2 * acc + 1) else log2Loop w k y2 (2 * acc)

/-- Bounds of log2 of a positive value that is not a power of two, as numbers over 2^p. -/
def log2Bounds (p : Nat) (m : Nat) (e : Int) : Int × Int :=
  let l := Nat.log2 m
  let w := 2 * p + 16
  let y := if l ≤ w then m <<< (w - l) else m >>> (l - w)
  let fr := log2Loop w p y 0
  let n : Int := (l : Int) + e
  (n * (2 ^ p : Nat) + fr, n * (2 ^ p : Nat) + fr + 3)

/-- Round by bounds: the first precision at which both bounds round to one code decides; the last one's lower bound otherwise. -/
def roundBounds (enc : Val → Nat × Nat) : List (Val × Val) → Nat × Nat
  | [] => (0, 0)
  | [b] => enc b.1
  | b :: t => if enc b.1 = enc b.2 then enc b.1 else roundBounds enc t

/-- 2^a, rounded by `enc`. -/
def Val.exp2 (enc : Val → Nat × Nat) (a : Val) : Nat × Nat :=
  match a with
  | .nan => ((enc .nan).1, fNanIn)
  | .inf s => if s then enc (.fin false 0 0) else enc (.inf false)
  | .fin s m e =>
    if m = 0 then enc (.fin false 1 0)
    else if (Nat.log2 m : Int) + e > 9 then
      if s then enc (.fin false 1 (-400)) else enc (.fin false 1 400)
    else if 0 ≤ e ∨ m % 2 ^ (-e).toNat = 0 then enc (.fin false 1 ((Val.fin s m e).mant (min e 0) / (2 ^ (-(min e 0)).toNat : Nat)))
    else roundBounds enc ([96, 192, 384].map fun p =>
      let b := exp2Bounds p s m e
      (.fin false b.1 b.2.2, .fin false b.2.1 b.2.2))

/-- log2 a, rounded by `enc`; ±0 gives −Inf with OVERFLOW (R131). -/
def Val.log2 (enc : Val → Nat × Nat) (a : Val) : Nat × Nat :=
  match a with
  | .nan => ((enc .nan).1, fNanIn)
  | .inf s => if s then ((enc .nan).1, fInvalid) else enc (.inf false)
  | .fin s m e =>
    if m = 0 then ((enc (.inf true)).1, fOverflow)
    else if s then ((enc .nan).1, fInvalid)
    else if m = 2 ^ Nat.log2 m then enc (Val.ofInt (Nat.log2 m + e))
    else roundBounds enc ([96, 192, 384].map fun p =>
      let b := log2Bounds p m e
      ((Val.ofInt b.1).scale (-p), (Val.ofInt b.2).scale (-p)))

end Sys2Proof.Machine
end

