-- ==== Sys2Proof/Machine/Regs.lean ====
section
/-!
DEFINITION. The BAR0 register map: one `Field` per register field of the register tables of spec/01 to spec/20, under the
manual's register and field names (R2, R15, R30, R47, R59 and every chapter's "Registers" section), and the table of those
fields with their access codes, which the one access engine reads (R2–R6, R376). A field's key is its bit address in BAR0.
The names are REGISTER_FIELD; an array takes its indices. Fields of access WO hold nothing (they read 0) and have no name.
Resets that the manual does not print as a number (fused, image, stored, seated) are 0 here, and the SMBus address is 0x58, its straps
all grounded (R436): log entry 4.
The MSI-X table and pending bits at 0x00E0_0000 and 0x00E0_1000 (R374) have PCIe's layout: log entry 5.
-/

namespace Sys2Proof.Machine.Reg

/-- The BAR0 offset of the control page of the station at endpoint `e` (R59, with the endpoints of R28). -/
def stnPage (e : Nat) : Nat :=
  if e < 0x120 then 0x01000000 + (e / 8) * 0x10000 + (e % 8) * 0x1000
  else if e < 0x124 then 0x02200000 + (e - 0x120) * 0x1000
  else if e < 0x140 then 0x02100000 + (e - 0x130) * 0x1000
  else if e < 0x164 then 0x02000000 + (e - 0x140) * 0x1000
  else if e = 0x170 then 0x00F00000
  else if e = 0x178 then 0x02300000
  else 0x02400000 + (e - 0x180) * 0x1000

/-- Default role of link `l` (R256). -/
def defaultRole (l : Nat) : Nat :=
  if l < 5 then 1 else if 12 ≤ l ∧ l < 17 then 1 else if 24 ≤ l ∧ l < 29 then 1
  else if l = 5 ∨ l = 6 ∨ l = 17 ∨ l = 29 then 2
  else if l = 7 ∨ l = 18 ∨ l = 19 ∨ l = 30 then 3
  else if l = 8 ∨ l = 20 ∨ l = 31 ∨ l = 32 then 4
  else if l = 9 ∨ l = 21 ∨ l = 22 ∨ l = 33 then 5
  else if l = 10 ∨ l = 34 then 6
  else if l = 11 ∨ l = 23 then 7
  else if l = 35 then 8 else 0


/-! Registers of spec/01_device_architecture.md. -/

def PWR_OPMODE_REQ : Field := ⟨(0x02600000) * 8 + 0, 2, 0⟩
def PWR_OPMODE_CUR : Field := ⟨(0x02600000) * 8 + 4, 2, 0⟩
def PWR_OPMODE_PENDING : Field := ⟨(0x02600000) * 8 + 8, 1, 0⟩
def PWR_OPMODE_STBY_LOCK : Field := ⟨(0x02600000) * 8 + 9, 1, 0⟩
def PWR_OPMODE_DONE : Field := ⟨(0x02600000) * 8 + 12, 1, 0⟩
def PWR_OPMODE_SWITCH_SEQ : Field := ⟨(0x02600000) * 8 + 16, 16, 0⟩

/-! Registers of spec/02_tiles_streams_stations.md. -/

def STR_VALID (n : Nat) : Field := ⟨(0x03000000 + n * 0x40) * 8 + 0, 1, 0⟩
def STR_REMOTE (n : Nat) : Field := ⟨(0x03000000 + n * 0x40) * 8 + 1, 1, 0⟩
def STR_SIDE (n : Nat) : Field := ⟨(0x03000000 + n * 0x40) * 8 + 2, 1, 0⟩
def STR_GRAPH (n : Nat) : Field := ⟨(0x03000000 + n * 0x40) * 8 + 3, 3, 0⟩
def STR_SRC_ENDPT (n : Nat) : Field := ⟨(0x03000000 + n * 0x40) * 8 + 6, 9, 0⟩
def STR_DST_ENDPT (n : Nat) : Field := ⟨(0x03000000 + n * 0x40) * 8 + 15, 9, 0⟩
def STR_VC (n : Nat) : Field := ⟨(0x03000000 + n * 0x40) * 8 + 24, 3, 0⟩
def STR_WAIT_EN (n : Nat) : Field := ⟨(0x03000000 + n * 0x40) * 8 + 27, 1, 0⟩
def STR_PEER_CHIP (n : Nat) : Field := ⟨(0x03000000 + n * 0x40) * 8 + 32, 24, 0⟩
def STR_PEER_STREAM (n : Nat) : Field := ⟨(0x03000000 + n * 0x40) * 8 + 64, 18, 0⟩
def STR_NEXT_SEQ (n : Nat) : Field := ⟨(0x03000000 + n * 0x40) * 8 + 96, 32, 0⟩
def STR_CREDITS (n : Nat) : Field := ⟨(0x03000000 + n * 0x40) * 8 + 128, 16, 0⟩
def STR_CREDIT_MAX (n : Nat) : Field := ⟨(0x03000000 + n * 0x40) * 8 + 144, 16, 0⟩
def STR_MLS_DONE (n : Nat) : Field := ⟨(0x03000000 + n * 0x40) * 8 + 160, 16, 0⟩
def STR_MLS_WAIT (n : Nat) : Field := ⟨(0x03000000 + n * 0x40) * 8 + 176, 16, 0⟩
def STR_DONE_TILES (n : Nat) : Field := ⟨(0x03000000 + n * 0x40) * 8 + 192, 32, 0⟩
def STR_WD_LIMIT (n : Nat) : Field := ⟨(0x03000000 + n * 0x40) * 8 + 224, 24, 0⟩
def STR_WD_COUNT (n : Nat) : Field := ⟨(0x03000000 + n * 0x40) * 8 + 256, 24, 0⟩
def STR_NAN_IN (n : Nat) : Field := ⟨(0x03000000 + n * 0x40) * 8 + 288, 1, 0⟩
def STR_INVALID (n : Nat) : Field := ⟨(0x03000000 + n * 0x40) * 8 + 289, 1, 0⟩
def STR_OVERFLOW (n : Nat) : Field := ⟨(0x03000000 + n * 0x40) * 8 + 290, 1, 0⟩
def STR_DENORM_FLUSHED (n : Nat) : Field := ⟨(0x03000000 + n * 0x40) * 8 + 291, 1, 0⟩
def STR_SATURATE (n : Nat) : Field := ⟨(0x03000000 + n * 0x40) * 8 + 292, 1, 0⟩
def STR_INT_SAT (n : Nat) : Field := ⟨(0x03000000 + n * 0x40) * 8 + 293, 1, 0⟩
def STR_EMPTY (n : Nat) : Field := ⟨(0x03000000 + n * 0x40) * 8 + 294, 1, 0⟩
def STR_POISONED (n : Nat) : Field := ⟨(0x03000000 + n * 0x40) * 8 + 295, 1, 0⟩
def STR_BENCH_CHECK_FAIL (n : Nat) : Field := ⟨(0x03000000 + n * 0x40) * 8 + 320, 1, 0⟩
def STR_MILESTONE_OVERFLOW (n : Nat) : Field := ⟨(0x03000000 + n * 0x40) * 8 + 321, 1, 0⟩
def STR_LOST (n : Nat) : Field := ⟨(0x03000000 + n * 0x40) * 8 + 322, 1, 0⟩
def STR_STALLED (n : Nat) : Field := ⟨(0x03000000 + n * 0x40) * 8 + 323, 1, 0⟩
def STR_SIG_MISMATCH (n : Nat) : Field := ⟨(0x03000000 + n * 0x40) * 8 + 324, 1, 0⟩
def STR_ABORTED (n : Nat) : Field := ⟨(0x03000000 + n * 0x40) * 8 + 325, 1, 0⟩
def STR_BAD_HEADER (n : Nat) : Field := ⟨(0x03000000 + n * 0x40) * 8 + 326, 1, 0⟩
def STR_WR_REJECT (n : Nat) : Field := ⟨(0x03000000 + n * 0x40) * 8 + 327, 1, 0⟩
def STR_FLUSH (n : Nat) : Field := ⟨(0x03000000 + n * 0x40) * 8 + 352, 1, 0⟩
def STR_FLUSH_OVR (n : Nat) : Field := ⟨(0x03000000 + n * 0x40) * 8 + 353, 1, 0⟩
def STR_SAT_EN (n : Nat) : Field := ⟨(0x03000000 + n * 0x40) * 8 + 354, 1, 0⟩
def STR_TILES_DONE (n : Nat) : Field := ⟨(0x03000000 + n * 0x40) * 8 + 384, 32, 0⟩
def MLS_ENTRY_COUNT (n : Nat) : Field := ⟨(0x02800000 + n * 0x8) * 8 + 0, 32, 0⟩
def MLS_ENTRY_TARGET (n : Nat) : Field := ⟨(0x02800000 + n * 0x8) * 8 + 32, 32, 0xFFFFFFFF⟩
def MLS_STATUS_CODE (n : Nat) : Field := ⟨(0x02900000 + n * 0x4) * 8 + 0, 8, 0⟩
def MLS_STATUS_REACHED (n : Nat) : Field := ⟨(0x02900000 + n * 0x4) * 8 + 8, 1, 0⟩
def MLS_STATUS_OVF (n : Nat) : Field := ⟨(0x02900000 + n * 0x4) * 8 + 9, 1, 0⟩
def MLS_STATUS_IRQ_EN (n : Nat) : Field := ⟨(0x02900000 + n * 0x4) * 8 + 10, 1, 0⟩
def MLS_STATUS_IRQ_VEC (n : Nat) : Field := ⟨(0x02900000 + n * 0x4) * 8 + 16, 8, 0⟩
def STN_CTRL_ENABLE (e : Nat) : Field := ⟨(stnPage e) * 8 + 0, 1, 0⟩
def STN_STATUS_QUIESCED (e : Nat) : Field := ⟨(stnPage e + 4) * 8 + 0, 1, 1⟩
def STN_STATUS_BUSY (e : Nat) : Field := ⟨(stnPage e + 4) * 8 + 1, 1, 0⟩
def STN_STATUS_ABORT_DONE (e : Nat) : Field := ⟨(stnPage e + 4) * 8 + 2, 1, 0⟩
def STN_STATUS_WAITING (e : Nat) : Field := ⟨(stnPage e + 4) * 8 + 3, 1, 0⟩
def STN_STATUS_STEP_IDX (e : Nat) : Field := ⟨(stnPage e + 4) * 8 + 16, 16, 0⟩

/-! Registers of spec/03_number_formats.md. -/

def GLB_NUMCTL_FLUSH : Field := ⟨(0x00000100) * 8 + 0, 1, 1⟩
def CLU_CONV_LOST_NONZERO_COUNT (c : Nat) : Field := ⟨(0x01005018 + c * 0x10000) * 8 + 0, 48, 0⟩
def CLU_CONV_LOST_NONZERO_OVF (c : Nat) : Field := ⟨(0x01005018 + c * 0x10000) * 8 + 63, 1, 0⟩
def CLU_CONV_AMAX_AMAX (c k : Nat) : Field := ⟨(0x01005020 + c * 0x10000 + k * 0x4) * 8 + 0, 32, 0⟩
def GLB_SCALE_SLOT_EST (n : Nat) : Field := ⟨(0x00080000 + n * 0x10) * 8 + 0, 32, 0⟩
def GLB_SCALE_SLOT_E (n : Nat) : Field := ⟨(0x00080000 + n * 0x10) * 8 + 32, 8, 0⟩
def GLB_SCALE_SLOT_H (n : Nat) : Field := ⟨(0x00080000 + n * 0x10) * 8 + 40, 2, 0⟩
def GLB_SCALE_SLOT_DECAY (n : Nat) : Field := ⟨(0x00080000 + n * 0x10) * 8 + 42, 3, 0⟩
def GLB_SCALE_SLOT_GRAPH (n : Nat) : Field := ⟨(0x00080000 + n * 0x10) * 8 + 45, 3, 0⟩
def GLB_SCALE_SLOT_FMT (n : Nat) : Field := ⟨(0x00080000 + n * 0x10) * 8 + 48, 8, 0⟩
def GLB_SCALE_SLOT_VALID (n : Nat) : Field := ⟨(0x00080000 + n * 0x10) * 8 + 63, 1, 0⟩
def GLB_SCALE_SLOT_AMAX (n : Nat) : Field := ⟨(0x00080000 + n * 0x10) * 8 + 64, 32, 0⟩
def GLB_SCALE_SLOT_OVF_COUNT (n : Nat) : Field := ⟨(0x00080000 + n * 0x10) * 8 + 96, 16, 0⟩
def GLB_SCALE_SLOT_SAT_STEP (n : Nat) : Field := ⟨(0x00080000 + n * 0x10) * 8 + 112, 1, 0⟩

/-! Registers of spec/04_matrix_benches.md. -/

def CLU_BENCH_HSTATUS_BUSY_H (c b : Nat) : Field := ⟨(0x01000008 + c * 0x10000 + b * 0x1000) * 8 + 0, 1, 0⟩
def CLU_BENCH_HSTATUS_WAITING_H (c b : Nat) : Field := ⟨(0x01000008 + c * 0x10000 + b * 0x1000) * 8 + 1, 1, 0⟩
def CLU_BENCH_HSTATUS_STEP_IDX_H (c b : Nat) : Field := ⟨(0x01000008 + c * 0x10000 + b * 0x1000) * 8 + 16, 16, 0⟩
def CLU_BENCH_CFG_SPLIT (c b : Nat) : Field := ⟨(0x01000010 + c * 0x10000 + b * 0x1000) * 8 + 0, 1, 0⟩
def CLU_BENCH_CFG_CHECK_TOL (c b : Nat) : Field := ⟨(0x01000010 + c * 0x10000 + b * 0x1000) * 8 + 4, 5, 0x10⟩
def CLU_BENCH_LOADED_L_K (c b : Nat) : Field := ⟨(0x01000018 + c * 0x10000 + b * 0x1000) * 8 + 0, 9, 0⟩
def CLU_BENCH_LOADED_L_N (c b : Nat) : Field := ⟨(0x01000018 + c * 0x10000 + b * 0x1000) * 8 + 9, 8, 0⟩
def CLU_BENCH_LOADED_L_W_FMT (c b : Nat) : Field := ⟨(0x01000018 + c * 0x10000 + b * 0x1000) * 8 + 17, 8, 0⟩
def CLU_BENCH_LOADED_L_VALID (c b : Nat) : Field := ⟨(0x01000018 + c * 0x10000 + b * 0x1000) * 8 + 25, 1, 0⟩
def CLU_BENCH_LOADED_H_K (c b : Nat) : Field := ⟨(0x0100001C + c * 0x10000 + b * 0x1000) * 8 + 0, 9, 0⟩
def CLU_BENCH_LOADED_H_N (c b : Nat) : Field := ⟨(0x0100001C + c * 0x10000 + b * 0x1000) * 8 + 9, 8, 0⟩
def CLU_BENCH_LOADED_H_W_FMT (c b : Nat) : Field := ⟨(0x0100001C + c * 0x10000 + b * 0x1000) * 8 + 17, 8, 0⟩
def CLU_BENCH_LOADED_H_VALID (c b : Nat) : Field := ⟨(0x0100001C + c * 0x10000 + b * 0x1000) * 8 + 25, 1, 0⟩
def CLU_BENCH_CHKFAIL_L_COUNT (c b : Nat) : Field := ⟨(0x01000020 + c * 0x10000 + b * 0x1000) * 8 + 0, 48, 0⟩
def CLU_BENCH_CHKFAIL_L_OVF (c b : Nat) : Field := ⟨(0x01000020 + c * 0x10000 + b * 0x1000) * 8 + 63, 1, 0⟩
def CLU_BENCH_CHKFAIL_H_COUNT (c b : Nat) : Field := ⟨(0x01000028 + c * 0x10000 + b * 0x1000) * 8 + 0, 48, 0⟩
def CLU_BENCH_CHKFAIL_H_OVF (c b : Nat) : Field := ⟨(0x01000028 + c * 0x10000 + b * 0x1000) * 8 + 63, 1, 0⟩
def CLU_BENCH_CHKSKIP_COUNT (c b : Nat) : Field := ⟨(0x01000030 + c * 0x10000 + b * 0x1000) * 8 + 0, 48, 0⟩
def CLU_BENCH_CHKSKIP_OVF (c b : Nat) : Field := ⟨(0x01000030 + c * 0x10000 + b * 0x1000) * 8 + 63, 1, 0⟩
def CLU_BENCH_FAIL_INFO_SEQ (c b : Nat) : Field := ⟨(0x01000038 + c * 0x10000 + b * 0x1000) * 8 + 0, 32, 0⟩
def CLU_BENCH_FAIL_INFO_HALF (c b : Nat) : Field := ⟨(0x01000038 + c * 0x10000 + b * 0x1000) * 8 + 32, 1, 0⟩
def CLU_BENCH_FAIL_INFO_ROW_CHK (c b : Nat) : Field := ⟨(0x01000038 + c * 0x10000 + b * 0x1000) * 8 + 33, 1, 0⟩
def CLU_BENCH_FAIL_INFO_COL_CHK (c b : Nat) : Field := ⟨(0x01000038 + c * 0x10000 + b * 0x1000) * 8 + 34, 1, 0⟩
def CLU_BENCH_FAIL_INFO_ROW (c b : Nat) : Field := ⟨(0x01000038 + c * 0x10000 + b * 0x1000) * 8 + 35, 7, 0⟩
def CLU_BENCH_FAIL_INFO_COL (c b : Nat) : Field := ⟨(0x01000038 + c * 0x10000 + b * 0x1000) * 8 + 42, 6, 0⟩
def CLU_BENCH_FAIL_INFO_VALID (c b : Nat) : Field := ⟨(0x01000038 + c * 0x10000 + b * 0x1000) * 8 + 63, 1, 0⟩
def CLU_BENCH_LEFT_L_ROWS (c b : Nat) : Field := ⟨(0x01000040 + c * 0x10000 + b * 0x1000) * 8 + 0, 32, 0⟩
def CLU_BENCH_LEFT_H_ROWS (c b : Nat) : Field := ⟨(0x01000044 + c * 0x10000 + b * 0x1000) * 8 + 0, 32, 0⟩

/-! Registers of spec/05_vector_engine_and_desk.md. -/

def CLU_VEC_STATE_PC (c : Nat) : Field := ⟨(0x01004008 + c * 0x10000) * 8 + 0, 11, 0⟩
def CLU_VEC_STATE_LOOP_DEPTH (c : Nat) : Field := ⟨(0x01004008 + c * 0x10000) * 8 + 11, 2, 0⟩
def CLU_VEC_LOOP_CNT0 (c : Nat) : Field := ⟨(0x0100400C + c * 0x10000) * 8 + 0, 16, 0⟩
def CLU_VEC_LOOP_CNT1 (c : Nat) : Field := ⟨(0x0100400C + c * 0x10000) * 8 + 16, 16, 0⟩
def CLU_VEC_DBG_ADDR_LANE (c : Nat) : Field := ⟨(0x01004010 + c * 0x10000) * 8 + 0, 8, 0⟩
def CLU_VEC_DBG_ADDR_REG (c : Nat) : Field := ⟨(0x01004010 + c * 0x10000) * 8 + 8, 5, 0⟩
def CLU_VEC_DBG_ADDR_KIND (c : Nat) : Field := ⟨(0x01004010 + c * 0x10000) * 8 + 13, 2, 0⟩
def CLU_VEC_DBG_DATA_DATA (c : Nat) : Field := ⟨(0x01004014 + c * 0x10000) * 8 + 0, 32, 0⟩
def CLU_VEC_IMEM_ADDR_INDEX (c : Nat) : Field := ⟨(0x01004018 + c * 0x10000) * 8 + 0, 11, 0⟩
def CLU_VEC_IMEM_ADDR_AUTOINC (c : Nat) : Field := ⟨(0x01004018 + c * 0x10000) * 8 + 31, 1, 0⟩
def CLU_VEC_IMEM_DATA_INSN (c : Nat) : Field := ⟨(0x01004020 + c * 0x10000) * 8 + 0, 64, 0⟩
def CLU_DESK_STATE_PC (c : Nat) : Field := ⟨(0x01007008 + c * 0x10000) * 8 + 0, 14, 0⟩
def CLU_DESK_STATE_RUN (c : Nat) : Field := ⟨(0x01007008 + c * 0x10000) * 8 + 14, 3, 0⟩
def CLU_DESK_FAULT_CAUSE (c : Nat) : Field := ⟨(0x0100700C + c * 0x10000) * 8 + 0, 4, 0⟩
def CLU_DESK_FAULT_PC (c : Nat) : Field := ⟨(0x0100700C + c * 0x10000) * 8 + 4, 14, 0⟩
def CLU_DESK_FAULT_VALID (c : Nat) : Field := ⟨(0x0100700C + c * 0x10000) * 8 + 31, 1, 0⟩
def CLU_DESK_FWCYC_COUNT (c : Nat) : Field := ⟨(0x01007010 + c * 0x10000) * 8 + 0, 48, 0⟩
def CLU_DESK_FWCYC_OVF (c : Nat) : Field := ⟨(0x01007010 + c * 0x10000) * 8 + 63, 1, 0⟩
def CLU_DESK_MEM_ADDR_ADDR (c : Nat) : Field := ⟨(0x01007020 + c * 0x10000) * 8 + 0, 16, 0⟩
def CLU_DESK_MEM_ADDR_SPACE (c : Nat) : Field := ⟨(0x01007020 + c * 0x10000) * 8 + 16, 1, 0⟩
def CLU_DESK_MEM_ADDR_AUTOINC (c : Nat) : Field := ⟨(0x01007020 + c * 0x10000) * 8 + 31, 1, 0⟩
def CLU_DESK_MEM_DATA_DATA (c : Nat) : Field := ⟨(0x01007024 + c * 0x10000) * 8 + 0, 32, 0⟩
def CLU_DESK_SREG_VALUE (c n : Nat) : Field := ⟨(0x01007100 + c * 0x10000 + n * 0x4) * 8 + 0, 32, 0⟩

/-! Registers of spec/06_arithmetic_conformance.md. -/

def GLB_ARITH_ID_CVS_MAJOR : Field := ⟨(0x00000104) * 8 + 0, 8, 1⟩

/-! Registers of spec/07_training_support.md. -/

def GLB_STEP_NUM_STEP (g : Nat) : Field := ⟨(0x00000200 + g * 0x40) * 8 + 0, 32, 0⟩
def GLB_STEP_STATE_CUR_HALF (g : Nat) : Field := ⟨(0x00000204 + g * 0x40) * 8 + 0, 1, 0⟩
def GLB_STEP_STATE_NEXT_DIRTY (g : Nat) : Field := ⟨(0x00000204 + g * 0x40) * 8 + 1, 1, 0⟩
def GLB_STEP_STATE_HALTED (g : Nat) : Field := ⟨(0x00000204 + g * 0x40) * 8 + 2, 1, 0⟩
def GLB_STEP_STATE_IDLE (g : Nat) : Field := ⟨(0x00000204 + g * 0x40) * 8 + 3, 1, 1⟩
def GLB_STEP_STATE_IN_COMMIT (g : Nat) : Field := ⟨(0x00000204 + g * 0x40) * 8 + 4, 1, 0⟩
def GLB_STEP_STATE_RB_REFUSED (g : Nat) : Field := ⟨(0x00000204 + g * 0x40) * 8 + 5, 1, 0⟩
def GLB_STEP_STATE_ATTEMPT (g : Nat) : Field := ⟨(0x00000204 + g * 0x40) * 8 + 8, 8, 0⟩
def GLB_STEP_STATE_LAST_OUTCOME (g : Nat) : Field := ⟨(0x00000204 + g * 0x40) * 8 + 16, 3, 0⟩
def GLB_STEP_FLAGS_LOCAL (g : Nat) : Field := ⟨(0x00000208 + g * 0x40) * 8 + 0, 4, 0⟩
def GLB_STEP_FLAGS_LAST_COMBINED (g : Nat) : Field := ⟨(0x00000208 + g * 0x40) * 8 + 4, 4, 0⟩
def GLB_STEP_FLAGS_SRC (g : Nat) : Field := ⟨(0x00000208 + g * 0x40) * 8 + 8, 12, 0⟩
def GLB_STEP_FLAGS_LAST_SRC (g : Nat) : Field := ⟨(0x00000208 + g * 0x40) * 8 + 20, 12, 0⟩
def GLB_STEP_POLICY_ON_NAN (g : Nat) : Field := ⟨(0x00000210 + g * 0x40) * 8 + 0, 2, 0⟩
def GLB_STEP_POLICY_ON_OVF (g : Nat) : Field := ⟨(0x00000210 + g * 0x40) * 8 + 2, 2, 0⟩
def GLB_STEP_POLICY_ON_MISMATCH (g : Nat) : Field := ⟨(0x00000210 + g * 0x40) * 8 + 4, 2, 0⟩
def GLB_STEP_POLICY_RERUN_LIMIT (g : Nat) : Field := ⟨(0x00000210 + g * 0x40) * 8 + 8, 4, 0⟩
def GLB_STEP_POLICY_SRC_MASK (g : Nat) : Field := ⟨(0x00000210 + g * 0x40) * 8 + 16, 6, 0⟩
def GLB_STEP_GROUP_COMMIT_MLS (g : Nat) : Field := ⟨(0x00000214 + g * 0x40) * 8 + 0, 16, 0⟩
def GLB_STEP_GROUP_DONE_MLS (g : Nat) : Field := ⟨(0x00000214 + g * 0x40) * 8 + 16, 16, 0⟩
def GLB_STEP_CFG_GROUP (g : Nat) : Field := ⟨(0x00000218 + g * 0x40) * 8 + 0, 10, 0⟩
def GLB_STEP_CFG_ENABLE (g : Nat) : Field := ⟨(0x00000218 + g * 0x40) * 8 + 31, 1, 0⟩
def GLB_STEP_PASSES_COUNT (g : Nat) : Field := ⟨(0x00000220 + g * 0x40) * 8 + 0, 48, 0⟩
def GLB_STEP_PASSES_OVF (g : Nat) : Field := ⟨(0x00000220 + g * 0x40) * 8 + 63, 1, 0⟩
def GLB_STEP_SKIPS_COUNT (g : Nat) : Field := ⟨(0x00000228 + g * 0x40) * 8 + 0, 48, 0⟩
def GLB_STEP_SKIPS_OVF (g : Nat) : Field := ⟨(0x00000228 + g * 0x40) * 8 + 63, 1, 0⟩
def GLB_STEP_RERUNS_COUNT (g : Nat) : Field := ⟨(0x00000230 + g * 0x40) * 8 + 0, 48, 0⟩
def GLB_STEP_RERUNS_OVF (g : Nat) : Field := ⟨(0x00000230 + g * 0x40) * 8 + 63, 1, 0⟩

/-! Registers of spec/08_drawers_and_shelves.md. -/

def CLU_DRW_LEFT_RECORDS (c : Nat) : Field := ⟨(0x0100600C + c * 0x10000) * 8 + 0, 20, 0⟩
def SHF_LEFT_RECORDS (ch : Nat) : Field := ⟨(0x0210000C + ch * 0x1000) * 8 + 0, 20, 0⟩
def CLU_DRW_ECC_CE_COUNT (c : Nat) : Field := ⟨(0x01006010 + c * 0x10000) * 8 + 0, 48, 0⟩
def CLU_DRW_ECC_CE_OVF (c : Nat) : Field := ⟨(0x01006010 + c * 0x10000) * 8 + 63, 1, 0⟩
def CLU_DRW_ECC_UE_COUNT (c : Nat) : Field := ⟨(0x01006018 + c * 0x10000) * 8 + 0, 48, 0⟩
def CLU_DRW_ECC_UE_OVF (c : Nat) : Field := ⟨(0x01006018 + c * 0x10000) * 8 + 63, 1, 0⟩
def SHF_ECC_CE_COUNT (ch : Nat) : Field := ⟨(0x02100010 + ch * 0x1000) * 8 + 0, 48, 0⟩
def SHF_ECC_CE_OVF (ch : Nat) : Field := ⟨(0x02100010 + ch * 0x1000) * 8 + 63, 1, 0⟩
def SHF_ECC_UE_COUNT (ch : Nat) : Field := ⟨(0x02100018 + ch * 0x1000) * 8 + 0, 48, 0⟩
def SHF_ECC_UE_OVF (ch : Nat) : Field := ⟨(0x02100018 + ch * 0x1000) * 8 + 63, 1, 0⟩
def CLU_DRW_ERR_LOG_WORD (c : Nat) : Field := ⟨(0x01006020 + c * 0x10000) * 8 + 0, 21, 0⟩
def CLU_DRW_ERR_LOG_UE (c : Nat) : Field := ⟨(0x01006020 + c * 0x10000) * 8 + 21, 1, 0⟩
def CLU_DRW_ERR_LOG_SCRUB (c : Nat) : Field := ⟨(0x01006020 + c * 0x10000) * 8 + 22, 1, 0⟩
def CLU_DRW_ERR_LOG_VALID (c : Nat) : Field := ⟨(0x01006020 + c * 0x10000) * 8 + 63, 1, 0⟩
def SHF_DIMM_PRESENT (ch : Nat) : Field := ⟨(0x02100008 + ch * 0x1000) * 8 + 0, 1, 0⟩
def SHF_DIMM_TRAINED (ch : Nat) : Field := ⟨(0x02100008 + ch * 0x1000) * 8 + 1, 1, 0⟩
def SHF_DIMM_FAST (ch : Nat) : Field := ⟨(0x02100008 + ch * 0x1000) * 8 + 2, 1, 0⟩
def SHF_DIMM_CAP (ch : Nat) : Field := ⟨(0x02100008 + ch * 0x1000) * 8 + 3, 2, 0⟩
def SHF_ERR_LOG_LINE (ch : Nat) : Field := ⟨(0x02100020 + ch * 0x1000) * 8 + 0, 32, 0⟩
def SHF_ERR_LOG_DEVICE (ch : Nat) : Field := ⟨(0x02100020 + ch * 0x1000) * 8 + 32, 4, 0⟩
def SHF_ERR_LOG_UE (ch : Nat) : Field := ⟨(0x02100020 + ch * 0x1000) * 8 + 36, 1, 0⟩
def SHF_ERR_LOG_SCRUB (ch : Nat) : Field := ⟨(0x02100020 + ch * 0x1000) * 8 + 37, 1, 0⟩
def SHF_ERR_LOG_VALID (ch : Nat) : Field := ⟨(0x02100020 + ch * 0x1000) * 8 + 63, 1, 0⟩
def SHF_GLB_CFG_SPEED : Field := ⟨(0x02110000) * 8 + 0, 1, 0⟩
def SHF_GLB_CFG_SCRUB_HOURS : Field := ⟨(0x02110000) * 8 + 8, 8, 0x18⟩

/-! Registers of spec/09_fabric_cells_routing.md. -/

def LNK_RT_CFG_AX0 : Field := ⟨(0x02040000) * 8 + 0, 2, 0⟩
def LNK_RT_CFG_AX1 : Field := ⟨(0x02040000) * 8 + 2, 2, 1⟩
def LNK_RT_CFG_AX2 : Field := ⟨(0x02040000) * 8 + 4, 2, 2⟩
def LNK_RT_CFG_AX3 : Field := ⟨(0x02040000) * 8 + 6, 2, 3⟩
def LNK_VCPAIR_UP (v : Nat) : Field := ⟨(0x02040004) * 8 + (v * 3), 3, v⟩
def LNK_RT_COUNTER_COUNT (i : Nat) : Field := ⟨(0x02040040 + i * 0x8) * 8 + 0, 48, 0⟩
def LNK_RT_COUNTER_OVF (i : Nat) : Field := ⟨(0x02040040 + i * 0x8) * 8 + 63, 1, 0⟩
def LNK_DROP_LOG_DEST : Field := ⟨(0x02040100) * 8 + 0, 24, 0⟩
def LNK_DROP_LOG_ENDPT : Field := ⟨(0x02040100) * 8 + 24, 9, 0⟩
def LNK_DROP_LOG_KIND : Field := ⟨(0x02040100) * 8 + 33, 5, 0⟩
def LNK_DROP_LOG_REASON : Field := ⟨(0x02040100) * 8 + 38, 4, 0⟩
def LNK_DROP_LOG_TRANSIT : Field := ⟨(0x02040100) * 8 + 42, 1, 0⟩
def LNK_DROP_LOG_VALID : Field := ⟨(0x02040100) * 8 + 63, 1, 0⟩
def LNK_ROUTE_W_PORT0 (d : Nat) : Field := ⟨(0x02050000 + d * 0x4) * 8 + 0, 4, 0⟩
def LNK_ROUTE_W_DL0 (d : Nat) : Field := ⟨(0x02050000 + d * 0x4) * 8 + 4, 1, 0⟩
def LNK_ROUTE_W_EN0 (d : Nat) : Field := ⟨(0x02050000 + d * 0x4) * 8 + 5, 1, 0⟩
def LNK_ROUTE_W_ALT1 (d : Nat) : Field := ⟨(0x02050000 + d * 0x4) * 8 + 6, 6, 0⟩
def LNK_ROUTE_W_ALT2 (d : Nat) : Field := ⟨(0x02050000 + d * 0x4) * 8 + 12, 6, 0⟩
def LNK_ROUTE_W_ALT3 (d : Nat) : Field := ⟨(0x02050000 + d * 0x4) * 8 + 18, 6, 0⟩
def LNK_ROUTE_W_VALID (d : Nat) : Field := ⟨(0x02050000 + d * 0x4) * 8 + 31, 1, 0⟩
def LNK_ROUTE_X_PORT0 (d : Nat) : Field := ⟨(0x02050040 + d * 0x4) * 8 + 0, 4, 0⟩
def LNK_ROUTE_X_DL0 (d : Nat) : Field := ⟨(0x02050040 + d * 0x4) * 8 + 4, 1, 0⟩
def LNK_ROUTE_X_EN0 (d : Nat) : Field := ⟨(0x02050040 + d * 0x4) * 8 + 5, 1, 0⟩
def LNK_ROUTE_X_ALT1 (d : Nat) : Field := ⟨(0x02050040 + d * 0x4) * 8 + 6, 6, 0⟩
def LNK_ROUTE_X_ALT2 (d : Nat) : Field := ⟨(0x02050040 + d * 0x4) * 8 + 12, 6, 0⟩
def LNK_ROUTE_X_ALT3 (d : Nat) : Field := ⟨(0x02050040 + d * 0x4) * 8 + 18, 6, 0⟩
def LNK_ROUTE_X_VALID (d : Nat) : Field := ⟨(0x02050040 + d * 0x4) * 8 + 31, 1, 0⟩
def LNK_ROUTE_Y_PORT0 (d : Nat) : Field := ⟨(0x02050400 + d * 0x4) * 8 + 0, 4, 0⟩
def LNK_ROUTE_Y_DL0 (d : Nat) : Field := ⟨(0x02050400 + d * 0x4) * 8 + 4, 1, 0⟩
def LNK_ROUTE_Y_EN0 (d : Nat) : Field := ⟨(0x02050400 + d * 0x4) * 8 + 5, 1, 0⟩
def LNK_ROUTE_Y_ALT1 (d : Nat) : Field := ⟨(0x02050400 + d * 0x4) * 8 + 6, 6, 0⟩
def LNK_ROUTE_Y_ALT2 (d : Nat) : Field := ⟨(0x02050400 + d * 0x4) * 8 + 12, 6, 0⟩
def LNK_ROUTE_Y_ALT3 (d : Nat) : Field := ⟨(0x02050400 + d * 0x4) * 8 + 18, 6, 0⟩
def LNK_ROUTE_Y_VALID (d : Nat) : Field := ⟨(0x02050400 + d * 0x4) * 8 + 31, 1, 0⟩
def LNK_ROUTE_Z_PORT0 (d : Nat) : Field := ⟨(0x02050800 + d * 0x4) * 8 + 0, 4, 0⟩
def LNK_ROUTE_Z_DL0 (d : Nat) : Field := ⟨(0x02050800 + d * 0x4) * 8 + 4, 1, 0⟩
def LNK_ROUTE_Z_EN0 (d : Nat) : Field := ⟨(0x02050800 + d * 0x4) * 8 + 5, 1, 0⟩
def LNK_ROUTE_Z_ALT1 (d : Nat) : Field := ⟨(0x02050800 + d * 0x4) * 8 + 6, 6, 0⟩
def LNK_ROUTE_Z_ALT2 (d : Nat) : Field := ⟨(0x02050800 + d * 0x4) * 8 + 12, 6, 0⟩
def LNK_ROUTE_Z_ALT3 (d : Nat) : Field := ⟨(0x02050800 + d * 0x4) * 8 + 18, 6, 0⟩
def LNK_ROUTE_Z_VALID (d : Nat) : Field := ⟨(0x02050800 + d * 0x4) * 8 + 31, 1, 0⟩
def LNK_FENCE_CHIP (i : Nat) : Field := ⟨(0x02050C00 + i * 0x4) * 8 + 0, 24, 0⟩
def LNK_FENCE_VALID (i : Nat) : Field := ⟨(0x02050C00 + i * 0x4) * 8 + 31, 1, 0⟩
def LNK_FENCE_STATUS_USED : Field := ⟨(0x02050D00) * 8 + 0, 7, 0⟩
def LNK_FENCE_STATUS_FULL : Field := ⟨(0x02050D00) * 8 + 7, 1, 0⟩
def LNK_MCAST_PORTS (g : Nat) : Field := ⟨(0x02060000 + g * 0x8) * 8 + 0, 16, 0⟩
def LNK_MCAST_FENCED (g : Nat) : Field := ⟨(0x02060000 + g * 0x8) * 8 + 16, 16, 0⟩
def LNK_MCAST_DLMASK (g : Nat) : Field := ⟨(0x02060000 + g * 0x8) * 8 + 32, 16, 0⟩
def LNK_MCAST_LOCAL (g : Nat) : Field := ⟨(0x02060000 + g * 0x8) * 8 + 48, 1, 0⟩
def LNK_MCAST_VALID (g : Nat) : Field := ⟨(0x02060000 + g * 0x8) * 8 + 63, 1, 0⟩

/-! Registers of spec/10_dolte_links_topology.md. -/

def LNK_STATE_STATE (l : Nat) : Field := ⟨(0x02000008 + l * 0x1000) * 8 + 0, 3, 0⟩
def LNK_STATE_CAUSE (l : Nat) : Field := ⟨(0x02000008 + l * 0x1000) * 8 + 4, 4, 0⟩
def LNK_STATE_MINOR (l : Nat) : Field := ⟨(0x02000008 + l * 0x1000) * 8 + 8, 4, 0⟩
def LNK_STATE_LIT (l : Nat) : Field := ⟨(0x02000008 + l * 0x1000) * 8 + 12, 8, 0⟩
def LNK_STATE_DOWN_REASON (l : Nat) : Field := ⟨(0x02000008 + l * 0x1000) * 8 + 20, 4, 0⟩
def LNK_STATE_PLAN_DIFF (l : Nat) : Field := ⟨(0x02000008 + l * 0x1000) * 8 + 24, 1, 0⟩
def LNK_CTRL_DARK (l : Nat) : Field := ⟨(0x0200000C + l * 0x1000) * 8 + 0, 1, 0⟩
def LNK_ROLE_ROLE (l : Nat) : Field := ⟨(0x02000010 + l * 0x1000) * 8 + 0, 4, defaultRole l⟩
def LNK_ROLE_PORT (l : Nat) : Field := ⟨(0x02000010 + l * 0x1000) * 8 + 4, 4, 0⟩
def LNK_ROLE_IN_PORT (l : Nat) : Field := ⟨(0x02000010 + l * 0x1000) * 8 + 8, 1, 0⟩
def LNK_ROLE_EXP_LINK (l : Nat) : Field := ⟨(0x02000010 + l * 0x1000) * 8 + 9, 6, 0⟩
def LNK_ROLE_EXP_VALID (l : Nat) : Field := ⟨(0x02000010 + l * 0x1000) * 8 + 15, 1, 0⟩
def LNK_RTT_NS (l : Nat) : Field := ⟨(0x02000014 + l * 0x1000) * 8 + 0, 16, 0⟩
def LNK_RTT_VALID (l : Nat) : Field := ⟨(0x02000014 + l * 0x1000) * 8 + 31, 1, 0⟩
def LNK_EXP_SERIAL_SERIAL (l : Nat) : Field := ⟨(0x02000018 + l * 0x1000) * 8 + 0, 64, 0⟩
def LNK_PEER_SERIAL_SERIAL (l : Nat) : Field := ⟨(0x02000020 + l * 0x1000) * 8 + 0, 64, 0⟩
def LNK_PEER_INFO_LINK (l : Nat) : Field := ⟨(0x02000028 + l * 0x1000) * 8 + 0, 6, 0⟩
def LNK_PEER_INFO_ROLE (l : Nat) : Field := ⟨(0x02000028 + l * 0x1000) * 8 + 6, 4, 0⟩
def LNK_PEER_INFO_PROTO (l : Nat) : Field := ⟨(0x02000028 + l * 0x1000) * 8 + 10, 8, 0⟩
def LNK_PEER_INFO_FW (l : Nat) : Field := ⟨(0x02000028 + l * 0x1000) * 8 + 18, 16, 0⟩
def LNK_PEER_INFO_CLAIM (l : Nat) : Field := ⟨(0x02000028 + l * 0x1000) * 8 + 34, 24, 0⟩
def LNK_PEER_INFO_VALID (l : Nat) : Field := ⟨(0x02000028 + l * 0x1000) * 8 + 63, 1, 0⟩
def LNK_COUNTER_COUNT (l i : Nat) : Field := ⟨(0x02000040 + l * 0x1000 + i * 0x8) * 8 + 0, 48, 0⟩
def LNK_COUNTER_OVF (l i : Nat) : Field := ⟨(0x02000040 + l * 0x1000 + i * 0x8) * 8 + 63, 1, 0⟩
def LNK_PORT_MEMBERS_MEMBERS (p : Nat) : Field := ⟨(0x02030000 + p * 0x10) * 8 + 0, 36, 0⟩
def LNK_PORT_CFG_ROLE (p : Nat) : Field := ⟨(0x02030008 + p * 0x10) * 8 + 0, 4, 0⟩
def LNK_PORT_CFG_UP (p : Nat) : Field := ⟨(0x02030008 + p * 0x10) * 8 + 8, 6, 0⟩
def LNK_PORT_CFG_VALID (p : Nat) : Field := ⟨(0x02030008 + p * 0x10) * 8 + 31, 1, 0⟩
def LNK_SERIAL_SERIAL : Field := ⟨(0x02031000) * 8 + 0, 64, 0⟩
def LNK_DISC_ORIGIN_SERIAL : Field := ⟨(0x02031010) * 8 + 0, 64, 0⟩
def LNK_DISC_COORD : Field := ⟨(0x02031008) * 8 + 0, 24, 0⟩
def LNK_DISC_STABLE : Field := ⟨(0x02031008) * 8 + 24, 1, 0⟩
def LNK_DISC_PRIO : Field := ⟨(0x02031008) * 8 + 25, 3, 0⟩
def LNK_DISC_DIFF : Field := ⟨(0x02031008) * 8 + 28, 1, 0⟩
def LNK_DISC_HOPS : Field := ⟨(0x02031008) * 8 + 32, 10, 0⟩
def LNK_COORD_ACTIVE : Field := ⟨(0x02031018) * 8 + 0, 24, 0⟩
def LNK_COORD_VALID : Field := ⟨(0x02031018) * 8 + 31, 1, 0⟩
def LNK_DISC_CFG_SETTLE_MS : Field := ⟨(0x0203101C) * 8 + 0, 8, 0x32⟩
def LNK_DISC_CFG_OPEN_X : Field := ⟨(0x0203101C) * 8 + 8, 1, 0⟩
def LNK_DISC_CFG_OPEN_Y : Field := ⟨(0x0203101C) * 8 + 9, 1, 0⟩
def LNK_DISC_CFG_OPEN_Z : Field := ⟨(0x0203101C) * 8 + 10, 1, 0⟩

/-! Registers of spec/11_collectives.md. -/

def VSY_GROUP_VALID (g : Nat) : Field := ⟨(0x02260000 + g * 0x40) * 8 + 0, 1, 0⟩
def VSY_GROUP_GRAPH (g : Nat) : Field := ⟨(0x02260000 + g * 0x40) * 8 + 1, 3, 0⟩
def VSY_GROUP_DETOUR_EN (g : Nat) : Field := ⟨(0x02260000 + g * 0x40) * 8 + 4, 1, 0⟩
def VSY_GROUP_DETOURED (g : Nat) : Field := ⟨(0x02260000 + g * 0x40) * 8 + 5, 1, 0⟩
def VSY_GROUP_NO_COVER (g : Nat) : Field := ⟨(0x02260000 + g * 0x40) * 8 + 6, 1, 0⟩
def VSY_GROUP_ANN_VALID (g : Nat) : Field := ⟨(0x02260000 + g * 0x40) * 8 + 7, 1, 0⟩
def VSY_GROUP_ANNOUNCE (g : Nat) : Field := ⟨(0x02260000 + g * 0x40) * 8 + 8, 12, 0⟩
def VSY_GROUP_CTL_VC (g : Nat) : Field := ⟨(0x02260000 + g * 0x40) * 8 + 20, 3, 0⟩
def VSY_GROUP_LEVELS (g : Nat) : Field := ⟨(0x02260000 + g * 0x40) * 8 + 23, 2, 0⟩
def VSY_GROUP_EPOCH (g : Nat) : Field := ⟨(0x02260000 + g * 0x40) * 8 + 32, 16, 0⟩
def VSY_GROUP_WITHDRAWN (g : Nat) : Field := ⟨(0x02260000 + g * 0x40) * 8 + 48, 16, 0⟩
def VSY_GROUP_DETOUR_NORM (g : Nat) : Field := ⟨(0x02260000 + g * 0x40) * 8 + 64, 32, 0⟩
def VSY_GROUP_AXIS (g lv : Nat) : Field := ⟨(0x02260000 + g * 0x40) * 8 + (128 + lv * 32), 2, 0⟩
def VSY_GROUP_DLVL (g lv : Nat) : Field := ⟨(0x02260000 + g * 0x40) * 8 + (130 + lv * 32), 1, 0⟩
def VSY_GROUP_BASE (g lv : Nat) : Field := ⟨(0x02260000 + g * 0x40) * 8 + (132 + lv * 32), 8, 0⟩
def VSY_GROUP_SIZE (g lv : Nat) : Field := ⟨(0x02260000 + g * 0x40) * 8 + (140 + lv * 32), 8, 0⟩
def VSY_GROUP_DIGIT (g lv : Nat) : Field := ⟨(0x02260000 + g * 0x40) * 8 + (148 + lv * 32), 8, 0⟩
def VSY_DESC_VALID (t : Nat) : Field := ⟨(0x02280000 + t * 0x40) * 8 + 0, 1, 0⟩
def VSY_DESC_OP (t : Nat) : Field := ⟨(0x02280000 + t * 0x40) * 8 + 1, 3, 0⟩
def VSY_DESC_ET (t : Nat) : Field := ⟨(0x02280000 + t * 0x40) * 8 + 4, 3, 0⟩
def VSY_DESC_RED (t : Nat) : Field := ⟨(0x02280000 + t * 0x40) * 8 + 7, 2, 0⟩
def VSY_DESC_ROUND (t : Nat) : Field := ⟨(0x02280000 + t * 0x40) * 8 + 9, 1, 0⟩
def VSY_DESC_VC (t : Nat) : Field := ⟨(0x02280000 + t * 0x40) * 8 + 10, 3, 0⟩
def VSY_DESC_GROUP (t : Nat) : Field := ⟨(0x02280000 + t * 0x40) * 8 + 13, 10, 0⟩
def VSY_DESC_CHUNK_LOG2 (t : Nat) : Field := ⟨(0x02280000 + t * 0x40) * 8 + 23, 5, 0⟩
def VSY_DESC_VUSYN (t : Nat) : Field := ⟨(0x02280000 + t * 0x40) * 8 + 28, 2, 0⟩
def VSY_DESC_COUNT (t : Nat) : Field := ⟨(0x02280000 + t * 0x40) * 8 + 32, 32, 0⟩
def VSY_DESC_SLOTS (t : Nat) : Field := ⟨(0x02280000 + t * 0x40) * 8 + 64, 8, 0⟩
def VSY_DESC_ROOT (t : Nat) : Field := ⟨(0x02280000 + t * 0x40) * 8 + 72, 24, 0⟩
def VSY_DESC_MLS_DONE (t : Nat) : Field := ⟨(0x02280000 + t * 0x40) * 8 + 96, 16, 0⟩
def VSY_DESC_OUT_COLS (t : Nat) : Field := ⟨(0x02280000 + t * 0x40) * 8 + 112, 16, 0⟩
def VSY_DESC_WORK (t : Nat) : Field := ⟨(0x02280000 + t * 0x40) * 8 + 128, 12, 0⟩
def VSY_DESC_SIG (t : Nat) : Field := ⟨(0x02280000 + t * 0x40) * 8 + 160, 32, 0⟩
def VSY_DESC_INST (t : Nat) : Field := ⟨(0x02280000 + t * 0x40) * 8 + 192, 32, 0⟩
def VSY_DESC_STATE (t : Nat) : Field := ⟨(0x02280000 + t * 0x40) * 8 + 224, 2, 0⟩
def GLB_MODE_ROLE : Field := ⟨(0x00000010) * 8 + 0, 2, 0⟩
def GLB_STEP_CSEQ_CSEQ (g : Nat) : Field := ⟨(0x00000238 + g * 0x40) * 8 + 0, 32, 0⟩
def VSY_COLL_CFG_FAIL_HOLD_MS : Field := ⟨(0x02240000) * 8 + 0, 8, 0x14⟩
def VSY_COLL_CFG_COLL_WD : Field := ⟨(0x02240000) * 8 + 8, 16, 0x980⟩
def VSY_COLL_CFG_COMMIT_WD : Field := ⟨(0x02240000) * 8 + 24, 8, 0x98⟩
def VSY_FAIL_LOG_CHIP (i : Nat) : Field := ⟨(0x02240010 + i * 0x8) * 8 + 0, 24, 0⟩
def VSY_FAIL_LOG_SOURCE (i : Nat) : Field := ⟨(0x02240010 + i * 0x8) * 8 + 24, 2, 0⟩
def VSY_FAIL_LOG_SWITCHED (i : Nat) : Field := ⟨(0x02240010 + i * 0x8) * 8 + 26, 1, 0⟩
def VSY_FAIL_LOG_WITHDREW (i : Nat) : Field := ⟨(0x02240010 + i * 0x8) * 8 + 27, 1, 0⟩
def VSY_FAIL_LOG_VALID (i : Nat) : Field := ⟨(0x02240010 + i * 0x8) * 8 + 63, 1, 0⟩
def VSY_CNT_COUNT (i : Nat) : Field := ⟨(0x02240040 + i * 0x8) * 8 + 0, 48, 0⟩
def VSY_CNT_OVF (i : Nat) : Field := ⟨(0x02240040 + i * 0x8) * 8 + 63, 1, 0⟩
def VSY_ABORT_LOG_TAG : Field := ⟨(0x02240080) * 8 + 0, 12, 0⟩
def VSY_ABORT_LOG_REASON : Field := ⟨(0x02240080) * 8 + 12, 2, 0⟩
def VSY_ABORT_LOG_RANK : Field := ⟨(0x02240080) * 8 + 16, 24, 0⟩
def VSY_ABORT_LOG_EPOCH : Field := ⟨(0x02240080) * 8 + 40, 16, 0⟩
def VSY_ABORT_LOG_VALID : Field := ⟨(0x02240080) * 8 + 63, 1, 0⟩
def VSY_LAG_CFG_GROUP : Field := ⟨(0x02240100) * 8 + 0, 10, 0⟩
def VSY_LAG_CFG_EN : Field := ⟨(0x02240100) * 8 + 10, 1, 0⟩
def VSY_LAG_CFG_BASE_K : Field := ⟨(0x02240100) * 8 + 11, 14, 0⟩
def VSY_LAGGARD_RANK : Field := ⟨(0x02240108) * 8 + 0, 24, 0⟩
def VSY_LAGGARD_CHIP : Field := ⟨(0x02240108) * 8 + 24, 24, 0⟩
def VSY_LAGGARD_VALID : Field := ⟨(0x02240108) * 8 + 63, 1, 0⟩
def VSY_LAG_LAST_COUNT (i : Nat) : Field := ⟨(0x02270000 + i * 0x10) * 8 + 0, 48, 0⟩
def VSY_LAG_LAST_OVF (i : Nat) : Field := ⟨(0x02270000 + i * 0x10) * 8 + 63, 1, 0⟩
def VSY_LAG_SUM_COUNT (i : Nat) : Field := ⟨(0x02270008 + i * 0x10) * 8 + 0, 48, 0⟩
def VSY_LAG_SUM_OVF (i : Nat) : Field := ⟨(0x02270008 + i * 0x10) * 8 + 63, 1, 0⟩

/-! Registers of spec/12_vusyn_gradient_path.md. -/

def VSY_BUCKET_THIN (t : Nat) : Field := ⟨(0x022C0000 + t * 0x20) * 8 + 0, 4, 0⟩
def VSY_BUCKET_ALL (t : Nat) : Field := ⟨(0x022C0000 + t * 0x20) * 8 + 4, 1, 0⟩
def VSY_BUCKET_CHECK_EN (t : Nat) : Field := ⟨(0x022C0000 + t * 0x20) * 8 + 5, 1, 0⟩
def VSY_BUCKET_MIRROR_EN (t : Nat) : Field := ⟨(0x022C0000 + t * 0x20) * 8 + 6, 1, 0⟩
def VSY_BUCKET_ERR (t : Nat) : Field := ⟨(0x022C0000 + t * 0x20) * 8 + 8, 12, 0⟩
def VSY_BUCKET_PREGION (t : Nat) : Field := ⟨(0x022C0000 + t * 0x20) * 8 + 20, 12, 0⟩
def VSY_BUCKET_MREGION (t : Nat) : Field := ⟨(0x022C0000 + t * 0x20) * 8 + 32, 12, 0⟩
def VSY_BUCKET_PUB_MC (t : Nat) : Field := ⟨(0x022C0000 + t * 0x20) * 8 + 44, 12, 0⟩
def VSY_BUCKET_SCALE (t : Nat) : Field := ⟨(0x022C0000 + t * 0x20) * 8 + 64, 32, 0⟩
def VSY_BUCKET_MLS_FIN (t : Nat) : Field := ⟨(0x022C0000 + t * 0x20) * 8 + 96, 16, 0⟩
def VSY_BKT_STAT_NAN (t : Nat) : Field := ⟨(0x022E0000 + t * 0x4) * 8 + 0, 1, 0⟩
def VSY_BKT_STAT_MISMATCH (t : Nat) : Field := ⟨(0x022E0000 + t * 0x4) * 8 + 1, 1, 0⟩
def VSY_BKT_STAT_PLAYING (t : Nat) : Field := ⟨(0x022E0000 + t * 0x4) * 8 + 2, 1, 0⟩
def VSY_BKT_STAT_SAMPLES (t : Nat) : Field := ⟨(0x022E0000 + t * 0x4) * 8 + 16, 16, 0⟩
def VSY_GRAD_CFG_SAMPLE_L : Field := ⟨(0x02250000) * 8 + 0, 5, 0xC⟩
def VSY_GRAD_CNT_COUNT (i : Nat) : Field := ⟨(0x02250040 + i * 0x8) * 8 + 0, 48, 0⟩
def VSY_GRAD_CNT_OVF (i : Nat) : Field := ⟨(0x02250040 + i * 0x8) * 8 + 63, 1, 0⟩
def VSY_CHK_LOG_INDEX : Field := ⟨(0x02250080) * 8 + 0, 32, 0⟩
def VSY_CHK_LOG_TAG : Field := ⟨(0x02250080) * 8 + 32, 12, 0⟩
def VSY_CHK_LOG_GRAPH : Field := ⟨(0x02250080) * 8 + 44, 3, 0⟩
def VSY_CHK_LOG_VALID : Field := ⟨(0x02250080) * 8 + 63, 1, 0⟩
def VSY_CHK_VAL_MAIN : Field := ⟨(0x02250088) * 8 + 0, 32, 0⟩
def VSY_CHK_VAL_EXACT : Field := ⟨(0x02250088) * 8 + 32, 32, 0⟩
def VSY_FIRST_NAN_INDEX (g : Nat) : Field := ⟨(0x02250100 + g * 0x8) * 8 + 0, 32, 0⟩
def VSY_FIRST_NAN_TAG (g : Nat) : Field := ⟨(0x02250100 + g * 0x8) * 8 + 32, 12, 0⟩
def VSY_FIRST_NAN_VALID (g : Nat) : Field := ⟨(0x02250100 + g * 0x8) * 8 + 63, 1, 0⟩

/-! Registers of spec/13_plans_tollgate_budgets.md. -/

def GLB_PLAN_ADDR_ADDR : Field := ⟨(0x00000040) * 8 + 6, 42, 0⟩
def GLB_PLAN_CTRL_AUTO_QUIESCE : Field := ⟨(0x00000048) * 8 + 2, 1, 1⟩
def GLB_PLAN_CTRL_IRQ_EN : Field := ⟨(0x00000048) * 8 + 3, 1, 0⟩
def GLB_PLAN_CTRL_IRQ_VEC : Field := ⟨(0x00000048) * 8 + 8, 8, 0⟩
def GLB_PLAN_STATUS_LOAD_STATE : Field := ⟨(0x0000004C) * 8 + 0, 2, 0⟩
def GLB_PLAN_STATUS_ACTIVE : Field := ⟨(0x0000004C) * 8 + 2, 1, 0⟩
def GLB_PLAN_STATUS_DONE : Field := ⟨(0x0000004C) * 8 + 3, 1, 0⟩
def GLB_PLAN_STATUS_BUSY_REJECT : Field := ⟨(0x0000004C) * 8 + 4, 1, 0⟩
def GLB_PLAN_STATUS_RESULT : Field := ⟨(0x0000004C) * 8 + 8, 2, 0⟩
def GLB_PLAN_STATUS_ACT_SEQ : Field := ⟨(0x0000004C) * 8 + 16, 16, 0⟩
def GLB_PLAN_FAULT_ITEM : Field := ⟨(0x00000050) * 8 + 0, 32, 0⟩
def GLB_PLAN_FAULT_SECTION : Field := ⟨(0x00000050) * 8 + 32, 8, 0⟩
def GLB_PLAN_FAULT_CODE : Field := ⟨(0x00000050) * 8 + 40, 8, 0⟩
def GLB_PLAN_HASH_HASH (k : Nat) : Field := ⟨(0x00000060 + k * 0x4) * 8 + 0, 32, 0⟩
def GLB_SET_BENCH (s g : Nat) : Field := ⟨(0x00001000 + s * 0x280 + g * 0x50) * 8 + 0, 16, 0⟩
def GLB_SET_VECTOR (s g : Nat) : Field := ⟨(0x00001000 + s * 0x280 + g * 0x50) * 8 + 16, 16, 0⟩
def GLB_SET_DRAWER (s g : Nat) : Field := ⟨(0x00001000 + s * 0x280 + g * 0x50) * 8 + 32, 16, 0⟩
def GLB_SET_SHELF (s g : Nat) : Field := ⟨(0x00001000 + s * 0x280 + g * 0x50) * 8 + 48, 16, 0⟩
def GLB_SET_HOST_OUT (s g : Nat) : Field := ⟨(0x00001000 + s * 0x280 + g * 0x50) * 8 + 64, 16, 0⟩
def GLB_SET_HOST_IN (s g : Nat) : Field := ⟨(0x00001000 + s * 0x280 + g * 0x50) * 8 + 80, 16, 0⟩
def GLB_SET_CHEST (s g : Nat) : Field := ⟨(0x00001000 + s * 0x280 + g * 0x50) * 8 + 96, 16, 0⟩
def GLB_SET_SEND (s g p : Nat) : Field := ⟨(0x00001000 + s * 0x280 + g * 0x50) * 8 + (128 + p * 16), 16, 0⟩
def GLB_SET_RECV (s g p : Nat) : Field := ⟨(0x00001000 + s * 0x280 + g * 0x50) * 8 + (384 + p * 16), 16, 0⟩
def GLB_BUDGET_SET_SEL : Field := ⟨(0x00000020) * 8 + 0, 2, 0⟩
def GLB_BUDGET_SET_CUR : Field := ⟨(0x00000020) * 8 + 4, 2, 0⟩
def GLB_BUDGET_SET_PENDING : Field := ⟨(0x00000020) * 8 + 8, 1, 0⟩
def GLB_BUDGET_SET_DONE : Field := ⟨(0x00000020) * 8 + 12, 1, 0⟩
def GLB_BUDGET_SET_CHANGE_SEQ : Field := ⟨(0x00000020) * 8 + 16, 16, 0⟩

/-! Registers of spec/14_host_interface.md. -/

def HST_CMD_BASE_ADDR (n : Nat) : Field := ⟨(0x00100000 + n * 0x40) * 8 + 6, 58, 0⟩
def HST_CPL_BASE_ADDR (n : Nat) : Field := ⟨(0x00101000 + n * 0x40) * 8 + 6, 58, 0⟩
def HST_TQ_BASE_ADDR (q : Nat) : Field := ⟨(0x00102000 + q * 0x40) * 8 + 6, 58, 0⟩
def HST_TQ_SHADOW_ADDR (q : Nat) : Field := ⟨(0x00102020 + q * 0x40) * 8 + 2, 62, 0⟩
def HST_CMD_CFG_SIZE_LOG2 (n : Nat) : Field := ⟨(0x00100008 + n * 0x40) * 8 + 0, 5, 4⟩
def HST_CMD_CFG_CPL_RING (n : Nat) : Field := ⟨(0x00100008 + n * 0x40) * 8 + 8, 6, 0⟩
def HST_CMD_PTR_TAIL (n : Nat) : Field := ⟨(0x0010000C + n * 0x40) * 8 + 0, 16, 0⟩
def HST_CMD_PTR_HEAD (n : Nat) : Field := ⟨(0x0010000C + n * 0x40) * 8 + 16, 16, 0⟩
def HST_CMD_SEQ_ACCEPTED_SEQ (n : Nat) : Field := ⟨(0x00100010 + n * 0x40) * 8 + 0, 32, 0xFFFFFFFF⟩
def HST_CMD_SEQ_NEXT_SEQ (n : Nat) : Field := ⟨(0x00100014 + n * 0x40) * 8 + 0, 32, 0⟩
def HST_CMD_CTRL_RUN (n : Nat) : Field := ⟨(0x00100018 + n * 0x40) * 8 + 0, 1, 0⟩
def HST_CMD_STATUS_STOPPED (n : Nat) : Field := ⟨(0x0010001C + n * 0x40) * 8 + 0, 1, 1⟩
def HST_CMD_STATUS_SEQ_ERR (n : Nat) : Field := ⟨(0x0010001C + n * 0x40) * 8 + 1, 1, 0⟩
def HST_CMD_STATUS_FETCH_ERR (n : Nat) : Field := ⟨(0x0010001C + n * 0x40) * 8 + 2, 1, 0⟩
def HST_CMD_STATUS_INFLIGHT (n : Nat) : Field := ⟨(0x0010001C + n * 0x40) * 8 + 8, 7, 0⟩
def HST_CPL_CFG_SIZE_LOG2 (n : Nat) : Field := ⟨(0x00101008 + n * 0x40) * 8 + 0, 5, 4⟩
def HST_CPL_CFG_IRQ_EN (n : Nat) : Field := ⟨(0x00101008 + n * 0x40) * 8 + 5, 1, 0⟩
def HST_CPL_CFG_VEC (n : Nat) : Field := ⟨(0x00101008 + n * 0x40) * 8 + 8, 8, 0⟩
def HST_CPL_CFG_COAL_COUNT (n : Nat) : Field := ⟨(0x00101008 + n * 0x40) * 8 + 16, 8, 1⟩
def HST_CPL_CFG_COAL_US (n : Nat) : Field := ⟨(0x00101008 + n * 0x40) * 8 + 24, 8, 0⟩
def HST_CPL_PTR_HEAD (n : Nat) : Field := ⟨(0x0010100C + n * 0x40) * 8 + 0, 16, 0⟩
def HST_CPL_PTR_TAIL (n : Nat) : Field := ⟨(0x0010100C + n * 0x40) * 8 + 16, 16, 0⟩
def HST_CPL_SEQ_POSTED_SEQ (n : Nat) : Field := ⟨(0x00101010 + n * 0x40) * 8 + 0, 32, 0xFFFFFFFF⟩
def HST_CPL_SEQ_NEXT_SEQ (n : Nat) : Field := ⟨(0x00101014 + n * 0x40) * 8 + 0, 32, 0⟩
def HST_TQ_CFG_SLOTS_LOG2 (q : Nat) : Field := ⟨(0x00102008 + q * 0x40) * 8 + 0, 5, 0⟩
def HST_TQ_CFG_DIR (q : Nat) : Field := ⟨(0x00102008 + q * 0x40) * 8 + 5, 1, 0⟩
def HST_TQ_CFG_CHK_EN (q : Nat) : Field := ⟨(0x00102008 + q * 0x40) * 8 + 6, 1, 0⟩
def HST_TQ_CFG_IRQ_EN (q : Nat) : Field := ⟨(0x00102008 + q * 0x40) * 8 + 7, 1, 0⟩
def HST_TQ_CFG_CHK (q : Nat) : Field := ⟨(0x00102008 + q * 0x40) * 8 + 8, 4, 0⟩
def HST_TQ_CFG_VEC (q : Nat) : Field := ⟨(0x00102008 + q * 0x40) * 8 + 16, 8, 0⟩
def HST_TQ_SLOT_SLOT_UNITS (q : Nat) : Field := ⟨(0x0010200C + q * 0x40) * 8 + 0, 10, 0x201⟩
def HST_TQ_PTR_HOST_IDX (q : Nat) : Field := ⟨(0x00102010 + q * 0x40) * 8 + 0, 16, 0⟩
def HST_TQ_PTR_DEV_IDX (q : Nat) : Field := ⟨(0x00102010 + q * 0x40) * 8 + 16, 16, 0⟩
def HST_TQ_ALIVE_ALIVE (q : Nat) : Field := ⟨(0x00102014 + q * 0x40) * 8 + 0, 32, 0⟩
def HST_TQ_STATUS_FAULT (q : Nat) : Field := ⟨(0x00102018 + q * 0x40) * 8 + 0, 1, 0⟩
def HST_TQ_STATUS_CAUSE (q : Nat) : Field := ⟨(0x00102018 + q * 0x40) * 8 + 1, 2, 0⟩
def HST_TQ_STATUS_SKIP (q : Nat) : Field := ⟨(0x00102018 + q * 0x40) * 8 + 3, 1, 0⟩
def HST_TQ_STATUS_WR_REJECT (q : Nat) : Field := ⟨(0x00102018 + q * 0x40) * 8 + 4, 1, 0⟩
def HST_TQ_REPEATS_COUNT (q : Nat) : Field := ⟨(0x00102028 + q * 0x40) * 8 + 0, 48, 0⟩
def HST_TQ_REPEATS_OVF (q : Nat) : Field := ⟨(0x00102028 + q * 0x40) * 8 + 63, 1, 0⟩
def HST_BAR4_WIN_WIN : Field := ⟨(0x00103000) * 8 + 0, 12, 0⟩
def HST_LINK_RATE : Field := ⟨(0x00103004) * 8 + 0, 3, 0⟩
def HST_LINK_WIDTH : Field := ⟨(0x00103004) * 8 + 3, 5, 0⟩
def HST_LINK_FLIT : Field := ⟨(0x00103004) * 8 + 8, 1, 0⟩
def HST_RESET_CFG_PRESERVE : Field := ⟨(0x00103008) * 8 + 0, 1, 0⟩

/-! Registers of spec/15_security_startup.md. -/

def GLB_BOOT_STATUS_STAGE : Field := ⟨(0x00000030) * 8 + 0, 4, 1⟩
def GLB_BOOT_STATUS_FAIL : Field := ⟨(0x00000030) * 8 + 4, 1, 0⟩
def GLB_BOOT_STATUS_RECOVERY : Field := ⟨(0x00000030) * 8 + 5, 1, 0⟩
def GLB_BOOT_STATUS_BOOT_OK : Field := ⟨(0x00000030) * 8 + 6, 1, 0⟩
def SEC_STATE_BOOT_SLOT : Field := ⟨(0x02700000) * 8 + 0, 1, 0⟩
def SEC_STATE_OTHER_VALID : Field := ⟨(0x02700000) * 8 + 1, 1, 0⟩
def SEC_STATE_PREF_SLOT : Field := ⟨(0x02700000) * 8 + 2, 1, 0⟩
def SEC_STATE_FELL_BACK : Field := ⟨(0x02700000) * 8 + 3, 1, 0⟩
def SEC_STATE_REQUIRE_SIGNED : Field := ⟨(0x02700000) * 8 + 4, 1, 0⟩
def SEC_STATE_DEBUG_UNLOCKED : Field := ⟨(0x02700000) * 8 + 5, 1, 0⟩
def SEC_STATE_FUSE_SVN : Field := ⟨(0x02700000) * 8 + 8, 7, 0⟩
def SEC_STATE_RUN_SVN : Field := ⟨(0x02700000) * 8 + 16, 6, 0⟩
def SEC_STATE_KEYS : Field := ⟨(0x02700000) * 8 + 24, 4, 0⟩
def SEC_FW_INFO_RUN_VERSION : Field := ⟨(0x02700004) * 8 + 0, 16, 0⟩
def SEC_FW_INFO_OTHER_VERSION : Field := ⟨(0x02700004) * 8 + 16, 16, 0⟩
def SEC_ARG0_VALUE : Field := ⟨(0x02700014) * 8 + 0, 32, 0⟩
def SEC_ARG1_VALUE : Field := ⟨(0x02700018) * 8 + 0, 32, 0⟩
def SEC_CMD_STATUS_BUSY : Field := ⟨(0x0270001C) * 8 + 0, 1, 0⟩
def SEC_CMD_STATUS_DONE : Field := ⟨(0x0270001C) * 8 + 1, 1, 0⟩
def SEC_CMD_STATUS_CODE : Field := ⟨(0x0270001C) * 8 + 8, 8, 0⟩
def SEC_EXT_CTRL_DONE : Field := ⟨(0x02700020) * 8 + 5, 1, 1⟩
def SEC_EXT_CTRL_EXT_REJECT : Field := ⟨(0x02700020) * 8 + 6, 1, 0⟩
def SEC_EXT_DATA_D (k : Nat) : Field := ⟨(0x02700100 + k * 0x4) * 8 + 0, 32, 0⟩
def SEC_MEAS_VALUE (i k : Nat) : Field := ⟨(0x02701000 + i * 0x40 + k * 0x4) * 8 + 0, 32, 0⟩

/-! Registers of spec/16_clocks_crossings_power.md. -/

def PWR_STATE_CTRL_IDLE : Field := ⟨(0x02600010) * 8 + 0, 1, 0⟩
def PWR_STATE_STATUS_STATE : Field := ⟨(0x02600018) * 8 + 0, 2, 0⟩
def PWR_STATE_STATUS_ARMED : Field := ⟨(0x02600018) * 8 + 2, 1, 0⟩
def PWR_STATE_STATUS_REFUSED : Field := ⟨(0x02600018) * 8 + 3, 1, 0⟩
def PWR_STATE_STATUS_REFUSE_CAUSE : Field := ⟨(0x02600018) * 8 + 4, 3, 0⟩
def PWR_STATE_STATUS_WAKE_CAUSE : Field := ⟨(0x02600018) * 8 + 8, 6, 0⟩
def PWR_STATE_STATUS_WAKES : Field := ⟨(0x02600018) * 8 + 16, 16, 0⟩
def PWR_WATCH_CFG_PERIOD_MS : Field := ⟨(0x02600020) * 8 + 0, 10, 0x3E8⟩
def PWR_WATCH_CFG_EN : Field := ⟨(0x02600020) * 8 + 10, 6, 0x3F⟩
def PWR_WATCH_THRESH_DIE_HI : Field := ⟨(0x02600024) * 8 + 0, 8, 0x5A⟩
def PWR_WATCH_THRESH_COOL_HI : Field := ⟨(0x02600024) * 8 + 8, 8, 0x37⟩
def PWR_TEMP_WEST : Field := ⟨(0x02600028) * 8 + 0, 8, 0⟩
def PWR_TEMP_EAST : Field := ⟨(0x02600028) * 8 + 8, 8, 0⟩
def PWR_TEMP_IO : Field := ⟨(0x02600028) * 8 + 16, 8, 0⟩
def PWR_TEMP_COOLANT : Field := ⟨(0x02600028) * 8 + 24, 8, 0⟩
def PWR_SMB_ADDR : Field := ⟨(0x0260002C) * 8 + 0, 7, 0x58⟩
def PWR_CLK_STATUS_ROOT_LOCK : Field := ⟨(0x02600030) * 8 + 0, 1, 0⟩
def PWR_CLK_STATUS_TX_LOCK : Field := ⟨(0x02600030) * 8 + 1, 1, 0⟩
def PWR_CLK_STATUS_LOCK_LOST : Field := ⟨(0x02600030) * 8 + 2, 1, 0⟩

/-! Registers of spec/17_check_value_units.md. -/

def CHK_CFG_WIDTH (n : Nat) : Field := ⟨(0x02400008 + n * 0x1000) * 8 + 0, 7, 0x20⟩
def CHK_CFG_REFIN (n : Nat) : Field := ⟨(0x02400008 + n * 0x1000) * 8 + 8, 1, 1⟩
def CHK_CFG_REFOUT (n : Nat) : Field := ⟨(0x02400008 + n * 0x1000) * 8 + 9, 1, 1⟩
def CHK_CFG_SCOPE (n : Nat) : Field := ⟨(0x02400008 + n * 0x1000) * 8 + 10, 1, 0⟩
def CHK_POLY_VALUE (n : Nat) : Field := ⟨(0x02400010 + n * 0x1000) * 8 + 0, 64, 0x1EDC6F41⟩
def CHK_INIT_VALUE (n : Nat) : Field := ⟨(0x02400018 + n * 0x1000) * 8 + 0, 64, 0xFFFFFFFF⟩
def CHK_XOROUT_VALUE (n : Nat) : Field := ⟨(0x02400020 + n * 0x1000) * 8 + 0, 64, 0xFFFFFFFF⟩
def CHK_STATE_VALUE (n : Nat) : Field := ⟨(0x02400028 + n * 0x1000) * 8 + 0, 64, 0xFFFFFFFF⟩
def CHK_RESULT_VALUE (n : Nat) : Field := ⟨(0x02400030 + n * 0x1000) * 8 + 0, 64, 0⟩
def CHK_STATUS_WR_REJECT (n : Nat) : Field := ⟨(0x02400038 + n * 0x1000) * 8 + 0, 1, 0⟩
def CHK_STATUS_QBUSY (n : Nat) : Field := ⟨(0x02400038 + n * 0x1000) * 8 + 1, 1, 0⟩
def CHK_MISMATCH_COUNT (n : Nat) : Field := ⟨(0x02400040 + n * 0x1000) * 8 + 0, 48, 0⟩
def CHK_MISMATCH_OVF (n : Nat) : Field := ⟨(0x02400040 + n * 0x1000) * 8 + 63, 1, 0⟩

/-! Registers of spec/18_chest_flash_store.md. -/

def CHS_STATUS_MOUNTED : Field := ⟨(0x02300008) * 8 + 0, 1, 0⟩
def CHS_STATUS_LOW_SPARE : Field := ⟨(0x02300008) * 8 + 1, 1, 0⟩
def CHS_STATUS_SCRUBBING : Field := ⟨(0x02300008) * 8 + 2, 1, 0⟩
def CHS_STATUS_CH_OK : Field := ⟨(0x02300008) * 8 + 8, 8, 0⟩
def CHS_CFG_SCRUB_DAYS : Field := ⟨(0x0230000C) * 8 + 0, 8, 0x1E⟩
def CHS_ARG0_VALUE : Field := ⟨(0x02300018) * 8 + 0, 64, 0⟩
def CHS_ARG1_VALUE : Field := ⟨(0x02300020) * 8 + 0, 64, 0⟩
def CHS_CMD_STATUS_BUSY : Field := ⟨(0x02300028) * 8 + 0, 1, 0⟩
def CHS_CMD_STATUS_DONE : Field := ⟨(0x02300028) * 8 + 1, 1, 0⟩
def CHS_CMD_STATUS_CODE : Field := ⟨(0x02300028) * 8 + 8, 8, 0⟩
def CHS_SPACE_FREE_PAGES : Field := ⟨(0x02300030) * 8 + 0, 32, 0⟩
def CHS_SPACE_PAGE_SEQ : Field := ⟨(0x02300030) * 8 + 32, 32, 0⟩
def CHS_LEFT_RECORDS : Field := ⟨(0x02300038) * 8 + 0, 20, 0⟩
def CHS_FAULT_CAUSE : Field := ⟨(0x0230003C) * 8 + 0, 3, 0⟩
def CHS_FAULT_SLOT : Field := ⟨(0x0230003C) * 8 + 3, 7, 0⟩
def CHS_FAULT_VALID : Field := ⟨(0x0230003C) * 8 + 31, 1, 0⟩
def CHS_COUNTER_COUNT (i : Nat) : Field := ⟨(0x02300040 + i * 0x8) * 8 + 0, 48, 0⟩
def CHS_COUNTER_OVF (i : Nat) : Field := ⟨(0x02300040 + i * 0x8) * 8 + 63, 1, 0⟩
def CHS_SLOT_INFO_STATE (s : Nat) : Field := ⟨(0x02300100 + s * 0x20) * 8 + 0, 2, 0⟩
def CHS_SLOT_INFO_ROLE (s : Nat) : Field := ⟨(0x02300100 + s * 0x20) * 8 + 8, 8, 0⟩
def CHS_SLOT_INFO_GEN (s : Nat) : Field := ⟨(0x02300100 + s * 0x20) * 8 + 32, 32, 0⟩
def CHS_SLOT_INFO_PAGES (s : Nat) : Field := ⟨(0x02300100 + s * 0x20) * 8 + 64, 32, 0⟩
def CHS_SLOT_INFO_RECORDS (s : Nat) : Field := ⟨(0x02300100 + s * 0x20) * 8 + 96, 32, 0⟩
def CHS_SLOT_INFO_BYTES (s : Nat) : Field := ⟨(0x02300100 + s * 0x20) * 8 + 128, 64, 0⟩
def CHS_SLOT_INFO_STEP (s : Nat) : Field := ⟨(0x02300100 + s * 0x20) * 8 + 192, 32, 0⟩
def CHS_SLOT_INFO_CURSOR (s : Nat) : Field := ⟨(0x02300100 + s * 0x20) * 8 + 224, 32, 0⟩

/-! Registers of spec/19_counters_faults_recovery.md. -/

def CNT_SNAP_STATUS_PENDING : Field := ⟨(0x02500004) * 8 + 0, 1, 0⟩
def CNT_SNAP_SEQ_SEQ : Field := ⟨(0x02500008) * 8 + 0, 32, 0⟩
def CNT_SNAP_CFG_AUTO : Field := ⟨(0x0250000C) * 8 + 0, 8, 0⟩
def CNT_VIEW_SHADOW : Field := ⟨(0x02500010) * 8 + 0, 1, 0⟩
def CNT_CYCLE_COUNT : Field := ⟨(0x02500018) * 8 + 0, 64, 0⟩
def CNT_AO_CYCLE_COUNT : Field := ⟨(0x02500020) * 8 + 0, 64, 0⟩
def CNT_FLT_CFG_IRQ_EN : Field := ⟨(0x02500100) * 8 + 0, 1, 0⟩
def CNT_FLT_CFG_VEC : Field := ⟨(0x02500100) * 8 + 8, 8, 0⟩
def CNT_FLT_CFG_CLASS_MASK : Field := ⟨(0x02500100) * 8 + 16, 16, 0xFFFE⟩
def CNT_FLT_PTR_HEAD : Field := ⟨(0x02500104) * 8 + 0, 8, 0⟩
def CNT_FLT_PTR_TAIL : Field := ⟨(0x02500104) * 8 + 16, 8, 0⟩
def CNT_FLT_LOST_COUNT : Field := ⟨(0x02500108) * 8 + 0, 48, 0⟩
def CNT_FLT_LOST_OVF : Field := ⟨(0x02500108) * 8 + 63, 1, 0⟩
def CNT_DRAIN_DROP_COUNT : Field := ⟨(0x02500110) * 8 + 0, 48, 0⟩
def CNT_DRAIN_DROP_OVF : Field := ⟨(0x02500110) * 8 + 63, 1, 0⟩
def CNT_FLT_ENTRY_FSEQ (i : Nat) : Field := ⟨(0x02510000 + i * 0x10) * 8 + 0, 32, 0⟩
def CNT_FLT_ENTRY_CLASS (i : Nat) : Field := ⟨(0x02510000 + i * 0x10) * 8 + 32, 5, 0⟩
def CNT_FLT_ENTRY_SEVERITY (i : Nat) : Field := ⟨(0x02510000 + i * 0x10) * 8 + 37, 3, 0⟩
def CNT_FLT_ENTRY_REPEAT (i : Nat) : Field := ⟨(0x02510000 + i * 0x10) * 8 + 40, 8, 0⟩
def CNT_FLT_ENTRY_SOURCE (i : Nat) : Field := ⟨(0x02510000 + i * 0x10) * 8 + 48, 9, 0⟩
def CNT_FLT_ENTRY_CHIP (i : Nat) : Field := ⟨(0x02510000 + i * 0x10) * 8 + 64, 24, 0⟩
def CNT_FLT_ENTRY_GRAPH (i : Nat) : Field := ⟨(0x02510000 + i * 0x10) * 8 + 88, 3, 0⟩
def CNT_FLT_ENTRY_DETAIL (i : Nat) : Field := ⟨(0x02510000 + i * 0x10) * 8 + 96, 32, 0⟩
def CNT_RECOV_CFG_DRAIN_US : Field := ⟨(0x02500200) * 8 + 0, 16, 0xC8⟩
def CNT_RECOV_STATUS_BUSY : Field := ⟨(0x02500208) * 8 + 0, 1, 0⟩
def CNT_RECOV_STATUS_DONE : Field := ⟨(0x02500208) * 8 + 1, 1, 0⟩
def CNT_RECOV_STATUS_REFUSED : Field := ⟨(0x02500208) * 8 + 2, 1, 0⟩
def CNT_RECOV_STATUS_REWINDS : Field := ⟨(0x02500208) * 8 + 16, 16, 0⟩

/-! Registers of spec/20_module_hardware.md. -/

def PWR_LASER_OFF : Field := ⟨(0x02600040) * 8 + 0, 3, 0⟩
def PWR_LASER_PRESENT : Field := ⟨(0x02600040) * 8 + 4, 3, 0⟩
def PWR_LASER_LIT : Field := ⟨(0x02600040) * 8 + 8, 3, 0⟩
def PWR_LASER_FAULT : Field := ⟨(0x02600040) * 8 + 12, 3, 0⟩

/-! The MSI-X table and pending bits (R374; PCIe layout). -/

def MSIX_ADDR (n : Nat) : Field := ⟨(0x00E00000 + n * 0x10) * 8 + 0, 64, 0⟩
def MSIX_DATA (n : Nat) : Field := ⟨(0x00E00000 + n * 0x10) * 8 + 64, 32, 0⟩
def MSIX_MASK (n : Nat) : Field := ⟨(0x00E00000 + n * 0x10) * 8 + 96, 1, 1⟩
def MSIX_PENDING (n : Nat) : Field := ⟨0x00E01000 * 8 + n, 1, 0⟩

/-! The table of registers: base, stride, count, bytes and fields, by chapter. -/

def PWR_OPMODE_fields : List FieldDef :=
  [⟨0, 2, .rw, 0⟩, ⟨4, 2, .ro, 0⟩, ⟨8, 1, .ro, 0⟩, ⟨9, 1, .ro, 0⟩, ⟨12, 1, .w1c, 0⟩, ⟨16, 16, .ro, 0⟩]
def table01_0 : List RegDef := [
  ⟨0x02600000, 0x0, 1, 4, PWR_OPMODE_fields⟩]
def STR_fields : List FieldDef :=
  [⟨0, 1, .rw, 0⟩, ⟨1, 1, .rw, 0⟩, ⟨2, 1, .rw, 0⟩, ⟨3, 3, .rw, 0⟩, ⟨6, 9, .rw, 0⟩, ⟨15, 9, .rw, 0⟩, ⟨24, 3, .rw, 0⟩, ⟨27, 1, .rw, 0⟩, ⟨32, 24, .rw, 0⟩, ⟨64, 18, .rw, 0⟩, ⟨96, 32, .rw, 0⟩, ⟨128, 16, .ro, 0⟩, ⟨144, 16, .rw, 0⟩, ⟨160, 16, .rw, 0⟩, ⟨176, 16, .rw, 0⟩, ⟨192, 32, .rw, 0⟩, ⟨224, 24, .rw, 0⟩, ⟨256, 24, .ro, 0⟩, ⟨288, 1, .w1c, 0⟩, ⟨289, 1, .w1c, 0⟩, ⟨290, 1, .w1c, 0⟩, ⟨291, 1, .w1c, 0⟩, ⟨292, 1, .w1c, 0⟩, ⟨293, 1, .w1c, 0⟩, ⟨294, 1, .w1c, 0⟩, ⟨295, 1, .w1c, 0⟩, ⟨320, 1, .w1c, 0⟩, ⟨321, 1, .w1c, 0⟩, ⟨322, 1, .w1c, 0⟩, ⟨323, 1, .w1c, 0⟩, ⟨324, 1, .w1c, 0⟩, ⟨325, 1, .w1c, 0⟩, ⟨326, 1, .w1c, 0⟩, ⟨327, 1, .w1c, 0⟩, ⟨352, 1, .rw, 0⟩, ⟨353, 1, .rw, 0⟩, ⟨354, 1, .rw, 0⟩, ⟨384, 32, .ro, 0⟩]
def MLS_ENTRY_fields : List FieldDef :=
  [⟨0, 32, .rw, 0⟩, ⟨32, 32, .rw, 0xFFFFFFFF⟩]
def MLS_STATUS_fields : List FieldDef :=
  [⟨0, 8, .rw, 0⟩, ⟨8, 1, .ro, 0⟩, ⟨9, 1, .w1c, 0⟩, ⟨10, 1, .rw, 0⟩, ⟨16, 8, .rw, 0⟩]
def MLS_INC_fields : List FieldDef :=
  [⟨0, 16, .wo, 0⟩, ⟨32, 32, .wo, 0⟩]
def STN_CTRL_fields : List FieldDef :=
  [⟨0, 1, .rw, 0⟩, ⟨1, 1, .wo, 0⟩]
def STN_STATUS_fields : List FieldDef :=
  [⟨0, 1, .ro, 1⟩, ⟨1, 1, .ro, 0⟩, ⟨2, 1, .w1c, 0⟩, ⟨3, 1, .ro, 0⟩, ⟨16, 16, .ro, 0⟩]
def table02_0 : List RegDef := [
  ⟨0x03000000, 0x40, 262144, 64, STR_fields⟩,
  ⟨0x02800000, 0x8, 65536, 8, MLS_ENTRY_fields⟩,
  ⟨0x02900000, 0x4, 65536, 4, MLS_STATUS_fields⟩,
  ⟨0x02F00000, 0x0, 1, 8, MLS_INC_fields⟩,
  ⟨0x01000000, 0x10000, 36, 4, STN_CTRL_fields⟩,
  ⟨0x01001000, 0x10000, 36, 4, STN_CTRL_fields⟩,
  ⟨0x01002000, 0x10000, 36, 4, STN_CTRL_fields⟩,
  ⟨0x01003000, 0x10000, 36, 4, STN_CTRL_fields⟩,
  ⟨0x01004000, 0x10000, 36, 4, STN_CTRL_fields⟩,
  ⟨0x01005000, 0x10000, 36, 4, STN_CTRL_fields⟩,
  ⟨0x01006000, 0x10000, 36, 4, STN_CTRL_fields⟩,
  ⟨0x01007000, 0x10000, 36, 4, STN_CTRL_fields⟩,
  ⟨0x02000000, 0x1000, 36, 4, STN_CTRL_fields⟩,
  ⟨0x02100000, 0x1000, 16, 4, STN_CTRL_fields⟩,
  ⟨0x02200000, 0x1000, 4, 4, STN_CTRL_fields⟩,
  ⟨0x02300000, 0x0, 1, 4, STN_CTRL_fields⟩,
  ⟨0x02400000, 0x1000, 16, 4, STN_CTRL_fields⟩,
  ⟨0x00F00000, 0x0, 1, 4, STN_CTRL_fields⟩,
  ⟨0x01000004, 0x10000, 36, 4, STN_STATUS_fields⟩,
  ⟨0x01001004, 0x10000, 36, 4, STN_STATUS_fields⟩,
  ⟨0x01002004, 0x10000, 36, 4, STN_STATUS_fields⟩,
  ⟨0x01003004, 0x10000, 36, 4, STN_STATUS_fields⟩,
  ⟨0x01004004, 0x10000, 36, 4, STN_STATUS_fields⟩,
  ⟨0x01005004, 0x10000, 36, 4, STN_STATUS_fields⟩,
  ⟨0x01006004, 0x10000, 36, 4, STN_STATUS_fields⟩,
  ⟨0x01007004, 0x10000, 36, 4, STN_STATUS_fields⟩,
  ⟨0x02000004, 0x1000, 36, 4, STN_STATUS_fields⟩,
  ⟨0x02100004, 0x1000, 16, 4, STN_STATUS_fields⟩,
  ⟨0x02200004, 0x1000, 4, 4, STN_STATUS_fields⟩,
  ⟨0x02300004, 0x0, 1, 4, STN_STATUS_fields⟩,
  ⟨0x02400004, 0x1000, 16, 4, STN_STATUS_fields⟩,
  ⟨0x00F00004, 0x0, 1, 4, STN_STATUS_fields⟩]
def GLB_NUMCTL_fields : List FieldDef :=
  [⟨0, 1, .rw, 1⟩]
def CLU_CONV_CTRL_fields : List FieldDef :=
  [⟨0, 1, .wo, 0⟩, ⟨1, 8, .wo, 0⟩]
def CLU_CONV_LOST_NONZERO_fields : List FieldDef :=
  [⟨0, 48, .ro, 0⟩, ⟨63, 1, .ro, 0⟩]
def CLU_CONV_AMAX_fields : List FieldDef :=
  [⟨0, 32, .ro, 0⟩]
def GLB_SCALE_SLOT_fields : List FieldDef :=
  [⟨0, 32, .rw, 0⟩, ⟨32, 8, .rw, 0⟩, ⟨40, 2, .rw, 0⟩, ⟨42, 3, .rw, 0⟩, ⟨45, 3, .rw, 0⟩, ⟨48, 8, .rw, 0⟩, ⟨63, 1, .rw, 0⟩, ⟨64, 32, .ro, 0⟩, ⟨96, 16, .ro, 0⟩, ⟨112, 1, .ro, 0⟩]
def table03_0 : List RegDef := [
  ⟨0x00000100, 0x0, 1, 4, GLB_NUMCTL_fields⟩,
  ⟨0x01005010, 0x10000, 36, 4, CLU_CONV_CTRL_fields⟩,
  ⟨0x01005018, 0x10000, 36, 8, CLU_CONV_LOST_NONZERO_fields⟩,
  ⟨0x01005020, 0x10000, 36, 4, CLU_CONV_AMAX_fields⟩,
  ⟨0x01005024, 0x10000, 36, 4, CLU_CONV_AMAX_fields⟩,
  ⟨0x01005028, 0x10000, 36, 4, CLU_CONV_AMAX_fields⟩,
  ⟨0x0100502C, 0x10000, 36, 4, CLU_CONV_AMAX_fields⟩,
  ⟨0x01005030, 0x10000, 36, 4, CLU_CONV_AMAX_fields⟩,
  ⟨0x01005034, 0x10000, 36, 4, CLU_CONV_AMAX_fields⟩,
  ⟨0x01005038, 0x10000, 36, 4, CLU_CONV_AMAX_fields⟩,
  ⟨0x0100503C, 0x10000, 36, 4, CLU_CONV_AMAX_fields⟩,
  ⟨0x00080000, 0x10, 16384, 16, GLB_SCALE_SLOT_fields⟩]
def CLU_BENCH_HSTATUS_fields : List FieldDef :=
  [⟨0, 1, .ro, 0⟩, ⟨1, 1, .ro, 0⟩, ⟨16, 16, .ro, 0⟩]
def CLU_BENCH_CFG_fields : List FieldDef :=
  [⟨0, 1, .ro, 0⟩, ⟨4, 5, .rw, 0x10⟩]
def CLU_BENCH_CLR_fields : List FieldDef :=
  [⟨0, 1, .wo, 0⟩, ⟨1, 1, .wo, 0⟩, ⟨2, 1, .wo, 0⟩, ⟨3, 1, .wo, 0⟩]
def CLU_BENCH_LOADED_L_fields : List FieldDef :=
  [⟨0, 9, .ro, 0⟩, ⟨9, 8, .ro, 0⟩, ⟨17, 8, .ro, 0⟩, ⟨25, 1, .ro, 0⟩]
def CLU_BENCH_LOADED_H_fields : List FieldDef :=
  [⟨0, 9, .ro, 0⟩, ⟨9, 8, .ro, 0⟩, ⟨17, 8, .ro, 0⟩, ⟨25, 1, .ro, 0⟩]
def CLU_BENCH_CHKFAIL_L_fields : List FieldDef :=
  [⟨0, 48, .ro, 0⟩, ⟨63, 1, .ro, 0⟩]
def CLU_BENCH_CHKFAIL_H_fields : List FieldDef :=
  [⟨0, 48, .ro, 0⟩, ⟨63, 1, .ro, 0⟩]
def CLU_BENCH_CHKSKIP_fields : List FieldDef :=
  [⟨0, 48, .ro, 0⟩, ⟨63, 1, .ro, 0⟩]
def CLU_BENCH_FAIL_INFO_fields : List FieldDef :=
  [⟨0, 32, .ro, 0⟩, ⟨32, 1, .ro, 0⟩, ⟨33, 1, .ro, 0⟩, ⟨34, 1, .ro, 0⟩, ⟨35, 7, .ro, 0⟩, ⟨42, 6, .ro, 0⟩, ⟨63, 1, .w1c, 0⟩]
def CLU_BENCH_LEFT_L_fields : List FieldDef :=
  [⟨0, 32, .ro, 0⟩]
def CLU_BENCH_LEFT_H_fields : List FieldDef :=
  [⟨0, 32, .ro, 0⟩]
def table04_0 : List RegDef := [
  ⟨0x01000008, 0x10000, 36, 4, CLU_BENCH_HSTATUS_fields⟩,
  ⟨0x01001008, 0x10000, 36, 4, CLU_BENCH_HSTATUS_fields⟩,
  ⟨0x01002008, 0x10000, 36, 4, CLU_BENCH_HSTATUS_fields⟩,
  ⟨0x01003008, 0x10000, 36, 4, CLU_BENCH_HSTATUS_fields⟩,
  ⟨0x01000010, 0x10000, 36, 4, CLU_BENCH_CFG_fields⟩,
  ⟨0x01001010, 0x10000, 36, 4, CLU_BENCH_CFG_fields⟩,
  ⟨0x01002010, 0x10000, 36, 4, CLU_BENCH_CFG_fields⟩,
  ⟨0x01003010, 0x10000, 36, 4, CLU_BENCH_CFG_fields⟩,
  ⟨0x01000014, 0x10000, 36, 4, CLU_BENCH_CLR_fields⟩,
  ⟨0x01001014, 0x10000, 36, 4, CLU_BENCH_CLR_fields⟩,
  ⟨0x01002014, 0x10000, 36, 4, CLU_BENCH_CLR_fields⟩,
  ⟨0x01003014, 0x10000, 36, 4, CLU_BENCH_CLR_fields⟩,
  ⟨0x01000018, 0x10000, 36, 4, CLU_BENCH_LOADED_L_fields⟩,
  ⟨0x01001018, 0x10000, 36, 4, CLU_BENCH_LOADED_L_fields⟩,
  ⟨0x01002018, 0x10000, 36, 4, CLU_BENCH_LOADED_L_fields⟩,
  ⟨0x01003018, 0x10000, 36, 4, CLU_BENCH_LOADED_L_fields⟩,
  ⟨0x0100001C, 0x10000, 36, 4, CLU_BENCH_LOADED_H_fields⟩,
  ⟨0x0100101C, 0x10000, 36, 4, CLU_BENCH_LOADED_H_fields⟩,
  ⟨0x0100201C, 0x10000, 36, 4, CLU_BENCH_LOADED_H_fields⟩,
  ⟨0x0100301C, 0x10000, 36, 4, CLU_BENCH_LOADED_H_fields⟩,
  ⟨0x01000020, 0x10000, 36, 8, CLU_BENCH_CHKFAIL_L_fields⟩,
  ⟨0x01001020, 0x10000, 36, 8, CLU_BENCH_CHKFAIL_L_fields⟩,
  ⟨0x01002020, 0x10000, 36, 8, CLU_BENCH_CHKFAIL_L_fields⟩,
  ⟨0x01003020, 0x10000, 36, 8, CLU_BENCH_CHKFAIL_L_fields⟩,
  ⟨0x01000028, 0x10000, 36, 8, CLU_BENCH_CHKFAIL_H_fields⟩,
  ⟨0x01001028, 0x10000, 36, 8, CLU_BENCH_CHKFAIL_H_fields⟩,
  ⟨0x01002028, 0x10000, 36, 8, CLU_BENCH_CHKFAIL_H_fields⟩,
  ⟨0x01003028, 0x10000, 36, 8, CLU_BENCH_CHKFAIL_H_fields⟩,
  ⟨0x01000030, 0x10000, 36, 8, CLU_BENCH_CHKSKIP_fields⟩,
  ⟨0x01001030, 0x10000, 36, 8, CLU_BENCH_CHKSKIP_fields⟩,
  ⟨0x01002030, 0x10000, 36, 8, CLU_BENCH_CHKSKIP_fields⟩,
  ⟨0x01003030, 0x10000, 36, 8, CLU_BENCH_CHKSKIP_fields⟩,
  ⟨0x01000038, 0x10000, 36, 8, CLU_BENCH_FAIL_INFO_fields⟩,
  ⟨0x01001038, 0x10000, 36, 8, CLU_BENCH_FAIL_INFO_fields⟩,
  ⟨0x01002038, 0x10000, 36, 8, CLU_BENCH_FAIL_INFO_fields⟩,
  ⟨0x01003038, 0x10000, 36, 8, CLU_BENCH_FAIL_INFO_fields⟩,
  ⟨0x01000040, 0x10000, 36, 4, CLU_BENCH_LEFT_L_fields⟩,
  ⟨0x01001040, 0x10000, 36, 4, CLU_BENCH_LEFT_L_fields⟩,
  ⟨0x01002040, 0x10000, 36, 4, CLU_BENCH_LEFT_L_fields⟩,
  ⟨0x01003040, 0x10000, 36, 4, CLU_BENCH_LEFT_L_fields⟩]
def table04_1 : List RegDef := [
  ⟨0x01000044, 0x10000, 36, 4, CLU_BENCH_LEFT_H_fields⟩,
  ⟨0x01001044, 0x10000, 36, 4, CLU_BENCH_LEFT_H_fields⟩,
  ⟨0x01002044, 0x10000, 36, 4, CLU_BENCH_LEFT_H_fields⟩,
  ⟨0x01003044, 0x10000, 36, 4, CLU_BENCH_LEFT_H_fields⟩]
def CLU_VEC_STATE_fields : List FieldDef :=
  [⟨0, 11, .ro, 0⟩, ⟨11, 2, .ro, 0⟩]
def CLU_VEC_LOOP_fields : List FieldDef :=
  [⟨0, 16, .ro, 0⟩, ⟨16, 16, .ro, 0⟩]
def CLU_VEC_DBG_ADDR_fields : List FieldDef :=
  [⟨0, 8, .rw, 0⟩, ⟨8, 5, .rw, 0⟩, ⟨13, 2, .rw, 0⟩]
def CLU_VEC_DBG_DATA_fields : List FieldDef :=
  [⟨0, 32, .rw, 0⟩]
def CLU_VEC_IMEM_ADDR_fields : List FieldDef :=
  [⟨0, 11, .rw, 0⟩, ⟨31, 1, .rw, 0⟩]
def CLU_VEC_IMEM_DATA_fields : List FieldDef :=
  [⟨0, 64, .rw, 0⟩]
def CLU_DESK_STATE_fields : List FieldDef :=
  [⟨0, 14, .ro, 0⟩, ⟨14, 3, .ro, 0⟩]
def CLU_DESK_FAULT_fields : List FieldDef :=
  [⟨0, 4, .ro, 0⟩, ⟨4, 14, .ro, 0⟩, ⟨31, 1, .w1c, 0⟩]
def CLU_DESK_FWCYC_fields : List FieldDef :=
  [⟨0, 48, .ro, 0⟩, ⟨63, 1, .ro, 0⟩]
def CLU_DESK_MEM_ADDR_fields : List FieldDef :=
  [⟨0, 16, .rw, 0⟩, ⟨16, 1, .rw, 0⟩, ⟨31, 1, .rw, 0⟩]
def CLU_DESK_MEM_DATA_fields : List FieldDef :=
  [⟨0, 32, .rw, 0⟩]
def CLU_DESK_SREG_fields : List FieldDef :=
  [⟨0, 32, .rw, 0⟩]
def table05_0 : List RegDef := [
  ⟨0x01004008, 0x10000, 36, 4, CLU_VEC_STATE_fields⟩,
  ⟨0x0100400C, 0x10000, 36, 4, CLU_VEC_LOOP_fields⟩,
  ⟨0x01004010, 0x10000, 36, 4, CLU_VEC_DBG_ADDR_fields⟩,
  ⟨0x01004014, 0x10000, 36, 4, CLU_VEC_DBG_DATA_fields⟩,
  ⟨0x01004018, 0x10000, 36, 4, CLU_VEC_IMEM_ADDR_fields⟩,
  ⟨0x01004020, 0x10000, 36, 8, CLU_VEC_IMEM_DATA_fields⟩,
  ⟨0x01007008, 0x10000, 36, 4, CLU_DESK_STATE_fields⟩,
  ⟨0x0100700C, 0x10000, 36, 4, CLU_DESK_FAULT_fields⟩,
  ⟨0x01007010, 0x10000, 36, 8, CLU_DESK_FWCYC_fields⟩,
  ⟨0x01007020, 0x10000, 36, 4, CLU_DESK_MEM_ADDR_fields⟩,
  ⟨0x01007024, 0x10000, 36, 4, CLU_DESK_MEM_DATA_fields⟩,
  ⟨0x01007100, 0x10000, 36, 4, CLU_DESK_SREG_fields⟩,
  ⟨0x01007104, 0x10000, 36, 4, CLU_DESK_SREG_fields⟩,
  ⟨0x01007108, 0x10000, 36, 4, CLU_DESK_SREG_fields⟩,
  ⟨0x0100710C, 0x10000, 36, 4, CLU_DESK_SREG_fields⟩,
  ⟨0x01007110, 0x10000, 36, 4, CLU_DESK_SREG_fields⟩,
  ⟨0x01007114, 0x10000, 36, 4, CLU_DESK_SREG_fields⟩,
  ⟨0x01007118, 0x10000, 36, 4, CLU_DESK_SREG_fields⟩,
  ⟨0x0100711C, 0x10000, 36, 4, CLU_DESK_SREG_fields⟩,
  ⟨0x01007120, 0x10000, 36, 4, CLU_DESK_SREG_fields⟩,
  ⟨0x01007124, 0x10000, 36, 4, CLU_DESK_SREG_fields⟩,
  ⟨0x01007128, 0x10000, 36, 4, CLU_DESK_SREG_fields⟩,
  ⟨0x0100712C, 0x10000, 36, 4, CLU_DESK_SREG_fields⟩,
  ⟨0x01007130, 0x10000, 36, 4, CLU_DESK_SREG_fields⟩,
  ⟨0x01007134, 0x10000, 36, 4, CLU_DESK_SREG_fields⟩,
  ⟨0x01007138, 0x10000, 36, 4, CLU_DESK_SREG_fields⟩,
  ⟨0x0100713C, 0x10000, 36, 4, CLU_DESK_SREG_fields⟩,
  ⟨0x01007140, 0x10000, 36, 4, CLU_DESK_SREG_fields⟩,
  ⟨0x01007144, 0x10000, 36, 4, CLU_DESK_SREG_fields⟩,
  ⟨0x01007148, 0x10000, 36, 4, CLU_DESK_SREG_fields⟩,
  ⟨0x0100714C, 0x10000, 36, 4, CLU_DESK_SREG_fields⟩,
  ⟨0x01007150, 0x10000, 36, 4, CLU_DESK_SREG_fields⟩,
  ⟨0x01007154, 0x10000, 36, 4, CLU_DESK_SREG_fields⟩,
  ⟨0x01007158, 0x10000, 36, 4, CLU_DESK_SREG_fields⟩,
  ⟨0x0100715C, 0x10000, 36, 4, CLU_DESK_SREG_fields⟩,
  ⟨0x01007160, 0x10000, 36, 4, CLU_DESK_SREG_fields⟩,
  ⟨0x01007164, 0x10000, 36, 4, CLU_DESK_SREG_fields⟩,
  ⟨0x01007168, 0x10000, 36, 4, CLU_DESK_SREG_fields⟩,
  ⟨0x0100716C, 0x10000, 36, 4, CLU_DESK_SREG_fields⟩,
  ⟨0x01007170, 0x10000, 36, 4, CLU_DESK_SREG_fields⟩]
def table05_1 : List RegDef := [
  ⟨0x01007174, 0x10000, 36, 4, CLU_DESK_SREG_fields⟩,
  ⟨0x01007178, 0x10000, 36, 4, CLU_DESK_SREG_fields⟩,
  ⟨0x0100717C, 0x10000, 36, 4, CLU_DESK_SREG_fields⟩,
  ⟨0x01007180, 0x10000, 36, 4, CLU_DESK_SREG_fields⟩,
  ⟨0x01007184, 0x10000, 36, 4, CLU_DESK_SREG_fields⟩,
  ⟨0x01007188, 0x10000, 36, 4, CLU_DESK_SREG_fields⟩,
  ⟨0x0100718C, 0x10000, 36, 4, CLU_DESK_SREG_fields⟩,
  ⟨0x01007190, 0x10000, 36, 4, CLU_DESK_SREG_fields⟩,
  ⟨0x01007194, 0x10000, 36, 4, CLU_DESK_SREG_fields⟩,
  ⟨0x01007198, 0x10000, 36, 4, CLU_DESK_SREG_fields⟩,
  ⟨0x0100719C, 0x10000, 36, 4, CLU_DESK_SREG_fields⟩,
  ⟨0x010071A0, 0x10000, 36, 4, CLU_DESK_SREG_fields⟩,
  ⟨0x010071A4, 0x10000, 36, 4, CLU_DESK_SREG_fields⟩,
  ⟨0x010071A8, 0x10000, 36, 4, CLU_DESK_SREG_fields⟩,
  ⟨0x010071AC, 0x10000, 36, 4, CLU_DESK_SREG_fields⟩,
  ⟨0x010071B0, 0x10000, 36, 4, CLU_DESK_SREG_fields⟩,
  ⟨0x010071B4, 0x10000, 36, 4, CLU_DESK_SREG_fields⟩,
  ⟨0x010071B8, 0x10000, 36, 4, CLU_DESK_SREG_fields⟩,
  ⟨0x010071BC, 0x10000, 36, 4, CLU_DESK_SREG_fields⟩,
  ⟨0x010071C0, 0x10000, 36, 4, CLU_DESK_SREG_fields⟩,
  ⟨0x010071C4, 0x10000, 36, 4, CLU_DESK_SREG_fields⟩,
  ⟨0x010071C8, 0x10000, 36, 4, CLU_DESK_SREG_fields⟩,
  ⟨0x010071CC, 0x10000, 36, 4, CLU_DESK_SREG_fields⟩,
  ⟨0x010071D0, 0x10000, 36, 4, CLU_DESK_SREG_fields⟩,
  ⟨0x010071D4, 0x10000, 36, 4, CLU_DESK_SREG_fields⟩,
  ⟨0x010071D8, 0x10000, 36, 4, CLU_DESK_SREG_fields⟩,
  ⟨0x010071DC, 0x10000, 36, 4, CLU_DESK_SREG_fields⟩,
  ⟨0x010071E0, 0x10000, 36, 4, CLU_DESK_SREG_fields⟩,
  ⟨0x010071E4, 0x10000, 36, 4, CLU_DESK_SREG_fields⟩,
  ⟨0x010071E8, 0x10000, 36, 4, CLU_DESK_SREG_fields⟩,
  ⟨0x010071EC, 0x10000, 36, 4, CLU_DESK_SREG_fields⟩,
  ⟨0x010071F0, 0x10000, 36, 4, CLU_DESK_SREG_fields⟩,
  ⟨0x010071F4, 0x10000, 36, 4, CLU_DESK_SREG_fields⟩,
  ⟨0x010071F8, 0x10000, 36, 4, CLU_DESK_SREG_fields⟩,
  ⟨0x010071FC, 0x10000, 36, 4, CLU_DESK_SREG_fields⟩]
def GLB_ARITH_ID_fields : List FieldDef :=
  [⟨0, 8, .ro, 1⟩]
def table06_0 : List RegDef := [
  ⟨0x00000104, 0x0, 1, 4, GLB_ARITH_ID_fields⟩]
def GLB_STEP_NUM_fields : List FieldDef :=
  [⟨0, 32, .rw, 0⟩]
def GLB_STEP_STATE_fields : List FieldDef :=
  [⟨0, 1, .ro, 0⟩, ⟨1, 1, .ro, 0⟩, ⟨2, 1, .ro, 0⟩, ⟨3, 1, .ro, 1⟩, ⟨4, 1, .ro, 0⟩, ⟨5, 1, .w1c, 0⟩, ⟨8, 8, .ro, 0⟩, ⟨16, 3, .ro, 0⟩]
def GLB_STEP_FLAGS_fields : List FieldDef :=
  [⟨0, 4, .ro, 0⟩, ⟨4, 4, .ro, 0⟩, ⟨8, 12, .ro, 0⟩, ⟨20, 12, .ro, 0⟩]
def GLB_STEP_CTRL_fields : List FieldDef :=
  [⟨0, 1, .wo, 0⟩, ⟨1, 1, .wo, 0⟩, ⟨2, 1, .wo, 0⟩, ⟨3, 1, .wo, 0⟩]
def GLB_STEP_POLICY_fields : List FieldDef :=
  [⟨0, 2, .ro, 0⟩, ⟨2, 2, .ro, 0⟩, ⟨4, 2, .ro, 0⟩, ⟨8, 4, .ro, 0⟩, ⟨16, 6, .ro, 0⟩]
def GLB_STEP_GROUP_fields : List FieldDef :=
  [⟨0, 16, .ro, 0⟩, ⟨16, 16, .ro, 0⟩]
def GLB_STEP_CFG_fields : List FieldDef :=
  [⟨0, 10, .ro, 0⟩, ⟨31, 1, .ro, 0⟩]
def GLB_STEP_PASSES_fields : List FieldDef :=
  [⟨0, 48, .ro, 0⟩, ⟨63, 1, .ro, 0⟩]
def GLB_STEP_SKIPS_fields : List FieldDef :=
  [⟨0, 48, .ro, 0⟩, ⟨63, 1, .ro, 0⟩]
def GLB_STEP_RERUNS_fields : List FieldDef :=
  [⟨0, 48, .ro, 0⟩, ⟨63, 1, .ro, 0⟩]
def table07_0 : List RegDef := [
  ⟨0x00000200, 0x40, 8, 4, GLB_STEP_NUM_fields⟩,
  ⟨0x00000204, 0x40, 8, 4, GLB_STEP_STATE_fields⟩,
  ⟨0x00000208, 0x40, 8, 4, GLB_STEP_FLAGS_fields⟩,
  ⟨0x0000020C, 0x40, 8, 4, GLB_STEP_CTRL_fields⟩,
  ⟨0x00000210, 0x40, 8, 4, GLB_STEP_POLICY_fields⟩,
  ⟨0x00000214, 0x40, 8, 4, GLB_STEP_GROUP_fields⟩,
  ⟨0x00000218, 0x40, 8, 4, GLB_STEP_CFG_fields⟩,
  ⟨0x00000220, 0x40, 8, 8, GLB_STEP_PASSES_fields⟩,
  ⟨0x00000228, 0x40, 8, 8, GLB_STEP_SKIPS_fields⟩,
  ⟨0x00000230, 0x40, 8, 8, GLB_STEP_RERUNS_fields⟩]
def CLU_DRW_CLR_fields : List FieldDef :=
  [⟨0, 1, .wo, 0⟩, ⟨1, 1, .wo, 0⟩]
def CLU_DRW_LEFT_fields : List FieldDef :=
  [⟨0, 20, .ro, 0⟩]
def SHF_LEFT_fields : List FieldDef :=
  [⟨0, 20, .ro, 0⟩]
def CLU_DRW_ECC_CE_fields : List FieldDef :=
  [⟨0, 48, .ro, 0⟩, ⟨63, 1, .ro, 0⟩]
def CLU_DRW_ECC_UE_fields : List FieldDef :=
  [⟨0, 48, .ro, 0⟩, ⟨63, 1, .ro, 0⟩]
def SHF_ECC_CE_fields : List FieldDef :=
  [⟨0, 48, .ro, 0⟩, ⟨63, 1, .ro, 0⟩]
def SHF_ECC_UE_fields : List FieldDef :=
  [⟨0, 48, .ro, 0⟩, ⟨63, 1, .ro, 0⟩]
def CLU_DRW_ERR_LOG_fields : List FieldDef :=
  [⟨0, 21, .ro, 0⟩, ⟨21, 1, .ro, 0⟩, ⟨22, 1, .ro, 0⟩, ⟨63, 1, .w1c, 0⟩]
def SHF_DIMM_fields : List FieldDef :=
  [⟨0, 1, .ro, 0⟩, ⟨1, 1, .ro, 0⟩, ⟨2, 1, .ro, 0⟩, ⟨3, 2, .ro, 0⟩]
def SHF_CLR_fields : List FieldDef :=
  [⟨0, 1, .wo, 0⟩, ⟨1, 1, .wo, 0⟩]
def SHF_ERR_LOG_fields : List FieldDef :=
  [⟨0, 32, .ro, 0⟩, ⟨32, 4, .ro, 0⟩, ⟨36, 1, .ro, 0⟩, ⟨37, 1, .ro, 0⟩, ⟨63, 1, .w1c, 0⟩]
def SHF_GLB_CFG_fields : List FieldDef :=
  [⟨0, 1, .ro, 0⟩, ⟨8, 8, .rw, 0x18⟩]
def table08_0 : List RegDef := [
  ⟨0x01006008, 0x10000, 36, 4, CLU_DRW_CLR_fields⟩,
  ⟨0x0100600C, 0x10000, 36, 4, CLU_DRW_LEFT_fields⟩,
  ⟨0x0210000C, 0x1000, 16, 4, SHF_LEFT_fields⟩,
  ⟨0x01006010, 0x10000, 36, 8, CLU_DRW_ECC_CE_fields⟩,
  ⟨0x01006018, 0x10000, 36, 8, CLU_DRW_ECC_UE_fields⟩,
  ⟨0x02100010, 0x1000, 16, 8, SHF_ECC_CE_fields⟩,
  ⟨0x02100018, 0x1000, 16, 8, SHF_ECC_UE_fields⟩,
  ⟨0x01006020, 0x10000, 36, 8, CLU_DRW_ERR_LOG_fields⟩,
  ⟨0x02100008, 0x1000, 16, 4, SHF_DIMM_fields⟩,
  ⟨0x02100028, 0x1000, 16, 4, SHF_CLR_fields⟩,
  ⟨0x02100020, 0x1000, 16, 8, SHF_ERR_LOG_fields⟩,
  ⟨0x02110000, 0x0, 1, 4, SHF_GLB_CFG_fields⟩]
def LNK_RT_CFG_fields : List FieldDef :=
  [⟨0, 2, .ro, 0⟩, ⟨2, 2, .ro, 1⟩, ⟨4, 2, .ro, 2⟩, ⟨6, 2, .ro, 3⟩]
def LNK_VCPAIR_fields : List FieldDef :=
  [⟨3, 3, .ro, 1⟩, ⟨6, 3, .ro, 2⟩, ⟨9, 3, .ro, 3⟩, ⟨12, 3, .ro, 4⟩, ⟨15, 3, .ro, 5⟩, ⟨18, 3, .ro, 6⟩, ⟨21, 3, .ro, 7⟩]
def LNK_RT_CLR_fields : List FieldDef :=
  [⟨0, 9, .wo, 0⟩]
def LNK_RT_COUNTER_fields : List FieldDef :=
  [⟨0, 48, .ro, 0⟩, ⟨63, 1, .ro, 0⟩]
def LNK_DROP_LOG_fields : List FieldDef :=
  [⟨0, 24, .ro, 0⟩, ⟨24, 9, .ro, 0⟩, ⟨33, 5, .ro, 0⟩, ⟨38, 4, .ro, 0⟩, ⟨42, 1, .ro, 0⟩, ⟨63, 1, .w1c, 0⟩]
def LNK_ROUTE_W_fields : List FieldDef :=
  [⟨0, 4, .ro, 0⟩, ⟨4, 1, .ro, 0⟩, ⟨5, 1, .ro, 0⟩, ⟨6, 6, .ro, 0⟩, ⟨12, 6, .ro, 0⟩, ⟨18, 6, .ro, 0⟩, ⟨31, 1, .ro, 0⟩]
def LNK_ROUTE_X_fields : List FieldDef :=
  [⟨0, 4, .ro, 0⟩, ⟨4, 1, .ro, 0⟩, ⟨5, 1, .ro, 0⟩, ⟨6, 6, .ro, 0⟩, ⟨12, 6, .ro, 0⟩, ⟨18, 6, .ro, 0⟩, ⟨31, 1, .ro, 0⟩]
def LNK_ROUTE_Y_fields : List FieldDef :=
  [⟨0, 4, .ro, 0⟩, ⟨4, 1, .ro, 0⟩, ⟨5, 1, .ro, 0⟩, ⟨6, 6, .ro, 0⟩, ⟨12, 6, .ro, 0⟩, ⟨18, 6, .ro, 0⟩, ⟨31, 1, .ro, 0⟩]
def LNK_ROUTE_Z_fields : List FieldDef :=
  [⟨0, 4, .ro, 0⟩, ⟨4, 1, .ro, 0⟩, ⟨5, 1, .ro, 0⟩, ⟨6, 6, .ro, 0⟩, ⟨12, 6, .ro, 0⟩, ⟨18, 6, .ro, 0⟩, ⟨31, 1, .ro, 0⟩]
def LNK_FENCE_fields : List FieldDef :=
  [⟨0, 24, .rw, 0⟩, ⟨31, 1, .rw, 0⟩]
def LNK_FENCE_STATUS_fields : List FieldDef :=
  [⟨0, 7, .ro, 0⟩, ⟨7, 1, .ro, 0⟩]
def LNK_MCAST_fields : List FieldDef :=
  [⟨0, 16, .ro, 0⟩, ⟨16, 16, .rw, 0⟩, ⟨32, 16, .ro, 0⟩, ⟨48, 1, .ro, 0⟩, ⟨63, 1, .ro, 0⟩]
def table09_0 : List RegDef := [
  ⟨0x02040000, 0x0, 1, 4, LNK_RT_CFG_fields⟩,
  ⟨0x02040004, 0x0, 1, 4, LNK_VCPAIR_fields⟩,
  ⟨0x02040008, 0x0, 1, 4, LNK_RT_CLR_fields⟩,
  ⟨0x02040040, 0x8, 9, 8, LNK_RT_COUNTER_fields⟩,
  ⟨0x02040100, 0x0, 1, 8, LNK_DROP_LOG_fields⟩,
  ⟨0x02050000, 0x4, 16, 4, LNK_ROUTE_W_fields⟩,
  ⟨0x02050040, 0x4, 16, 4, LNK_ROUTE_X_fields⟩,
  ⟨0x02050400, 0x4, 256, 4, LNK_ROUTE_Y_fields⟩,
  ⟨0x02050800, 0x4, 256, 4, LNK_ROUTE_Z_fields⟩,
  ⟨0x02050C00, 0x4, 64, 4, LNK_FENCE_fields⟩,
  ⟨0x02050D00, 0x0, 1, 4, LNK_FENCE_STATUS_fields⟩,
  ⟨0x02060000, 0x8, 4096, 8, LNK_MCAST_fields⟩]
def LNK_STATE_fields : List FieldDef :=
  [⟨0, 3, .ro, 0⟩, ⟨4, 4, .ro, 0⟩, ⟨8, 4, .ro, 0⟩, ⟨12, 8, .ro, 0⟩, ⟨20, 4, .ro, 0⟩, ⟨24, 1, .ro, 0⟩]
def LNK_CTRL_fields : List FieldDef :=
  [⟨0, 1, .rw, 0⟩, ⟨1, 1, .wo, 0⟩, ⟨8, 8, .wo, 0⟩]
def LNK_RTT_fields : List FieldDef :=
  [⟨0, 16, .ro, 0⟩, ⟨31, 1, .ro, 0⟩]
def LNK_EXP_SERIAL_fields : List FieldDef :=
  [⟨0, 64, .ro, 0⟩]
def LNK_PEER_SERIAL_fields : List FieldDef :=
  [⟨0, 64, .ro, 0⟩]
def LNK_PEER_INFO_fields : List FieldDef :=
  [⟨0, 6, .ro, 0⟩, ⟨6, 4, .ro, 0⟩, ⟨10, 8, .ro, 0⟩, ⟨18, 16, .ro, 0⟩, ⟨34, 24, .ro, 0⟩, ⟨63, 1, .ro, 0⟩]
def LNK_COUNTER_fields : List FieldDef :=
  [⟨0, 48, .ro, 0⟩, ⟨63, 1, .ro, 0⟩]
def LNK_PORT_MEMBERS_fields : List FieldDef :=
  [⟨0, 36, .ro, 0⟩]
def LNK_PORT_CFG_fields : List FieldDef :=
  [⟨0, 4, .ro, 0⟩, ⟨8, 6, .ro, 0⟩, ⟨31, 1, .ro, 0⟩]
def LNK_SERIAL_fields : List FieldDef :=
  [⟨0, 64, .ro, 0⟩]
def LNK_DISC_ORIGIN_fields : List FieldDef :=
  [⟨0, 64, .ro, 0⟩]
def LNK_DISC_fields : List FieldDef :=
  [⟨0, 24, .ro, 0⟩, ⟨24, 1, .ro, 0⟩, ⟨25, 3, .ro, 0⟩, ⟨28, 1, .ro, 0⟩, ⟨32, 10, .ro, 0⟩]
def LNK_COORD_fields : List FieldDef :=
  [⟨0, 24, .ro, 0⟩, ⟨31, 1, .ro, 0⟩]
def LNK_DISC_CFG_fields : List FieldDef :=
  [⟨0, 8, .rw, 0x32⟩, ⟨8, 1, .rw, 0⟩, ⟨9, 1, .rw, 0⟩, ⟨10, 1, .rw, 0⟩]
def table10_0 : List RegDef := [
  ⟨0x02000008, 0x1000, 36, 4, LNK_STATE_fields⟩,
  ⟨0x0200000C, 0x1000, 36, 4, LNK_CTRL_fields⟩,
  ⟨0x02000010, 0, 1, 4, [⟨0, 4, .ro, 1⟩, ⟨4, 4, .ro, 0⟩, ⟨8, 1, .ro, 0⟩, ⟨9, 6, .ro, 0⟩, ⟨15, 1, .ro, 0⟩]⟩,
  ⟨0x02001010, 0, 1, 4, [⟨0, 4, .ro, 1⟩, ⟨4, 4, .ro, 0⟩, ⟨8, 1, .ro, 0⟩, ⟨9, 6, .ro, 0⟩, ⟨15, 1, .ro, 0⟩]⟩,
  ⟨0x02002010, 0, 1, 4, [⟨0, 4, .ro, 1⟩, ⟨4, 4, .ro, 0⟩, ⟨8, 1, .ro, 0⟩, ⟨9, 6, .ro, 0⟩, ⟨15, 1, .ro, 0⟩]⟩,
  ⟨0x02003010, 0, 1, 4, [⟨0, 4, .ro, 1⟩, ⟨4, 4, .ro, 0⟩, ⟨8, 1, .ro, 0⟩, ⟨9, 6, .ro, 0⟩, ⟨15, 1, .ro, 0⟩]⟩,
  ⟨0x02004010, 0, 1, 4, [⟨0, 4, .ro, 1⟩, ⟨4, 4, .ro, 0⟩, ⟨8, 1, .ro, 0⟩, ⟨9, 6, .ro, 0⟩, ⟨15, 1, .ro, 0⟩]⟩,
  ⟨0x02005010, 0, 1, 4, [⟨0, 4, .ro, 2⟩, ⟨4, 4, .ro, 0⟩, ⟨8, 1, .ro, 0⟩, ⟨9, 6, .ro, 0⟩, ⟨15, 1, .ro, 0⟩]⟩,
  ⟨0x02006010, 0, 1, 4, [⟨0, 4, .ro, 2⟩, ⟨4, 4, .ro, 0⟩, ⟨8, 1, .ro, 0⟩, ⟨9, 6, .ro, 0⟩, ⟨15, 1, .ro, 0⟩]⟩,
  ⟨0x02007010, 0, 1, 4, [⟨0, 4, .ro, 3⟩, ⟨4, 4, .ro, 0⟩, ⟨8, 1, .ro, 0⟩, ⟨9, 6, .ro, 0⟩, ⟨15, 1, .ro, 0⟩]⟩,
  ⟨0x02008010, 0, 1, 4, [⟨0, 4, .ro, 4⟩, ⟨4, 4, .ro, 0⟩, ⟨8, 1, .ro, 0⟩, ⟨9, 6, .ro, 0⟩, ⟨15, 1, .ro, 0⟩]⟩,
  ⟨0x02009010, 0, 1, 4, [⟨0, 4, .ro, 5⟩, ⟨4, 4, .ro, 0⟩, ⟨8, 1, .ro, 0⟩, ⟨9, 6, .ro, 0⟩, ⟨15, 1, .ro, 0⟩]⟩,
  ⟨0x0200A010, 0, 1, 4, [⟨0, 4, .ro, 6⟩, ⟨4, 4, .ro, 0⟩, ⟨8, 1, .ro, 0⟩, ⟨9, 6, .ro, 0⟩, ⟨15, 1, .ro, 0⟩]⟩,
  ⟨0x0200B010, 0, 1, 4, [⟨0, 4, .ro, 7⟩, ⟨4, 4, .ro, 0⟩, ⟨8, 1, .ro, 0⟩, ⟨9, 6, .ro, 0⟩, ⟨15, 1, .ro, 0⟩]⟩,
  ⟨0x0200C010, 0, 1, 4, [⟨0, 4, .ro, 1⟩, ⟨4, 4, .ro, 0⟩, ⟨8, 1, .ro, 0⟩, ⟨9, 6, .ro, 0⟩, ⟨15, 1, .ro, 0⟩]⟩,
  ⟨0x0200D010, 0, 1, 4, [⟨0, 4, .ro, 1⟩, ⟨4, 4, .ro, 0⟩, ⟨8, 1, .ro, 0⟩, ⟨9, 6, .ro, 0⟩, ⟨15, 1, .ro, 0⟩]⟩,
  ⟨0x0200E010, 0, 1, 4, [⟨0, 4, .ro, 1⟩, ⟨4, 4, .ro, 0⟩, ⟨8, 1, .ro, 0⟩, ⟨9, 6, .ro, 0⟩, ⟨15, 1, .ro, 0⟩]⟩,
  ⟨0x0200F010, 0, 1, 4, [⟨0, 4, .ro, 1⟩, ⟨4, 4, .ro, 0⟩, ⟨8, 1, .ro, 0⟩, ⟨9, 6, .ro, 0⟩, ⟨15, 1, .ro, 0⟩]⟩,
  ⟨0x02010010, 0, 1, 4, [⟨0, 4, .ro, 1⟩, ⟨4, 4, .ro, 0⟩, ⟨8, 1, .ro, 0⟩, ⟨9, 6, .ro, 0⟩, ⟨15, 1, .ro, 0⟩]⟩,
  ⟨0x02011010, 0, 1, 4, [⟨0, 4, .ro, 2⟩, ⟨4, 4, .ro, 0⟩, ⟨8, 1, .ro, 0⟩, ⟨9, 6, .ro, 0⟩, ⟨15, 1, .ro, 0⟩]⟩,
  ⟨0x02012010, 0, 1, 4, [⟨0, 4, .ro, 3⟩, ⟨4, 4, .ro, 0⟩, ⟨8, 1, .ro, 0⟩, ⟨9, 6, .ro, 0⟩, ⟨15, 1, .ro, 0⟩]⟩,
  ⟨0x02013010, 0, 1, 4, [⟨0, 4, .ro, 3⟩, ⟨4, 4, .ro, 0⟩, ⟨8, 1, .ro, 0⟩, ⟨9, 6, .ro, 0⟩, ⟨15, 1, .ro, 0⟩]⟩,
  ⟨0x02014010, 0, 1, 4, [⟨0, 4, .ro, 4⟩, ⟨4, 4, .ro, 0⟩, ⟨8, 1, .ro, 0⟩, ⟨9, 6, .ro, 0⟩, ⟨15, 1, .ro, 0⟩]⟩,
  ⟨0x02015010, 0, 1, 4, [⟨0, 4, .ro, 5⟩, ⟨4, 4, .ro, 0⟩, ⟨8, 1, .ro, 0⟩, ⟨9, 6, .ro, 0⟩, ⟨15, 1, .ro, 0⟩]⟩,
  ⟨0x02016010, 0, 1, 4, [⟨0, 4, .ro, 5⟩, ⟨4, 4, .ro, 0⟩, ⟨8, 1, .ro, 0⟩, ⟨9, 6, .ro, 0⟩, ⟨15, 1, .ro, 0⟩]⟩,
  ⟨0x02017010, 0, 1, 4, [⟨0, 4, .ro, 7⟩, ⟨4, 4, .ro, 0⟩, ⟨8, 1, .ro, 0⟩, ⟨9, 6, .ro, 0⟩, ⟨15, 1, .ro, 0⟩]⟩,
  ⟨0x02018010, 0, 1, 4, [⟨0, 4, .ro, 1⟩, ⟨4, 4, .ro, 0⟩, ⟨8, 1, .ro, 0⟩, ⟨9, 6, .ro, 0⟩, ⟨15, 1, .ro, 0⟩]⟩,
  ⟨0x02019010, 0, 1, 4, [⟨0, 4, .ro, 1⟩, ⟨4, 4, .ro, 0⟩, ⟨8, 1, .ro, 0⟩, ⟨9, 6, .ro, 0⟩, ⟨15, 1, .ro, 0⟩]⟩,
  ⟨0x0201A010, 0, 1, 4, [⟨0, 4, .ro, 1⟩, ⟨4, 4, .ro, 0⟩, ⟨8, 1, .ro, 0⟩, ⟨9, 6, .ro, 0⟩, ⟨15, 1, .ro, 0⟩]⟩,
  ⟨0x0201B010, 0, 1, 4, [⟨0, 4, .ro, 1⟩, ⟨4, 4, .ro, 0⟩, ⟨8, 1, .ro, 0⟩, ⟨9, 6, .ro, 0⟩, ⟨15, 1, .ro, 0⟩]⟩,
  ⟨0x0201C010, 0, 1, 4, [⟨0, 4, .ro, 1⟩, ⟨4, 4, .ro, 0⟩, ⟨8, 1, .ro, 0⟩, ⟨9, 6, .ro, 0⟩, ⟨15, 1, .ro, 0⟩]⟩,
  ⟨0x0201D010, 0, 1, 4, [⟨0, 4, .ro, 2⟩, ⟨4, 4, .ro, 0⟩, ⟨8, 1, .ro, 0⟩, ⟨9, 6, .ro, 0⟩, ⟨15, 1, .ro, 0⟩]⟩,
  ⟨0x0201E010, 0, 1, 4, [⟨0, 4, .ro, 3⟩, ⟨4, 4, .ro, 0⟩, ⟨8, 1, .ro, 0⟩, ⟨9, 6, .ro, 0⟩, ⟨15, 1, .ro, 0⟩]⟩,
  ⟨0x0201F010, 0, 1, 4, [⟨0, 4, .ro, 4⟩, ⟨4, 4, .ro, 0⟩, ⟨8, 1, .ro, 0⟩, ⟨9, 6, .ro, 0⟩, ⟨15, 1, .ro, 0⟩]⟩,
  ⟨0x02020010, 0, 1, 4, [⟨0, 4, .ro, 4⟩, ⟨4, 4, .ro, 0⟩, ⟨8, 1, .ro, 0⟩, ⟨9, 6, .ro, 0⟩, ⟨15, 1, .ro, 0⟩]⟩,
  ⟨0x02021010, 0, 1, 4, [⟨0, 4, .ro, 5⟩, ⟨4, 4, .ro, 0⟩, ⟨8, 1, .ro, 0⟩, ⟨9, 6, .ro, 0⟩, ⟨15, 1, .ro, 0⟩]⟩,
  ⟨0x02022010, 0, 1, 4, [⟨0, 4, .ro, 6⟩, ⟨4, 4, .ro, 0⟩, ⟨8, 1, .ro, 0⟩, ⟨9, 6, .ro, 0⟩, ⟨15, 1, .ro, 0⟩]⟩,
  ⟨0x02023010, 0, 1, 4, [⟨0, 4, .ro, 8⟩, ⟨4, 4, .ro, 0⟩, ⟨8, 1, .ro, 0⟩, ⟨9, 6, .ro, 0⟩, ⟨15, 1, .ro, 0⟩]⟩,
  ⟨0x02000014, 0x1000, 36, 4, LNK_RTT_fields⟩,
  ⟨0x02000018, 0x1000, 36, 8, LNK_EXP_SERIAL_fields⟩]
def table10_1 : List RegDef := [
  ⟨0x02000020, 0x1000, 36, 8, LNK_PEER_SERIAL_fields⟩,
  ⟨0x02000028, 0x1000, 36, 8, LNK_PEER_INFO_fields⟩,
  ⟨0x02000040, 0x1000, 36, 8, LNK_COUNTER_fields⟩,
  ⟨0x02000048, 0x1000, 36, 8, LNK_COUNTER_fields⟩,
  ⟨0x02000050, 0x1000, 36, 8, LNK_COUNTER_fields⟩,
  ⟨0x02000058, 0x1000, 36, 8, LNK_COUNTER_fields⟩,
  ⟨0x02000060, 0x1000, 36, 8, LNK_COUNTER_fields⟩,
  ⟨0x02000068, 0x1000, 36, 8, LNK_COUNTER_fields⟩,
  ⟨0x02000070, 0x1000, 36, 8, LNK_COUNTER_fields⟩,
  ⟨0x02000078, 0x1000, 36, 8, LNK_COUNTER_fields⟩,
  ⟨0x02030000, 0x10, 16, 8, LNK_PORT_MEMBERS_fields⟩,
  ⟨0x02030008, 0x10, 16, 4, LNK_PORT_CFG_fields⟩,
  ⟨0x02031000, 0x0, 1, 8, LNK_SERIAL_fields⟩,
  ⟨0x02031010, 0x0, 1, 8, LNK_DISC_ORIGIN_fields⟩,
  ⟨0x02031008, 0x0, 1, 8, LNK_DISC_fields⟩,
  ⟨0x02031018, 0x0, 1, 4, LNK_COORD_fields⟩,
  ⟨0x0203101C, 0x0, 1, 4, LNK_DISC_CFG_fields⟩]
def VSY_GROUP_fields : List FieldDef :=
  [⟨0, 1, .ro, 0⟩, ⟨1, 3, .ro, 0⟩, ⟨4, 1, .ro, 0⟩, ⟨5, 1, .ro, 0⟩, ⟨6, 1, .ro, 0⟩, ⟨7, 1, .ro, 0⟩, ⟨8, 12, .ro, 0⟩, ⟨20, 3, .ro, 0⟩, ⟨23, 2, .ro, 0⟩, ⟨32, 16, .ro, 0⟩, ⟨48, 16, .ro, 0⟩, ⟨64, 32, .ro, 0⟩, ⟨128, 2, .ro, 0⟩, ⟨160, 2, .ro, 0⟩, ⟨192, 2, .ro, 0⟩, ⟨224, 2, .ro, 0⟩, ⟨130, 1, .ro, 0⟩, ⟨162, 1, .ro, 0⟩, ⟨194, 1, .ro, 0⟩, ⟨226, 1, .ro, 0⟩, ⟨132, 8, .ro, 0⟩, ⟨164, 8, .ro, 0⟩, ⟨196, 8, .ro, 0⟩, ⟨228, 8, .ro, 0⟩, ⟨140, 8, .ro, 0⟩, ⟨172, 8, .ro, 0⟩, ⟨204, 8, .ro, 0⟩, ⟨236, 8, .ro, 0⟩, ⟨148, 8, .ro, 0⟩, ⟨180, 8, .ro, 0⟩, ⟨212, 8, .ro, 0⟩, ⟨244, 8, .ro, 0⟩]
def VSY_DESC_fields : List FieldDef :=
  [⟨0, 1, .ro, 0⟩, ⟨1, 3, .ro, 0⟩, ⟨4, 3, .ro, 0⟩, ⟨7, 2, .ro, 0⟩, ⟨9, 1, .ro, 0⟩, ⟨10, 3, .ro, 0⟩, ⟨13, 10, .ro, 0⟩, ⟨23, 5, .ro, 0⟩, ⟨28, 2, .ro, 0⟩, ⟨32, 32, .ro, 0⟩, ⟨64, 8, .ro, 0⟩, ⟨72, 24, .ro, 0⟩, ⟨96, 16, .ro, 0⟩, ⟨112, 16, .ro, 0⟩, ⟨128, 12, .ro, 0⟩, ⟨160, 32, .ro, 0⟩, ⟨192, 32, .ro, 0⟩, ⟨224, 2, .ro, 0⟩]
def GLB_MODE_fields : List FieldDef :=
  [⟨0, 2, .rw, 0⟩]
def GLB_STEP_CSEQ_fields : List FieldDef :=
  [⟨0, 32, .ro, 0⟩]
def VSY_COLL_CFG_fields : List FieldDef :=
  [⟨0, 8, .rw, 0x14⟩, ⟨8, 16, .rw, 0x980⟩, ⟨24, 8, .rw, 0x98⟩]
def VSY_FAIL_DECLARE_fields : List FieldDef :=
  [⟨0, 24, .wo, 0⟩, ⟨31, 1, .wo, 0⟩]
def VSY_FAIL_LOG_fields : List FieldDef :=
  [⟨0, 24, .ro, 0⟩, ⟨24, 2, .ro, 0⟩, ⟨26, 1, .ro, 0⟩, ⟨27, 1, .ro, 0⟩, ⟨63, 1, .ro, 0⟩]
def VSY_CNT_CLR_fields : List FieldDef :=
  [⟨0, 5, .wo, 0⟩]
def VSY_CNT_fields : List FieldDef :=
  [⟨0, 48, .ro, 0⟩, ⟨63, 1, .ro, 0⟩]
def VSY_ABORT_LOG_fields : List FieldDef :=
  [⟨0, 12, .ro, 0⟩, ⟨12, 2, .ro, 0⟩, ⟨16, 24, .ro, 0⟩, ⟨40, 16, .ro, 0⟩, ⟨63, 1, .w1c, 0⟩]
def VSY_LAG_CFG_fields : List FieldDef :=
  [⟨0, 10, .rw, 0⟩, ⟨10, 1, .rw, 0⟩, ⟨11, 14, .rw, 0⟩, ⟨25, 1, .wo, 0⟩]
def VSY_LAGGARD_fields : List FieldDef :=
  [⟨0, 24, .ro, 0⟩, ⟨24, 24, .ro, 0⟩, ⟨63, 1, .ro, 0⟩]
def VSY_LAG_LAST_fields : List FieldDef :=
  [⟨0, 48, .ro, 0⟩, ⟨63, 1, .ro, 0⟩]
def VSY_LAG_SUM_fields : List FieldDef :=
  [⟨0, 48, .ro, 0⟩, ⟨63, 1, .ro, 0⟩]
def table11_0 : List RegDef := [
  ⟨0x02260000, 0x40, 1024, 64, VSY_GROUP_fields⟩,
  ⟨0x02280000, 0x40, 4096, 64, VSY_DESC_fields⟩,
  ⟨0x00000010, 0x0, 1, 4, GLB_MODE_fields⟩,
  ⟨0x00000238, 0x40, 8, 4, GLB_STEP_CSEQ_fields⟩,
  ⟨0x02240000, 0x0, 1, 4, VSY_COLL_CFG_fields⟩,
  ⟨0x02240008, 0x0, 1, 4, VSY_FAIL_DECLARE_fields⟩,
  ⟨0x02240010, 0x8, 4, 8, VSY_FAIL_LOG_fields⟩,
  ⟨0x02240038, 0x0, 1, 4, VSY_CNT_CLR_fields⟩,
  ⟨0x02240040, 0x8, 5, 8, VSY_CNT_fields⟩,
  ⟨0x02240080, 0x0, 1, 8, VSY_ABORT_LOG_fields⟩,
  ⟨0x02240100, 0x0, 1, 4, VSY_LAG_CFG_fields⟩,
  ⟨0x02240108, 0x0, 1, 8, VSY_LAGGARD_fields⟩,
  ⟨0x02270000, 0x10, 1024, 8, VSY_LAG_LAST_fields⟩,
  ⟨0x02270008, 0x10, 1024, 8, VSY_LAG_SUM_fields⟩]
def VSY_BUCKET_fields : List FieldDef :=
  [⟨0, 4, .ro, 0⟩, ⟨4, 1, .ro, 0⟩, ⟨5, 1, .ro, 0⟩, ⟨6, 1, .ro, 0⟩, ⟨8, 12, .ro, 0⟩, ⟨20, 12, .ro, 0⟩, ⟨32, 12, .ro, 0⟩, ⟨44, 12, .ro, 0⟩, ⟨64, 32, .ro, 0⟩, ⟨96, 16, .ro, 0⟩]
def VSY_BKT_STAT_fields : List FieldDef :=
  [⟨0, 1, .ro, 0⟩, ⟨1, 1, .ro, 0⟩, ⟨2, 1, .ro, 0⟩, ⟨16, 16, .ro, 0⟩]
def VSY_GRAD_CFG_fields : List FieldDef :=
  [⟨0, 5, .rw, 0xC⟩]
def VSY_GRAD_CLR_fields : List FieldDef :=
  [⟨0, 3, .wo, 0⟩]
def VSY_GRAD_CNT_fields : List FieldDef :=
  [⟨0, 48, .ro, 0⟩, ⟨63, 1, .ro, 0⟩]
def VSY_CHK_LOG_fields : List FieldDef :=
  [⟨0, 32, .ro, 0⟩, ⟨32, 12, .ro, 0⟩, ⟨44, 3, .ro, 0⟩, ⟨63, 1, .w1c, 0⟩]
def VSY_CHK_VAL_fields : List FieldDef :=
  [⟨0, 32, .ro, 0⟩, ⟨32, 32, .ro, 0⟩]
def VSY_FIRST_NAN_fields : List FieldDef :=
  [⟨0, 32, .ro, 0⟩, ⟨32, 12, .ro, 0⟩, ⟨63, 1, .w1c, 0⟩]
def table12_0 : List RegDef := [
  ⟨0x022C0000, 0x20, 4096, 32, VSY_BUCKET_fields⟩,
  ⟨0x022E0000, 0x4, 4096, 4, VSY_BKT_STAT_fields⟩,
  ⟨0x02250000, 0x0, 1, 4, VSY_GRAD_CFG_fields⟩,
  ⟨0x02250008, 0x0, 1, 4, VSY_GRAD_CLR_fields⟩,
  ⟨0x02250040, 0x8, 3, 8, VSY_GRAD_CNT_fields⟩,
  ⟨0x02250080, 0x0, 1, 8, VSY_CHK_LOG_fields⟩,
  ⟨0x02250088, 0x0, 1, 8, VSY_CHK_VAL_fields⟩,
  ⟨0x02250100, 0x8, 8, 8, VSY_FIRST_NAN_fields⟩]
def GLB_PLAN_ADDR_fields : List FieldDef :=
  [⟨6, 42, .rw, 0⟩]
def GLB_PLAN_CTRL_fields : List FieldDef :=
  [⟨0, 1, .wo, 0⟩, ⟨1, 1, .wo, 0⟩, ⟨2, 1, .rw, 1⟩, ⟨3, 1, .rw, 0⟩, ⟨8, 8, .rw, 0⟩]
def GLB_PLAN_STATUS_fields : List FieldDef :=
  [⟨0, 2, .ro, 0⟩, ⟨2, 1, .ro, 0⟩, ⟨3, 1, .w1c, 0⟩, ⟨4, 1, .w1c, 0⟩, ⟨8, 2, .ro, 0⟩, ⟨16, 16, .ro, 0⟩]
def GLB_PLAN_FAULT_fields : List FieldDef :=
  [⟨0, 32, .ro, 0⟩, ⟨32, 8, .ro, 0⟩, ⟨40, 8, .ro, 0⟩]
def GLB_PLAN_HASH_fields : List FieldDef :=
  [⟨0, 32, .ro, 0⟩]
def GLB_SET_fields : List FieldDef :=
  [⟨0, 16, .ro, 0⟩, ⟨16, 16, .ro, 0⟩, ⟨32, 16, .ro, 0⟩, ⟨48, 16, .ro, 0⟩, ⟨64, 16, .ro, 0⟩, ⟨80, 16, .ro, 0⟩, ⟨96, 16, .ro, 0⟩, ⟨128, 16, .ro, 0⟩, ⟨144, 16, .ro, 0⟩, ⟨160, 16, .ro, 0⟩, ⟨176, 16, .ro, 0⟩, ⟨192, 16, .ro, 0⟩, ⟨208, 16, .ro, 0⟩, ⟨224, 16, .ro, 0⟩, ⟨240, 16, .ro, 0⟩, ⟨256, 16, .ro, 0⟩, ⟨272, 16, .ro, 0⟩, ⟨288, 16, .ro, 0⟩, ⟨304, 16, .ro, 0⟩, ⟨320, 16, .ro, 0⟩, ⟨336, 16, .ro, 0⟩, ⟨352, 16, .ro, 0⟩, ⟨368, 16, .ro, 0⟩, ⟨384, 16, .ro, 0⟩, ⟨400, 16, .ro, 0⟩, ⟨416, 16, .ro, 0⟩, ⟨432, 16, .ro, 0⟩, ⟨448, 16, .ro, 0⟩, ⟨464, 16, .ro, 0⟩, ⟨480, 16, .ro, 0⟩, ⟨496, 16, .ro, 0⟩, ⟨512, 16, .ro, 0⟩, ⟨528, 16, .ro, 0⟩, ⟨544, 16, .ro, 0⟩, ⟨560, 16, .ro, 0⟩, ⟨576, 16, .ro, 0⟩, ⟨592, 16, .ro, 0⟩, ⟨608, 16, .ro, 0⟩, ⟨624, 16, .ro, 0⟩]
def GLB_BUDGET_SET_fields : List FieldDef :=
  [⟨0, 2, .rw, 0⟩, ⟨4, 2, .ro, 0⟩, ⟨8, 1, .ro, 0⟩, ⟨12, 1, .w1c, 0⟩, ⟨16, 16, .ro, 0⟩]
def table13_0 : List RegDef := [
  ⟨0x00000040, 0x0, 1, 8, GLB_PLAN_ADDR_fields⟩,
  ⟨0x00000048, 0x0, 1, 4, GLB_PLAN_CTRL_fields⟩,
  ⟨0x0000004C, 0x0, 1, 4, GLB_PLAN_STATUS_fields⟩,
  ⟨0x00000050, 0x0, 1, 8, GLB_PLAN_FAULT_fields⟩,
  ⟨0x00000060, 0x4, 8, 4, GLB_PLAN_HASH_fields⟩,
  ⟨0x00001000, 0x50, 32, 80, GLB_SET_fields⟩,
  ⟨0x00000020, 0x0, 1, 4, GLB_BUDGET_SET_fields⟩]
def HST_CMD_BASE_fields : List FieldDef :=
  [⟨6, 58, .rw, 0⟩]
def HST_CPL_BASE_fields : List FieldDef :=
  [⟨6, 58, .rw, 0⟩]
def HST_TQ_BASE_fields : List FieldDef :=
  [⟨6, 58, .rw, 0⟩]
def HST_TQ_SHADOW_fields : List FieldDef :=
  [⟨2, 62, .rw, 0⟩]
def HST_CMD_CFG_fields : List FieldDef :=
  [⟨0, 5, .rw, 4⟩, ⟨8, 6, .rw, 0⟩]
def HST_CMD_PTR_fields : List FieldDef :=
  [⟨0, 16, .rw, 0⟩, ⟨16, 16, .ro, 0⟩]
def HST_CMD_SEQ_ACCEPTED_fields : List FieldDef :=
  [⟨0, 32, .ro, 0xFFFFFFFF⟩]
def HST_CMD_SEQ_NEXT_fields : List FieldDef :=
  [⟨0, 32, .rw, 0⟩]
def HST_CMD_CTRL_fields : List FieldDef :=
  [⟨0, 1, .rw, 0⟩, ⟨1, 1, .wo, 0⟩, ⟨2, 1, .wo, 0⟩]
def HST_CMD_STATUS_fields : List FieldDef :=
  [⟨0, 1, .ro, 1⟩, ⟨1, 1, .w1c, 0⟩, ⟨2, 1, .w1c, 0⟩, ⟨8, 7, .ro, 0⟩]
def HST_CPL_CFG_fields : List FieldDef :=
  [⟨0, 5, .rw, 4⟩, ⟨5, 1, .rw, 0⟩, ⟨8, 8, .rw, 0⟩, ⟨16, 8, .rw, 1⟩, ⟨24, 8, .rw, 0⟩]
def HST_CPL_PTR_fields : List FieldDef :=
  [⟨0, 16, .rw, 0⟩, ⟨16, 16, .ro, 0⟩]
def HST_CPL_SEQ_POSTED_fields : List FieldDef :=
  [⟨0, 32, .ro, 0xFFFFFFFF⟩]
def HST_CPL_SEQ_NEXT_fields : List FieldDef :=
  [⟨0, 32, .rw, 0⟩]
def HST_TQ_CFG_fields : List FieldDef :=
  [⟨0, 5, .rw, 0⟩, ⟨5, 1, .rw, 0⟩, ⟨6, 1, .rw, 0⟩, ⟨7, 1, .rw, 0⟩, ⟨8, 4, .rw, 0⟩, ⟨16, 8, .rw, 0⟩]
def HST_TQ_SLOT_fields : List FieldDef :=
  [⟨0, 10, .rw, 0x201⟩]
def HST_TQ_PTR_fields : List FieldDef :=
  [⟨0, 16, .rw, 0⟩, ⟨16, 16, .ro, 0⟩]
def HST_TQ_ALIVE_fields : List FieldDef :=
  [⟨0, 32, .rw, 0⟩]
def HST_TQ_STATUS_fields : List FieldDef :=
  [⟨0, 1, .w1c, 0⟩, ⟨1, 2, .ro, 0⟩, ⟨3, 1, .w1c, 0⟩, ⟨4, 1, .w1c, 0⟩]
def HST_TQ_REPEATS_fields : List FieldDef :=
  [⟨0, 48, .rc, 0⟩, ⟨63, 1, .rc, 0⟩]
def HST_BAR4_WIN_fields : List FieldDef :=
  [⟨0, 12, .rw, 0⟩]
def HST_LINK_fields : List FieldDef :=
  [⟨0, 3, .ro, 0⟩, ⟨3, 5, .ro, 0⟩, ⟨8, 1, .ro, 0⟩]
def HST_RESET_CFG_fields : List FieldDef :=
  [⟨0, 1, .rw, 0⟩]
def table14_0 : List RegDef := [
  ⟨0x00100000, 0x40, 64, 8, HST_CMD_BASE_fields⟩,
  ⟨0x00101000, 0x40, 64, 8, HST_CPL_BASE_fields⟩,
  ⟨0x00102000, 0x40, 64, 8, HST_TQ_BASE_fields⟩,
  ⟨0x00102020, 0x40, 64, 8, HST_TQ_SHADOW_fields⟩,
  ⟨0x00100008, 0x40, 64, 4, HST_CMD_CFG_fields⟩,
  ⟨0x0010000C, 0x40, 64, 4, HST_CMD_PTR_fields⟩,
  ⟨0x00100010, 0x40, 64, 4, HST_CMD_SEQ_ACCEPTED_fields⟩,
  ⟨0x00100014, 0x40, 64, 4, HST_CMD_SEQ_NEXT_fields⟩,
  ⟨0x00100018, 0x40, 64, 4, HST_CMD_CTRL_fields⟩,
  ⟨0x0010001C, 0x40, 64, 4, HST_CMD_STATUS_fields⟩,
  ⟨0x00101008, 0x40, 64, 4, HST_CPL_CFG_fields⟩,
  ⟨0x0010100C, 0x40, 64, 4, HST_CPL_PTR_fields⟩,
  ⟨0x00101010, 0x40, 64, 4, HST_CPL_SEQ_POSTED_fields⟩,
  ⟨0x00101014, 0x40, 64, 4, HST_CPL_SEQ_NEXT_fields⟩,
  ⟨0x00102008, 0x40, 64, 4, HST_TQ_CFG_fields⟩,
  ⟨0x0010200C, 0x40, 64, 4, HST_TQ_SLOT_fields⟩,
  ⟨0x00102010, 0x40, 64, 4, HST_TQ_PTR_fields⟩,
  ⟨0x00102014, 0x40, 64, 4, HST_TQ_ALIVE_fields⟩,
  ⟨0x00102018, 0x40, 64, 4, HST_TQ_STATUS_fields⟩,
  ⟨0x00102028, 0x40, 64, 8, HST_TQ_REPEATS_fields⟩,
  ⟨0x00103000, 0x0, 1, 4, HST_BAR4_WIN_fields⟩,
  ⟨0x00103004, 0x0, 1, 4, HST_LINK_fields⟩,
  ⟨0x00103008, 0x0, 1, 4, HST_RESET_CFG_fields⟩]
def GLB_BOOT_STATUS_fields : List FieldDef :=
  [⟨0, 4, .ro, 1⟩, ⟨4, 1, .ro, 0⟩, ⟨5, 1, .ro, 0⟩, ⟨6, 1, .ro, 0⟩]
def SEC_STATE_fields : List FieldDef :=
  [⟨0, 1, .ro, 0⟩, ⟨1, 1, .ro, 0⟩, ⟨2, 1, .ro, 0⟩, ⟨3, 1, .ro, 0⟩, ⟨4, 1, .ro, 0⟩, ⟨5, 1, .ro, 0⟩, ⟨8, 7, .ro, 0⟩, ⟨16, 6, .ro, 0⟩, ⟨24, 4, .ro, 0⟩]
def SEC_FW_INFO_fields : List FieldDef :=
  [⟨0, 16, .ro, 0⟩, ⟨16, 16, .ro, 0⟩]
def SEC_CMD_fields : List FieldDef :=
  [⟨0, 8, .wo, 0⟩, ⟨8, 1, .wo, 0⟩]
def SEC_ARG0_fields : List FieldDef :=
  [⟨0, 32, .rw, 0⟩]
def SEC_ARG1_fields : List FieldDef :=
  [⟨0, 32, .rw, 0⟩]
def SEC_CMD_STATUS_fields : List FieldDef :=
  [⟨0, 1, .ro, 0⟩, ⟨1, 1, .w1c, 0⟩, ⟨8, 8, .ro, 0⟩]
def SEC_EXT_CTRL_fields : List FieldDef :=
  [⟨0, 4, .wo, 0⟩, ⟨4, 1, .wo, 0⟩, ⟨5, 1, .ro, 1⟩, ⟨6, 1, .w1c, 0⟩]
def SEC_EXT_DATA_fields : List FieldDef :=
  [⟨0, 32, .rw, 0⟩]
def SEC_MEAS_fields : List FieldDef :=
  [⟨0, 32, .ro, 0⟩]
def table15_0 : List RegDef := [
  ⟨0x00000030, 0x0, 1, 4, GLB_BOOT_STATUS_fields⟩,
  ⟨0x02700000, 0x0, 1, 4, SEC_STATE_fields⟩,
  ⟨0x02700004, 0x0, 1, 4, SEC_FW_INFO_fields⟩,
  ⟨0x02700010, 0x0, 1, 4, SEC_CMD_fields⟩,
  ⟨0x02700014, 0x0, 1, 4, SEC_ARG0_fields⟩,
  ⟨0x02700018, 0x0, 1, 4, SEC_ARG1_fields⟩,
  ⟨0x0270001C, 0x0, 1, 4, SEC_CMD_STATUS_fields⟩,
  ⟨0x02700020, 0x0, 1, 4, SEC_EXT_CTRL_fields⟩,
  ⟨0x02700100, 0x4, 16, 4, SEC_EXT_DATA_fields⟩,
  ⟨0x02701000, 0x4, 256, 4, SEC_MEAS_fields⟩]
def PWR_STATE_CTRL_fields : List FieldDef :=
  [⟨0, 1, .rw, 0⟩, ⟨8, 1, .wo, 0⟩]
def PWR_WATCH_ENTER_fields : List FieldDef :=
  [⟨0, 1, .wo, 0⟩, ⟨1, 1, .wo, 0⟩]
def PWR_STATE_STATUS_fields : List FieldDef :=
  [⟨0, 2, .ro, 0⟩, ⟨2, 1, .ro, 0⟩, ⟨3, 1, .w1c, 0⟩, ⟨4, 3, .ro, 0⟩, ⟨8, 6, .ro, 0⟩, ⟨16, 16, .ro, 0⟩]
def PWR_WATCH_CFG_fields : List FieldDef :=
  [⟨0, 10, .rw, 0x3E8⟩, ⟨10, 6, .rw, 0x3F⟩]
def PWR_WATCH_THRESH_fields : List FieldDef :=
  [⟨0, 8, .rw, 0x5A⟩, ⟨8, 8, .rw, 0x37⟩]
def PWR_TEMP_fields : List FieldDef :=
  [⟨0, 8, .ro, 0⟩, ⟨8, 8, .ro, 0⟩, ⟨16, 8, .ro, 0⟩, ⟨24, 8, .ro, 0⟩]
def PWR_SMB_fields : List FieldDef :=
  [⟨0, 7, .ro, 0x58⟩]
def PWR_CLK_STATUS_fields : List FieldDef :=
  [⟨0, 1, .ro, 0⟩, ⟨1, 1, .ro, 0⟩, ⟨2, 1, .w1c, 0⟩]
def table16_0 : List RegDef := [
  ⟨0x02600010, 0x0, 1, 4, PWR_STATE_CTRL_fields⟩,
  ⟨0x02600014, 0x0, 1, 4, PWR_WATCH_ENTER_fields⟩,
  ⟨0x02600018, 0x0, 1, 4, PWR_STATE_STATUS_fields⟩,
  ⟨0x02600020, 0x0, 1, 4, PWR_WATCH_CFG_fields⟩,
  ⟨0x02600024, 0x0, 1, 4, PWR_WATCH_THRESH_fields⟩,
  ⟨0x02600028, 0x0, 1, 4, PWR_TEMP_fields⟩,
  ⟨0x0260002C, 0x0, 1, 4, PWR_SMB_fields⟩,
  ⟨0x02600030, 0x0, 1, 4, PWR_CLK_STATUS_fields⟩]
def CHK_CFG_fields : List FieldDef :=
  [⟨0, 7, .rw, 0x20⟩, ⟨8, 1, .rw, 1⟩, ⟨9, 1, .rw, 1⟩, ⟨10, 1, .rw, 0⟩]
def CHK_CLR_fields : List FieldDef :=
  [⟨0, 1, .wo, 0⟩]
def CHK_POLY_fields : List FieldDef :=
  [⟨0, 64, .rw, 0x1EDC6F41⟩]
def CHK_INIT_fields : List FieldDef :=
  [⟨0, 64, .rw, 0xFFFFFFFF⟩]
def CHK_XOROUT_fields : List FieldDef :=
  [⟨0, 64, .rw, 0xFFFFFFFF⟩]
def CHK_STATE_fields : List FieldDef :=
  [⟨0, 64, .rw, 0xFFFFFFFF⟩]
def CHK_RESULT_fields : List FieldDef :=
  [⟨0, 64, .ro, 0⟩]
def CHK_STATUS_fields : List FieldDef :=
  [⟨0, 1, .w1c, 0⟩, ⟨1, 1, .ro, 0⟩]
def CHK_MISMATCH_fields : List FieldDef :=
  [⟨0, 48, .ro, 0⟩, ⟨63, 1, .ro, 0⟩]
def table17_0 : List RegDef := [
  ⟨0x02400008, 0x1000, 16, 4, CHK_CFG_fields⟩,
  ⟨0x0240000C, 0x1000, 16, 4, CHK_CLR_fields⟩,
  ⟨0x02400010, 0x1000, 16, 8, CHK_POLY_fields⟩,
  ⟨0x02400018, 0x1000, 16, 8, CHK_INIT_fields⟩,
  ⟨0x02400020, 0x1000, 16, 8, CHK_XOROUT_fields⟩,
  ⟨0x02400028, 0x1000, 16, 8, CHK_STATE_fields⟩,
  ⟨0x02400030, 0x1000, 16, 8, CHK_RESULT_fields⟩,
  ⟨0x02400038, 0x1000, 16, 4, CHK_STATUS_fields⟩,
  ⟨0x02400040, 0x1000, 16, 8, CHK_MISMATCH_fields⟩]
def CHS_STATUS_fields : List FieldDef :=
  [⟨0, 1, .ro, 0⟩, ⟨1, 1, .ro, 0⟩, ⟨2, 1, .ro, 0⟩, ⟨8, 8, .ro, 0⟩]
def CHS_CFG_fields : List FieldDef :=
  [⟨0, 8, .rw, 0x1E⟩]
def CHS_CMD_fields : List FieldDef :=
  [⟨0, 8, .wo, 0⟩, ⟨8, 7, .wo, 0⟩]
def CHS_ARG0_fields : List FieldDef :=
  [⟨0, 64, .rw, 0⟩]
def CHS_ARG1_fields : List FieldDef :=
  [⟨0, 64, .rw, 0⟩]
def CHS_CMD_STATUS_fields : List FieldDef :=
  [⟨0, 1, .ro, 0⟩, ⟨1, 1, .w1c, 0⟩, ⟨8, 8, .ro, 0⟩]
def CHS_CLR_fields : List FieldDef :=
  [⟨0, 6, .wo, 0⟩]
def CHS_SPACE_fields : List FieldDef :=
  [⟨0, 32, .ro, 0⟩, ⟨32, 32, .ro, 0⟩]
def CHS_LEFT_fields : List FieldDef :=
  [⟨0, 20, .ro, 0⟩]
def CHS_FAULT_fields : List FieldDef :=
  [⟨0, 3, .ro, 0⟩, ⟨3, 7, .ro, 0⟩, ⟨31, 1, .w1c, 0⟩]
def CHS_COUNTER_fields : List FieldDef :=
  [⟨0, 48, .ro, 0⟩, ⟨63, 1, .ro, 0⟩]
def CHS_SLOT_INFO_fields : List FieldDef :=
  [⟨0, 2, .ro, 0⟩, ⟨8, 8, .ro, 0⟩, ⟨32, 32, .ro, 0⟩, ⟨64, 32, .ro, 0⟩, ⟨96, 32, .ro, 0⟩, ⟨128, 64, .ro, 0⟩, ⟨192, 32, .ro, 0⟩, ⟨224, 32, .ro, 0⟩]
def table18_0 : List RegDef := [
  ⟨0x02300008, 0x0, 1, 4, CHS_STATUS_fields⟩,
  ⟨0x0230000C, 0x0, 1, 4, CHS_CFG_fields⟩,
  ⟨0x02300010, 0x0, 1, 4, CHS_CMD_fields⟩,
  ⟨0x02300018, 0x0, 1, 8, CHS_ARG0_fields⟩,
  ⟨0x02300020, 0x0, 1, 8, CHS_ARG1_fields⟩,
  ⟨0x02300028, 0x0, 1, 4, CHS_CMD_STATUS_fields⟩,
  ⟨0x0230002C, 0x0, 1, 4, CHS_CLR_fields⟩,
  ⟨0x02300030, 0x0, 1, 8, CHS_SPACE_fields⟩,
  ⟨0x02300038, 0x0, 1, 4, CHS_LEFT_fields⟩,
  ⟨0x0230003C, 0x0, 1, 4, CHS_FAULT_fields⟩,
  ⟨0x02300040, 0x8, 6, 8, CHS_COUNTER_fields⟩,
  ⟨0x02300100, 0x20, 80, 32, CHS_SLOT_INFO_fields⟩]
def CNT_SNAPSHOT_fields : List FieldDef :=
  [⟨0, 1, .wo, 0⟩]
def CNT_SNAP_STATUS_fields : List FieldDef :=
  [⟨0, 1, .ro, 0⟩]
def CNT_SNAP_SEQ_fields : List FieldDef :=
  [⟨0, 32, .ro, 0⟩]
def CNT_SNAP_CFG_fields : List FieldDef :=
  [⟨0, 8, .rw, 0⟩]
def CNT_VIEW_fields : List FieldDef :=
  [⟨0, 1, .rw, 0⟩]
def CNT_CLR_fields : List FieldDef :=
  [⟨0, 1, .wo, 0⟩, ⟨1, 1, .wo, 0⟩]
def CNT_CYCLE_fields : List FieldDef :=
  [⟨0, 64, .ro, 0⟩]
def CNT_AO_CYCLE_fields : List FieldDef :=
  [⟨0, 64, .ro, 0⟩]
def CNT_FLT_CFG_fields : List FieldDef :=
  [⟨0, 1, .rw, 0⟩, ⟨8, 8, .rw, 0⟩, ⟨16, 16, .rw, 0xFFFE⟩]
def CNT_FLT_PTR_fields : List FieldDef :=
  [⟨0, 8, .rw, 0⟩, ⟨16, 8, .ro, 0⟩]
def CNT_FLT_LOST_fields : List FieldDef :=
  [⟨0, 48, .ro, 0⟩, ⟨63, 1, .ro, 0⟩]
def CNT_DRAIN_DROP_fields : List FieldDef :=
  [⟨0, 48, .ro, 0⟩, ⟨63, 1, .ro, 0⟩]
def CNT_FLT_ENTRY_fields : List FieldDef :=
  [⟨0, 32, .ro, 0⟩, ⟨32, 5, .ro, 0⟩, ⟨37, 3, .ro, 0⟩, ⟨40, 8, .ro, 0⟩, ⟨48, 9, .ro, 0⟩, ⟨64, 24, .ro, 0⟩, ⟨88, 3, .ro, 0⟩, ⟨96, 32, .ro, 0⟩]
def CNT_RECOV_CFG_fields : List FieldDef :=
  [⟨0, 16, .rw, 0xC8⟩]
def CNT_RECOV_CTRL_fields : List FieldDef :=
  [⟨0, 3, .wo, 0⟩, ⟨3, 1, .wo, 0⟩]
def CNT_RECOV_STATUS_fields : List FieldDef :=
  [⟨0, 1, .ro, 0⟩, ⟨1, 1, .w1c, 0⟩, ⟨2, 1, .w1c, 0⟩, ⟨16, 16, .ro, 0⟩]
def table19_0 : List RegDef := [
  ⟨0x02500000, 0x0, 1, 4, CNT_SNAPSHOT_fields⟩,
  ⟨0x02500004, 0x0, 1, 4, CNT_SNAP_STATUS_fields⟩,
  ⟨0x02500008, 0x0, 1, 4, CNT_SNAP_SEQ_fields⟩,
  ⟨0x0250000C, 0x0, 1, 4, CNT_SNAP_CFG_fields⟩,
  ⟨0x02500010, 0x0, 1, 4, CNT_VIEW_fields⟩,
  ⟨0x02500014, 0x0, 1, 4, CNT_CLR_fields⟩,
  ⟨0x02500018, 0x0, 1, 8, CNT_CYCLE_fields⟩,
  ⟨0x02500020, 0x0, 1, 8, CNT_AO_CYCLE_fields⟩,
  ⟨0x02500100, 0x0, 1, 4, CNT_FLT_CFG_fields⟩,
  ⟨0x02500104, 0x0, 1, 4, CNT_FLT_PTR_fields⟩,
  ⟨0x02500108, 0x0, 1, 8, CNT_FLT_LOST_fields⟩,
  ⟨0x02500110, 0x0, 1, 8, CNT_DRAIN_DROP_fields⟩,
  ⟨0x02510000, 0x10, 256, 16, CNT_FLT_ENTRY_fields⟩,
  ⟨0x02500200, 0x0, 1, 4, CNT_RECOV_CFG_fields⟩,
  ⟨0x02500204, 0x0, 1, 4, CNT_RECOV_CTRL_fields⟩,
  ⟨0x02500208, 0x0, 1, 4, CNT_RECOV_STATUS_fields⟩]
def PWR_LASER_fields : List FieldDef :=
  [⟨0, 3, .rw, 0⟩, ⟨4, 3, .ro, 0⟩, ⟨8, 3, .ro, 0⟩, ⟨12, 3, .w1c, 0⟩]
def table20_0 : List RegDef := [
  ⟨0x02600040, 0x0, 1, 4, PWR_LASER_fields⟩]
def tableMsix : List RegDef := [
  ⟨0x00E00000, 0x10, 256, 16, [⟨0, 64, .rw, 0⟩, ⟨64, 32, .rw, 0⟩, ⟨96, 1, .rw, 1⟩]⟩,
  ⟨0x00E01000, 0x4, 8, 4, (List.range 32).map (fun i => ⟨i, 1, .ro, 0⟩)⟩]

/-- Every register of the chip's BAR0 (R6: an offset that no row covers is undefined). -/
def table : List RegDef :=
  table01_0 ++ table02_0 ++ table03_0 ++ table04_0 ++ table04_1 ++ table05_0 ++ table05_1 ++ table06_0 ++ table07_0 ++ table08_0 ++ table09_0 ++ table10_0 ++ table10_1 ++ table11_0 ++ table12_0 ++ table13_0 ++ table14_0 ++ table15_0 ++ table16_0 ++ table17_0 ++ table18_0 ++ table19_0 ++ table20_0 ++ tableMsix

end Sys2Proof.Machine.Reg
end

