-- ==== Sys2Proof/Machine/Flags.lean ====
section
/-!
DEFINITION. Flag computations: event counters (R471), the commit sources of an attempt (R177), and the sticky flags of a stream
context with the sources they raise (R158, R177).
-/

namespace Sys2Proof.Machine

open Reg

/-- Add to an event counter: it stays at 2^48 − 1 and sets OVF where the true sum exceeds it (R471). -/
def countBy (cnt ovf : Field) (k : Nat) : Act := .ask fun s =>
  if s.get cnt + k > 2 ^ 48 - 1 then .all [.set cnt (2 ^ 48 - 1), .set ovf 1] else .set cnt (s.get cnt + k)

/-- Count one event. -/
def count (cnt ovf : Field) : Act := countBy cnt ovf 1

/-- Clear an event counter (R471). -/
def countClear (cnt ovf : Field) : Act := .all [.set cnt 0, .set ovf 0]

/-- The class of a commit source (R177): 0 NAN, 1 OVF, 2 MISMATCH, 3 HALT. -/
def sourceClass (n : Nat) : Nat := if n ≤ 2 then 0 else if n ≤ 4 then 1 else if n ≤ 9 then 2 else 3

/-- Raise commit source `n` in the current attempt of graph `g` (R177): SRC always, the class unless the source is maskable and
its bit in SRC_MASK is 0. -/
def raiseSource (g n : Nat) : Act := .ask fun s =>
  .all [.set (GLB_STEP_FLAGS_SRC g) (s.get (GLB_STEP_FLAGS_SRC g) ||| 2 ^ n),
    .when (6 ≤ n || bitAt (s.get (GLB_STEP_POLICY_SRC_MASK g)) n)
      (.set (GLB_STEP_FLAGS_LOCAL g) (s.get (GLB_STEP_FLAGS_LOCAL g) ||| 2 ^ sourceClass n))]

/-- Set the sticky flags `fl` (bits as in Num.lean) on stream `n`, and raise their sources in its graph (R158, R177). -/
def raiseFlags (n fl : Nat) : Act := .ask fun s =>
  let g := s.get (STR_GRAPH n)
  .all [
    .when (bitAt fl 0) (.all [.set (STR_NAN_IN n) 1, raiseSource g 0]),
    .when (bitAt fl 1) (.all [.set (STR_INVALID n) 1, raiseSource g 1]),
    .when (bitAt fl 2) (.all [.set (STR_OVERFLOW n) 1, raiseSource g 3]),
    .when (bitAt fl 3) (.set (STR_DENORM_FLUSHED n) 1),
    .when (bitAt fl 4) (.set (STR_SATURATE n) 1),
    .when (bitAt fl 5) (.all [.set (STR_INT_SAT n) 1, raiseSource g 4]),
    .when (bitAt fl 6) (.set (STR_EMPTY n) 1)]

/-- Set POISONED on a stream, source 6 (R26, R177). -/
def raisePoisoned (n : Nat) : Act := .ask fun s =>
  .all [.set (STR_POISONED n) 1, raiseSource (s.get (STR_GRAPH n)) 6]

/-- Set BENCH_CHECK_FAIL on a stream, source 5 (R110, R177). -/
def raiseCheckFail (n : Nat) : Act := .ask fun s =>
  .all [.set (STR_BENCH_CHECK_FAIL n) 1, raiseSource (s.get (STR_GRAPH n)) 5]

/-- Whether a stopping fault is set on a stream (R57). -/
def State.stopped (s : State) (n : Nat) : Bool :=
  s.get (STR_LOST n) = 1 || s.get (STR_STALLED n) = 1 || s.get (STR_SIG_MISMATCH n) = 1 || s.get (STR_ABORTED n) = 1 ||
  s.get (STR_BAD_HEADER n) = 1

end Sys2Proof.Machine
end

