-- ==== Sys2Proof/Machine/Ops.lean ====
section
/-!
DEFINITION. The operations that commands share: interrupts and host completions (R384, R393, R394), milestones (R47–R53),
streams with their slots, credits and completions (R30–R35), budgets (R39–R44), and the firing of a station on the first ready
alternative of its current step (R36–R38).
-/

namespace Sys2Proof.Machine

open Reg

/-! Graph and chip. -/

/-- This chip's ID in force (R268). -/
def State.chipId (s : State) : Nat := s.get LNK_COORD_ACTIVE

/-- The step number of a graph (R176). -/
def State.stepNum (s : State) (g : Nat) : Nat := s.get (GLB_STEP_NUM_STEP g)

/-- The operating mode in effect: 0 P, 1 B, 2 E (R15). -/
def State.mode (s : State) : Nat := s.get PWR_OPMODE_CUR

/-! Events that firmware reports (R477, R478). -/

/-- An event of a class occurs: firmware has a record of it to post. -/
def noteFault (cls source chip graph detail : Nat) : Act := .ask fun s =>
  .upd (.faultDue (s.faultDue ++ [⟨cls, source, chip, graph, detail⟩]))

/-- The same with CHIP = this chip. -/
def noteHere (cls source graph detail : Nat) : Act := .ask fun s => noteFault cls source s.chipId graph detail

/-! Whether the chip runs (R405, R416, R426, R430). -/

/-- The device is in P2 or P3 (R426): the chip is gated or unpowered. -/
def State.asleep (s : State) : Bool := 2 ≤ s.get PWR_STATE_STATUS_STATE

/-- The chip is powered and start-up has not stopped: the synchronous domains, the links and the host block act. -/
def State.running (s : State) : Bool := !s.asleep && s.get GLB_BOOT_STATUS_FAIL = 0

/-- The chip is powered and its PCIe port enumerates: it runs, or it is in ROM recovery (R405). -/
def State.enumerated (s : State) : Bool := s.running || (!s.asleep && s.get GLB_BOOT_STATUS_RECOVERY = 1)

/-- A command of a part that only acts while the chip runs: otherwise the event does not occur, and nothing changes. -/
def live (a : Act) (s : State) : Host.Outcome State Fault Refusal := .next ((Act.when s.running a).run s)

/-! Interrupts (R393). -/

/-- A vector is masked: by its own mask bit, by Function Mask, or because MSI-X is not enabled (R393; log entries 5 and 137). -/
def State.masked (s : State) (v : Nat) : Bool := s.get (MSIX_MASK v) = 1 || s.pcie.msixMaskAll || !s.pcie.msixEnable

/-- Signal an MSI-X vector: a masked vector sets its pending bit instead (R393; log entry 5). -/
def signal (v : Nat) : Act := .ask fun s =>
  if s.masked v then .set (MSIX_PENDING v) 1 else .upd (.msix (s.msix ++ [v]))

/-- A vector that is unmasked signals what is pending. -/
def signalPending (v : Nat) : Act := .ask fun s =>
  .when (!s.masked v && s.get (MSIX_PENDING v) = 1) (.seq (.set (MSIX_PENDING v) 0) (signal v))

/-! Host completions (R381, R384, R386, R394). -/

/-- Commands of a ring in flight. -/
def State.ringCmds (s : State) (r : Nat) : List HostCmd := s.inflight.filter fun c => c.ring.val = r

/-- Entries of a completion ring: 2^SIZE_LOG2. -/
def State.cplSize (s : State) (c : Nat) : Nat := 2 ^ s.get (HST_CPL_CFG_SIZE_LOG2 c)

/-- The 32 bytes of a completion entry (R381): PHASE is 1 on the first pass. -/
def cplEntry (dseq : Nat) (cmd : HostCmd) (status phase result : Nat) : List Byte :=
  leBytes 4 dseq ++ leBytes 4 cmd.hseq ++ leBytes 8 cmd.tag ++ leBytes 1 status ++ leBytes 1 phase ++ leBytes 1 cmd.ring.val ++
  leBytes 1 0 ++ leBytes 12 result

/-- Post a completion entry on ring `c` and raise its interrupt under coalescing (R384, R394). -/
def postCompletion (c : Nat) (cmd : HostCmd) (status result : Nat) : Act := .ask fun s =>
  let tail := s.get (HST_CPL_PTR_TAIL c)
  let dseq := s.get (HST_CPL_SEQ_NEXT_SEQ c)
  let addr := s.get (HST_CPL_BASE_ADDR c) * 64 + 32 * tail
  let tail' := (tail + 1) % s.cplSize c
  let since := s.rd .cplSince c + 1
  let enough := max 1 (s.get (HST_CPL_CFG_COAL_COUNT c)) ≤ since
  .all [
    .upd (.hostOut (s.hostOut ++ [(addr, cplEntry dseq cmd status (1 - s.rd .cplPhase c) result)])),
    .set (HST_CPL_PTR_TAIL c) tail',
    .when (tail' = 0) (.put .cplPhase c (1 - s.rd .cplPhase c)),
    .set (HST_CPL_SEQ_POSTED_SEQ c) dseq,
    .set (HST_CPL_SEQ_NEXT_SEQ c) (dseq + 1),
    if s.get (HST_CPL_CFG_IRQ_EN c) = 1 && enough then
      .seq (signal (s.get (HST_CPL_CFG_VEC c))) (.put .cplSince c 0)
    else .put .cplSince c since]

/-- Reset the indices of a command ring (R386). -/
def resetRing (r : Nat) : Act :=
  .all [.set (HST_CMD_PTR_HEAD r) 0, .set (HST_CMD_PTR_TAIL r) 0, .put .resetAsked r 0]

/-- Bring INFLIGHT and STOPPED of a ring up to date; a RESET that waits for STOPPED is then done (R386). -/
def ringStatus (r : Nat) : Act := .ask fun s =>
  let n := (s.ringCmds r).length
  let stopped := s.get (HST_CMD_CTRL_RUN r) = 0 && n = 0
  .all [.set (HST_CMD_STATUS_INFLIGHT r) n, .set (HST_CMD_STATUS_STOPPED r) (b2n stopped),
    .when (stopped && s.rd .resetAsked r = 1) (resetRing r)]

/-- End one command: it leaves the commands in flight, and a completion is posted when CPL = 1 or the status is not OK (R378,
R383). -/
def finishOne (cmd : HostCmd) (status result : Nat) : Act := .ask fun s =>
  .seq (.upd (.inflight (s.inflight.filter fun c => !(c.ring = cmd.ring && c.hseq = cmd.hseq))))
    (.when (cmd.cpl || status ≠ 0) (postCompletion (s.get (HST_CMD_CFG_CPL_RING cmd.ring.val)) cmd status result))

/-- The FENCE commands of a ring that have started and that no earlier command of the ring precedes any more (R379). -/
def State.ripeFences (s : State) (r : Nat) : List HostCmd := (s.ringCmds r).takeWhile fun c => c.opcode = 10 && c.started

/-- End a command, and the FENCEs that waited for it (R379). -/
def finishCmd (cmd : HostCmd) (status result : Nat) : Act :=
  .all [finishOne cmd status result, .ask fun s => .each (s.ripeFences cmd.ring.val) fun c => finishOne c 0 0, ringStatus cmd.ring.val]

/-! Desk registers (R138). -/

/-- Write a desk register; a write to s0 is discarded. -/
def deskSet (c r v : Nat) : Act := .when (r ≠ 0) (.set (CLU_DESK_SREG_VALUE c r) v)

/-- Read a desk register; s0 reads 0. -/
def State.sreg (s : State) (c r : Nat) : Nat := if r = 0 then 0 else s.get (CLU_DESK_SREG_VALUE c r)

/-- End a milestone wait of a desk: it takes `v` into the register, and goes on at the next instruction (R145). -/
def deskRelease (c r v : Nat) : Act :=
  .all [deskSet c r v, .set (CLU_DESK_STATE_RUN c) 1, .modify (CLU_DESK_STATE_PC c) (· + 1)]

/-! Milestones (R47–R53). -/

/-- COUNT ≥ TARGET, or CODE ≠ 0 (R49). -/
def State.reached (s : State) (m : Nat) : Bool :=
  s.get (MLS_ENTRY_TARGET m) ≤ s.get (MLS_ENTRY_COUNT m) || s.get (MLS_STATUS_CODE m) ≠ 0

/-- Release what waits on a milestone that is reached: desks in MWAIT take its CODE, MLS_WAIT commands complete with CODE and
COUNT (R49, R145, R379). -/
def releaseWaiters (m : Nat) : Act := .ask fun s =>
  let code := s.get (MLS_STATUS_CODE m)
  let cnt := s.get (MLS_ENTRY_COUNT m)
  .all [
    .each (s.desks.filter fun d => d.wait.any fun w => w.2 = m) (fun d =>
      deskRelease d.cluster.val ((d.wait.map (·.1.toNat)).getD 0) code),
    .upd (.desks (s.desks.map fun d => if d.wait.any fun w => w.2 = m then { d with wait := none } else d)),
    .each (s.inflight.filter fun c => c.opcode = 4 && c.started && bits c.args 0 16 = m) (fun c =>
      finishCmd c (if code = 0 then 0 else 7) (code + cnt <<< 32))]

/-- The graphs whose commit attempts the milestone starts (R178): ENABLE = 1 and COMMIT_MLS = m. -/
def State.commitGraphs (s : State) (m : Nat) : List Nat :=
  (List.range 8).filter fun g => s.get (GLB_STEP_CFG_ENABLE g) = 1 && s.get (GLB_STEP_GROUP_COMMIT_MLS g) = m

/-- Bring REACHED up to date after a change of COUNT, TARGET or CODE. A rise signals IRQ_VEC, releases waiters, and is the
start of a commit attempt of each graph whose COMMIT_MLS it is (R49, R53, R178). -/
def mlsRefresh (m : Nat) : Act := .ask fun s =>
  let was := s.get (MLS_STATUS_REACHED m) = 1
  .all [.set (MLS_STATUS_REACHED m) (b2n (s.reached m)),
    .when (s.reached m && !was) (.all [
      .when (s.get (MLS_STATUS_IRQ_EN m) = 1) (signal (s.get (MLS_STATUS_IRQ_VEC m))),
      releaseWaiters m,
      .each (s.commitGraphs m) (fun g => .put .commitDue g 1)])]

/-- Add to a milestone; `mark` is the stream to mark when the true result exceeds 0xFFFF_FFFF (R50). -/
def mlsAdd (m k : Nat) (mark : Option Nat) : Act := .ask fun s =>
  if k = 0 then .skip
  else
    let t := s.get (MLS_ENTRY_COUNT m) + k
    .seq
      (if t > 0xFFFFFFFF then
        .all [.set (MLS_ENTRY_COUNT m) 0xFFFFFFFF, .set (MLS_STATUS_OVF m) 1,
          match mark with
          | some n => .set (STR_MILESTONE_OVERFLOW n) 1
          | none => .skip]
      else .set (MLS_ENTRY_COUNT m) t)
      (mlsRefresh m)

/-- A hardware setting of CODE: it overwrites 0 only (R52). -/
def mlsCode (m code : Nat) : Act := .ask fun s =>
  .when (s.get (MLS_STATUS_CODE m) = 0) (.seq (.set (MLS_STATUS_CODE m) code) (mlsRefresh m))

/-- Completion codes of a milestone (R47). -/
def codeAborted : Nat := 1
def codeSigMismatch : Nat := 2
def codeLost : Nat := 3
def codeStalled : Nat := 4

/-- Whether a context names a completion milestone: DONE_TILES ≠ 0 or WD_LIMIT ≠ 0 (R35). -/
def State.namesMls (s : State) (n : Nat) : Bool := s.get (STR_DONE_TILES n) ≠ 0 || s.get (STR_WD_LIMIT n) ≠ 0

/-- Set CODE of a stream's completion milestone, when it names one (R35, R52). -/
def streamCode (n code : Nat) : Act := .ask fun s =>
  .when (s.namesMls n) (mlsCode (s.get (STR_MLS_DONE n)) code)

/-! Streams (R29–R35). -/

/-- Whether a context is the receiving end of a cross-chip stream, or the one context of an on-chip stream. -/
def State.receives (s : State) (n : Nat) : Bool := s.get (STR_REMOTE n) = 0 || s.get (STR_SIDE n) = 1

/-- SEQ of the next tile to consume: NEXT_SEQ at a receiving end; on chip NEXT_SEQ is the source's, and the consumer keeps its
own (R30, R31; log entry 6). -/
def State.nextIn (s : State) (n : Nat) : Nat := if s.get (STR_REMOTE n) = 1 then s.get (STR_NEXT_SEQ n) else s.rd .rxSeq n

def setNextIn (n v : Nat) : Act := .ask fun s =>
  if s.get (STR_REMOTE n) = 1 then .set (STR_NEXT_SEQ n) v else .put .rxSeq n (v % 2 ^ 32)

/-- The wholly present tile with SEQ = NEXT_SEQ of a stream, if there is one (R37). -/
def State.input (s : State) (n : Nat) : Option Tile :=
  (s.slots.find? fun x => x.stream = n && x.present && x.seq = s.nextIn n).map (·.tile)

/-- Count `k` completions of a stream: TILES_DONE, and MLS_DONE for each whole multiple of DONE_TILES since activation (R35). -/
def complete (n k : Nat) : Act := .ask fun s =>
  let d := s.get (STR_DONE_TILES n)
  let a := s.rd .tilesSince n
  .all [.set (STR_TILES_DONE n) (s.get (STR_TILES_DONE n) + k), .put .tilesSince n (a + k),
    .when (d ≠ 0) (mlsAdd (s.get (STR_MLS_DONE n)) ((a + k) / d - a / d) (some n))]

/-- Return `k` credits: on chip at once; a cross-chip stream returns them by CREDIT cell, from TILES_DONE (R33, R216). -/
def returnCredit (n k : Nat) : Act := .ask fun s =>
  if s.get (STR_REMOTE n) = 1 then .skip
  else .all [.set (STR_CREDITS n) (min (s.get (STR_CREDITS n) + k) (s.get (STR_CREDIT_MAX n))), .set (STR_WD_COUNT n) 0]

/-- Consume the next tile of an input stream at the end of its firing: the slot is freed, NEXT_SEQ advances, the tile completes
and its credit returns; progress zeroes WD_COUNT (R36, R33, R35, R54). -/
def consume (n : Nat) : Act := .ask fun s =>
  let q := s.nextIn n
  .all [.upd (.slots (s.slots.filter fun x => !(x.stream = n && x.seq = q))), setNextIn n (seqNext q), .set (STR_WD_COUNT n) 0,
    complete n 1, returnCredit n 1]

/-- Hand a message to this chip's router, where its cells wait (R233, R234). -/
def originate (graph : Option Nat) (cells : List Cell) : Act := .ask fun s =>
  .when (!cells.isEmpty) (.upd (.egress (s.egress ++ [⟨graph, false, cells⟩])))

/-- The 64 bytes of piece `j` of a tile record; bytes past the record's end are 0 (R214). -/
def tilePiece (t : Tile) (j : Nat) : Nat := bits (t.raw % 2 ^ (8 * t.recordLen)) (512 * j) 512

/-- The TILE cells of a tile sent on a sending end (R214, R215): n = ⌈(32 + PAYLOAD_LEN) ÷ 64⌉. -/
def State.tileCells (s : State) (n : Nat) (t : Tile) : List Cell :=
  let k := ceilDiv t.recordLen 64
  (List.range k).map fun j =>
    { dest := BitVec.ofNat 24 (s.get (STR_PEER_CHIP n)), endpt := BitVec.ofNat 9 (s.get (STR_DST_ENDPT n)),
      stream := BitVec.ofNat 18 (s.get (STR_PEER_STREAM n)), seq := BitVec.ofNat 24 ((hSeq t.head % 2 ^ 14) * 2 ^ 10 + j),
      vc := BitVec.ofNat 3 (s.get (STR_VC n)), kind := 1#5, poison := hPoison t.head, sample := false, mcast := false,
      last := j + 1 = k, hops := 63#6, reserved := 0#3, payload := BitVec.ofNat 512 (tilePiece t j) }

/-- A slot that holds a whole tile. -/
def wholeSlot (n q : Nat) (t : Tile) : Slot := ⟨n, q, 0, none, hPoison t.head, true, t⟩

/-- Produce a tile on an output stream: it takes the stream's NEXT_SEQ, which advances, and one credit; on chip it stands in a
slot of the destination, across chips its cells go to the router (R33, R36, R214). -/
def emit (n : Nat) (t : Tile) : Act := .ask fun s =>
  let q := s.get (STR_NEXT_SEQ n)
  .all [.set (STR_NEXT_SEQ n) (seqNext q), .set (STR_CREDITS n) (s.get (STR_CREDITS n) - 1),
    .put .stepTile n (s.rd .stepTile n + 1),
    if s.get (STR_REMOTE n) = 1 then
      .all [.put .begun n (s.rd .begun n + 1), originate (some (s.get (STR_GRAPH n))) (s.tileCells n t)]
    else
      .upd (.slots (s.slots ++ [wholeSlot n q t]))]

/-- The station at this chip's end of a stream (R477). -/
def State.streamStation (s : State) (n : Nat) : Nat := if s.receives n then s.get (STR_DST_ENDPT n) else s.get (STR_SRC_ENDPT n)

/-- The chip that a STREAM_STOP record names (R477). -/
def State.streamChip (s : State) (n : Nat) : Nat := if s.get (STR_REMOTE n) = 1 then s.get (STR_PEER_CHIP n) else s.chipId

/-- Set a fault of a stream, `kind` 0 LOST, 1 STALLED, 2 SIG_MISMATCH or 3 BAD_HEADER: the stream stops (R57), and a flag that was 0
is an event of class STREAM_STOP (R477). -/
def stopStream (f : Field) (n kind : Nat) : Act := .ask fun s =>
  .seq (.set f 1)
    (.when (s.get f = 0) (noteFault 1 (s.streamStation n) (s.streamChip n) (s.get (STR_GRAPH n)) (n + kind <<< 18)))

/-- Set LOST on a stream (R57). -/
def loseStream (n : Nat) : Act := stopStream (STR_LOST n) n 0

/-- Set STALLED on a stream (R57). -/
def stallStream (n : Nat) : Act := stopStream (STR_STALLED n) n 1

/-- Set SIG_MISMATCH on a stream (R57). -/
def mismatchStream (n : Nat) : Act := stopStream (STR_SIG_MISMATCH n) n 2

/-- Set BAD_HEADER on a stream: the stream stops and the tile stays in its slot (R25, R57). -/
def badHeader (n : Nat) : Act := stopStream (STR_BAD_HEADER n) n 3

/-! Budgets (R39–R44). -/

/-- The resource classes a station is charged to (R39); HOST has one for each direction. -/
inductive BudgetClass where
  | bench | vector | drawer | shelf | hostOut | hostIn | chest
  deriving DecidableEq, Repr

/-- The share of graph `g` in the budget set in force (R364, R365), in 1/1,024. -/
def State.share (s : State) (c : BudgetClass) (g : Nat) : Nat :=
  let k := s.get GLB_BUDGET_SET_CUR
  match c with
  | .bench => s.get (GLB_SET_BENCH k g)
  | .vector => s.get (GLB_SET_VECTOR k g)
  | .drawer => s.get (GLB_SET_DRAWER k g)
  | .shelf => s.get (GLB_SET_SHELF k g)
  | .hostOut => s.get (GLB_SET_HOST_OUT k g)
  | .hostIn => s.get (GLB_SET_HOST_IN k g)
  | .chest => s.get (GLB_SET_CHEST k g)

/-- A budget key: endpoint, part (half of a split bench, direction of HOST or of a port) and graph. -/
def allowKey (e part g : Nat) : Nat := (e * 4 + part) * 8 + g

/-- The allowance of a budget key. -/
def State.allowance (s : State) (k : Nat) : Int := ((s.allow.find? fun p => p.1 = k).map (·.2)).getD 0

/-- Set an allowance; an allowance of 0 is not listed, and keys rise. -/
def setAllow (l : List (Nat × Int)) (k : Nat) (v : Int) : List (Nat × Int) :=
  if v = 0 then l.filter fun p => p.1 ≠ k
  else (l.filter fun p => p.1 < k) ++ [(k, v)] ++ (l.filter fun p => k < p.1)

/-- Charge `d` units to a budget key, of a firing that has charged `total` so far: the firing that takes the allowance to 0 or below,
which alone charges after that, sets the limit of a time-class debt (R40, R41). -/
def chargeFor (k d total : Nat) : Act := .ask fun s =>
  let a := s.allowance k
  .all [.upd (.allow (setAllow s.allow k (a - d))), .when (0 < d && a - d ≤ 0) (.put .fireLen k total)]

/-- Take back `d` units that were charged to a budget key (R107). -/
def refund (k d : Nat) : Act := .ask fun s => .upd (.allow (setAllow s.allow k (s.allowance k + d)))

/-- Charge a whole firing of `d` units. -/
def charge (k d : Nat) : Act := chargeFor k d d

/-- Whether a graph is frozen on the chip: bench-time and vector-time shares both 0 (R44). -/
def State.frozen (s : State) (g : Nat) : Bool := s.share .bench g = 0 && s.share .vector g = 0

/-- Whether a graph behaves as frozen at every station: frozen on the chip, or halted (R44, R181). -/
def State.held (s : State) (g : Nat) : Bool := s.frozen g || s.get (GLB_STEP_STATE_HALTED g) = 1

/-! Stations and firing (R36–R38, R59–R66). -/

/-- Whether an endpoint is a station (R28). -/
def isStation (e : Nat) : Bool :=
  e < 0x124 || (0x130 ≤ e && e < 0x164) || e = 0x170 || e = 0x178 || (0x180 ≤ e && e < 0x190)

/-- Bound streams of an alternative, inputs then outputs, in binding order. -/
def Alt.inputs (a : Alt) : List Nat := a.ins.filterMap id
def Alt.outputs (a : Alt) : List Nat := a.outs.filterMap id
def Alt.streams (a : Alt) : List Nat := a.inputs ++ a.outputs

/-- The graph of an alternative: that of its bound streams (R37). -/
def State.altGraph (s : State) (a : Alt) : Nat :=
  match a.streams with
  | n :: _ => s.get (STR_GRAPH n)
  | [] => 0

/-- The program of a station or half. -/
def State.prog (s : State) (e part : Nat) : Option Prog := s.progs.find? fun p => p.endpt = e && p.part = part

/-- The current step index of a station or half (R59, R112). -/
def State.stepIdx (s : State) (e part : Nat) : Nat :=
  if part = 2 then s.get (CLU_BENCH_HSTATUS_STEP_IDX_H (e / 8) (e % 8)) else s.get (STN_STATUS_STEP_IDX e)

def setStepIdx (e part i : Nat) : Act :=
  if part = 2 then .set (CLU_BENCH_HSTATUS_STEP_IDX_H (e / 8) (e % 8)) i else .set (STN_STATUS_STEP_IDX e) i

/-- The current step of a station or half. -/
def State.curStep (s : State) (e part : Nat) : Option Step :=
  match s.prog e part with
  | some p => p.steps[s.stepIdx e part]?
  | none => none

/-- A stream may take part in a firing: VALID, no stopping fault, and its milestone reached when WAIT_EN = 1 (R37). -/
def State.streamReady (s : State) (n : Nat) : Bool :=
  s.get (STR_VALID n) = 1 && !s.stopped n && (s.get (STR_WAIT_EN n) = 0 || s.reached (s.get (STR_MLS_WAIT n)))

/-- The readiness of R37 but for the allowance and the station's own conditions: streams, input tiles, output credits, and a
graph that is not frozen on the chip or halted. An alternative without streams has no graph, and its graph holds nothing
(log entry 8). -/
def State.altReady (s : State) (a : Alt) : Bool :=
  a.streams.all s.streamReady && a.inputs.all (fun n => (s.input n).isSome) &&
  a.outputs.all (fun n => 1 ≤ s.get (STR_CREDITS n)) && (a.streams = [] || !s.held (s.altGraph a))

/-- The allowance of an alternative's graph at a station is above 0, and its share is not 0 (R37, R43). -/
def State.altFunded (s : State) (c : BudgetClass) (e part : Nat) (a : Alt) : Bool :=
  a.streams = [] || (0 < s.allowance (allowKey e part (s.altGraph a)) && 0 < s.share c (s.altGraph a))

/-- Key of a part of a station. -/
def runKey (e part : Nat) : Nat := 4 * e + part

/-- The alternatives of the current step that may fire: all of them, or, while a run of firings is under way, the one that began it
(R100, R201; DESIGN CHOICE, log entry 55). -/
def State.openAlts (s : State) (e part : Nat) : List Alt :=
  match s.curStep e part with
  | some st =>
    match s.rd .runAlt (runKey e part) with
    | 0 => st.alts
    | k + 1 => st.alts[k]?.toList
  | none => []

/-- The first alternative of the current step that is ready, in plan order (R36). -/
def State.firstReady (s : State) (e part : Nat) (ready : Alt → Bool) : Option Alt :=
  if s.get (STN_CTRL_ENABLE e) = 0 then none else (s.openAlts e part).find? ready

/-- A run of firings on an alternative is under way: the rest of its step belongs to it. -/
def holdRun (e part : Nat) (a : Alt) : Act := .ask fun s =>
  match s.curStep e part with
  | some st => .put .runAlt (runKey e part) (st.alts.findIdx (fun x => x = a) + 1)
  | none => .skip

/-- After a firing the station goes to the step that the program names as next (R36). -/
def advance (e part : Nat) : Act := .ask fun s =>
  match s.curStep e part with
  | some st => .seq (setStepIdx e part st.next) (.put .runAlt (runKey e part) 0)
  | none => .skip

/-- Fire on the first ready alternative when it is of the command's kind (R36). A station that has none ready waits at its step, and one
whose ready alternative is of another kind does not do what the command names. -/
def fireOn (e part : Nat) (ready : Alt → Bool) (kind : Alt → Bool) (f : Alt → Act) : Act := .ask fun s =>
  match s.firstReady e part ready with
  | some a => if kind a then f a else .skip
  | none => .skip

/-- The effective FLUSH of a firing (R78). -/
def State.flushOf (s : State) (a : Alt) : Bool :=
  match a.outputs ++ a.inputs with
  | n :: _ => if s.get (STR_FLUSH_OVR n) = 1 then s.get (STR_FLUSH n) = 1 else s.get GLB_NUMCTL_FLUSH = 1
  | [] => s.get GLB_NUMCTL_FLUSH = 1

/-- The SAT_EN of the stream that R78 selects. -/
def State.satOf (s : State) (a : Alt) : Bool :=
  match a.outputs ++ a.inputs with
  | n :: _ => s.get (STR_SAT_EN n) = 1
  | [] => false

/-- The exponent of a scale slot (R91). -/
def State.slotExp (s : State) (k : Nat) : Int := signed 8 (s.get (GLB_SCALE_SLOT_E k))

/-- Whether SCALED has meaning for a format (R89). -/
def scalable (fmt : Nat) : Bool := fmt = 1 || fmt = 2 || fmt = 6 || fmt = 7 || fmt = 8

/-- E of a tile's slot where the tile is SCALED in a format for which that has meaning, 0 otherwise: its values are the decoded ones
× 2^−E (R79, R89). R90's example of a factor 2^(E_new − E_old) has the opposite sign; the model keeps to R79 and R89 (DEDUCED, log entry
126). -/
def State.tileExp (s : State) (h : Nat) : Int := if hScaled h && scalable (hFmt h) then s.slotExp (hSlot h) else 0

/-- The input tile of a stream, or an empty tile. -/
def State.inputD (s : State) (n : Nat) : Tile := (s.input n).getD ⟨0⟩

/-- Produce the outputs of a firing stamped with SEQ, STEP and ORIGIN (R84), pass POISON on (R26), and consume its inputs
(R36). -/
def fireTiles (a : Alt) (outs : List (Nat × Tile)) : Act := .ask fun s =>
  let poisoned := a.inputs.any fun n => hPoison (s.inputD n).head
  let g := s.altGraph a
  .all [
    .each outs (fun o => .ask fun s' =>
      emit o.1 ((o.2.withPoison poisoned).stamp (s'.get (STR_NEXT_SEQ o.1)) (s.stepNum g) s.chipId)),
    .when poisoned (.each a.streams raisePoisoned),
    .each a.inputs consume]

/-- The end of a firing that is its step's only one: its tiles, and the step that follows (R36). -/
def finishFiring (e part : Nat) (a : Alt) (outs : List (Nat × Tile)) : Act := .seq (fireTiles a outs) (advance e part)

/-- The bound inputs whose tile fails R24. -/
def State.badInputs (s : State) (a : Alt) : List Nat := a.inputs.filter fun n => !headerValid (s.inputD n).head

/-- Whether a station has a firing in progress (VEC and DESK firings span commands; the others are whole). -/
def State.busy (s : State) (e : Nat) : Bool :=
  s.vecs.any (fun v => v.cluster.val * 8 + 4 = e) || s.desks.any (fun d => d.cluster.val * 8 + 7 = e)

/-- QUIESCED and BUSY of a station (R59, R60). A DESK stops after its current instruction, so that a firing which ENABLE = 0 has
stopped is not in progress (R63, R141). -/
def stnRefresh (e : Nat) : Act := .ask fun s =>
  let off := s.get (STN_CTRL_ENABLE e) = 0
  let busy := s.busy e && !(off && e < 0x120 && e % 8 = 7)
  .all [.set (STN_STATUS_BUSY e) (b2n busy), .set (STN_STATUS_QUIESCED e) (b2n (off && !busy))]

/-- The graph of a DESK operation word (R140). -/
def deskGraph (op : Nat) : Nat := bits op 4 3

/-- IDLE of a graph: no firing of it in progress (R181). -/
def idleRefresh (g : Nat) : Act := .ask fun s =>
  .set (GLB_STEP_STATE_IDLE g)
    (b2n (!(s.vecs.any (fun v => v.graph = g) || s.desks.any (fun d => deskGraph d.alt.op = g))))

end Sys2Proof.Machine
end

