-- ==== Sys2Proof/Machine/Access.lean ====
section
/-!
DEFINITION. The register access engine: which register covers a BAR0 offset, what a read of one of its words returns, and what
a write does by access code alone (R2–R6, R376). The effects that a chapter adds to a write of one of its registers are in
RegCmds.lean.
-/

namespace Sys2Proof.Machine

open Reg

/-- The element of a register row that covers an offset: its own base offset. -/
def RegDef.covers (r : RegDef) (off : Nat) : Option Nat :=
  if off < r.base then none
  else
    let d := off - r.base
    let i := if r.stride = 0 then 0 else d / r.stride
    if i < r.count && d - i * r.stride < r.size then some (r.base + r.stride * i) else none

/-- The register that covers a BAR0 offset, with its own offset; none at an undefined offset (R6). -/
def regAt (off : Nat) : Option (Nat × RegDef) := Reg.table.findSome? fun r => (r.covers off).map fun a => (a, r)

/-- The field of a register at offset `a`. -/
def FieldDef.at (f : FieldDef) (a : Nat) : Field := ⟨a * 8 + f.lo, f.width, f.reset⟩

/-- The part of a field that a 32-bit word holds: its low bit within the field, its width, and its low bit within the word;
none where the word holds none of it. `b` is the register bit at which the word starts. -/
def FieldDef.part (f : FieldDef) (b : Nat) : Option (Nat × Nat × Nat) :=
  if f.lo + f.width ≤ b || b + 32 ≤ f.lo then none
  else
    let lo := max f.lo b
    let hi := min (f.lo + f.width) (b + 32)
    some (lo - f.lo, hi - lo, lo - b)

/-- The 32-bit word at a word offset: reserved fields, WO fields and undefined offsets read 0 (R2, R5, R6). -/
def State.word (s : State) (off : Nat) : Nat :=
  match regAt off with
  | none => 0
  | some (a, r) =>
    r.fields.foldl (fun x f =>
      match f.part ((off - a) * 8) with
      | some (lo, n, p) => if f.acc = .wo then x else x + (bits (s.get (f.at a)) lo n) <<< p
      | none => x) 0

/-- What a write of `v` to a field does by its access code (R2): `lo`, `n` and `p` as in `FieldDef.part`. -/
def fieldWrite (f : FieldDef) (a lo n p v : Nat) : Act :=
  let x := bits v p n
  match f.acc with
  | .rw => .modify (f.at a) fun old => setBits old lo n x
  | .w1c => .modify (f.at a) fun old => setBits old lo n (bits old lo n &&& (2 ^ n - 1 - x))
  | .w1s => .modify (f.at a) fun old => setBits old lo n (bits old lo n ||| x)
  | .ro | .wo | .rc => .skip

/-- A 32-bit write by access codes alone; a write to an undefined offset is discarded (R2, R5, R6). -/
def plainWrite (off v : Nat) : Act :=
  match regAt off with
  | none => .skip
  | some (a, r) => .each r.fields fun f =>
    match f.part ((off - a) * 8) with
    | some (lo, n, p) => fieldWrite f a lo n p v
    | none => .skip

/-- Bits that a W1C write clears and that the hardware sets in the same cycle stay set (R4): `v` is what is written, `hw` what the
hardware sets. -/
def hardwareSets (off v hw : Nat) : Act :=
  match regAt off with
  | none => .skip
  | some (a, r) => .each r.fields fun f =>
    match f.part ((off - a) * 8) with
    | some (lo, n, p) =>
      if f.acc = .w1c then .modify (f.at a) fun old => setBits old lo n (bits old lo n ||| (bits v p n &&& bits hw p n)) else .skip
    | none => .skip

/-- The clear that a read of an RC field makes (R2). A hardware update in the same cycle is kept: what it counts or sets, `upd`, stands
in the field after the clear (R3). Of a field that straddles two words, a 32-bit read clears the part that it reads (DESIGN CHOICE, log
entry 120). -/
def readClear (off upd : Nat) : Act :=
  match regAt off with
  | none => .skip
  | some (a, r) => .each r.fields fun f =>
    match f.part ((off - a) * 8) with
    | some (lo, n, p) => if f.acc = .rc then .modify (f.at a) fun old => setBits old lo n (bits upd p n) else .skip
    | none => .skip

/-- Indices `n` whose field `f n` is listed in the register store, for fields `stride` bytes apart: every other one reads its
reset value. -/
def State.listed (s : State) (f0 : Field) (stride count : Nat) : List Nat :=
  s.regs.filterMap fun p =>
    if f0.key ≤ p.1 && (p.1 - f0.key) % (8 * stride) = 0 && (p.1 - f0.key) / (8 * stride) < count then
      some ((p.1 - f0.key) / (8 * stride)) else none

end Sys2Proof.Machine
end

