-- ==== Sys2Proof/Machine/Budgets.lean ====
section
/-!
DEFINITION. Operating modes (R15–R20), the budget period boundary with its allowances (R39–R45, R260, R373), and the selection
of the budget set (R364–R369).
-/

namespace Sys2Proof.Machine

open Reg

/-! Capacities (R39). -/

/-- A capacity that grows with the period, in twentieths of a unit: 1, 5/4 and 8/5 of it in modes P, B and E (R11, R39). -/
def perMode (mode n : Nat) : Nat := if mode = 1 then n * 25 else if mode = 2 then n * 32 else n * 20

/-- Whole frames per period of a member link (R246). -/
def framesPerPeriod (mode : Nat) : Nat := if mode = 1 then 9555 else if mode = 2 then 12230 else 7644

/-- Members of a port in state UP with ENABLE = 1 (R260). -/
def State.portUp (s : State) (p : Nat) : Nat :=
  ((List.range 36).filter fun l => bitAt (s.get (LNK_PORT_MEMBERS_MEMBERS p)) l && s.get (LNK_STATE_STATE l) = 6 &&
    s.get (STN_CTRL_ENABLE (0x140 + l)) = 1).length

/-- The rate code of HST_LINK in units of half a GT/s (R396). -/
def pcieRate (r : Nat) : Nat := ([0, 5, 10, 16, 32, 64, 128][r]?).getD 0

/-- CAP of HOST in mode P at the trained rate and width (R373). -/
def State.hostCap (s : State) : Nat := 77440 * (pcieRate (s.get HST_LINK_RATE) * s.get HST_LINK_WIDTH) / (128 * 16)

/-- CAP of each class per station and period in the present mode (R39), in twentieths of a unit, so that it is exact in every mode. -/
def State.cap (s : State) (c : BudgetClass) : Nat :=
  match c with
  | .bench | .vector => 20 * 65536
  | .drawer => 20 * 1310720
  | .shelf => perMode s.mode (if s.get SHF_GLB_CFG_SPEED = 1 then 65536 else 45056)
  | .hostOut | .hostIn => perMode s.mode s.hostCap
  | .chest => perMode s.mode 18432

/-- What a bandwidth-class debt is limited to: one tile's worth (R41). -/
def tileDebt : Nat := 513

/-- The allowance of a new period: the share of CAP, rounded down once, less the carried debt (R39, R41). `cap` counts twentieths of a
unit. -/
def freshAllow (share cap : Nat) (old : Int) (limit : Nat) : Int := (share * cap / (20 * 1024) : Nat) - min (max 0 (-old)) limit

/-- The stations that charge a budget: endpoint, part, class. -/
def State.chargers (s : State) : List (Nat × Nat × BudgetClass) :=
  (List.range 36).flatMap (fun c =>
    (List.range 4).flatMap (fun b =>
      if s.get (CLU_BENCH_CFG_SPLIT c b) = 1 then [(8 * c + b, 1, .bench), (8 * c + b, 2, .bench)] else [(8 * c + b, 0, .bench)]) ++
    [(8 * c + 4, 0, .vector), (8 * c + 5, 0, .vector), (8 * c + 6, 0, .drawer)]) ++
  (List.range 16).map (fun i => (0x130 + i, 0, .shelf)) ++ [(0x170, 0, .hostOut), (0x170, 1, .hostIn), (0x178, 0, .chest)]

/-- The debt limit of a budget key: 513 units in a bandwidth class, the length of the firing that made the debt in a time class
(R41). -/
def State.debtLimit (s : State) (c : BudgetClass) (k : Nat) : Nat :=
  match c with
  | .bench | .vector => s.rd .fireLen k
  | _ => tileDebt

/-- Every allowance at a period boundary, from the set in force and the capacities now (R39, R41, R234, R235, R260). With
`carry` false every debt is 0 (R356). -/
def State.allowances (s : State) (carry : Bool) : List (Nat × Int) :=
  let old (k : Nat) : Int := if carry then s.allowance k else 0
  let stations := s.chargers.flatMap fun x => (List.range 8).filterMap fun g =>
    let k := allowKey x.1 x.2.1 g
    let v := freshAllow (s.share x.2.2 g) (s.cap x.2.2) (old k) (s.debtLimit x.2.2 k)
    if v = 0 then none else some (k, v)
  let ports := (List.range 16).flatMap fun p => [0, 1].flatMap fun dir => (List.range 8).filterMap fun g =>
    let k := allowKey (512 + p) dir g
    let share := if dir = 0 then s.get (GLB_SET_SEND (s.get GLB_BUDGET_SET_CUR) g p) else
      s.get (GLB_SET_RECV (s.get GLB_BUDGET_SET_CUR) g p)
    let v := freshAllow share (20 * (16 * framesPerPeriod s.mode * s.portUp p)) (old k) tileDebt
    if v = 0 then none else some (k, v)
  stations ++ ports

/-! The mode switch (R16–R20). -/

/-- A write to PWR_OPMODE.REQ (R16, R20). A cancelled switch leaves a supply that it has raised where it stands, and a later request for
a mode at or below that level needs no new raise (DESIGN CHOICE, log entry 122). -/
def modeRequest (m : Nat) : Act := .ask fun s =>
  if m = 3 then .skip
  else if s.asleep then .set PWR_OPMODE_REQ m
  else if !s.running then .skip
  else .all [.set PWR_OPMODE_REQ m, .set PWR_OPMODE_STBY_LOCK 0, .set PWR_OPMODE_PENDING (b2n (m ≠ s.get PWR_OPMODE_CUR))]

/-- A pending switch may take effect: the standby PLL is locked, and the supply stands at the level the mode needs (R16). The
modes fall in frequency from 0 to 2. -/
def State.switchReady (s : State) : Bool :=
  s.get PWR_OPMODE_PENDING = 1 && s.get PWR_OPMODE_STBY_LOCK = 1 && s.supply ≤ s.get PWR_OPMODE_REQ

/-- The hand-over of the root (R16). -/
def switchMode : Act := .ask fun s =>
  .when s.switchReady (.all [
    .set PWR_OPMODE_CUR (s.get PWR_OPMODE_REQ), .set PWR_OPMODE_PENDING 0, .set PWR_OPMODE_DONE 1, .set PWR_OPMODE_STBY_LOCK 0,
    .modify PWR_OPMODE_SWITCH_SEQ (· + 1), .upd (.supply (s.get PWR_OPMODE_REQ))])

def execModeRequest (m : BitVec 2) (s : State) : Host.Outcome State Fault Refusal := .next ((modeRequest m.toNat).run s)
def execStbyPllLock (s : State) : Host.Outcome State Fault Refusal :=
  live (Act.when (s.get PWR_OPMODE_PENDING = 1) (.set PWR_OPMODE_STBY_LOCK 1)) s
def execSupplyRaiseSettled (s : State) : Host.Outcome State Fault Refusal :=
  live (Act.when (s.get PWR_OPMODE_PENDING = 1 && s.get PWR_OPMODE_STBY_LOCK = 1 && s.get PWR_OPMODE_REQ < s.supply)
    (.upd (.supply (s.get PWR_OPMODE_REQ)))) s

/-! The budget set (R367–R369). -/

/-- BUDGET commands of the host complete when their change takes effect or is cancelled, with CHANGE_SEQ (R379, R381). -/
def finishBudgets : Act := .ask fun s =>
  .each (s.inflight.filter fun c => c.opcode = 8 && c.started) fun c => finishCmd c 0 (s.get GLB_BUDGET_SET_CHANGE_SEQ)

/-- A write to SEL (R368): `late` in the last cycle of a period. A later write ends a change that waits. -/
def budgetSelect (sel : Nat) (late : Bool) : Act := .ask fun s =>
  .when (s.get GLB_PLAN_STATUS_LOAD_STATE ≠ 3) (.all [
    finishBudgets, .set GLB_BUDGET_SET_SEL sel, .set GLB_BUDGET_SET_PENDING (b2n (sel % 4 ≠ s.get GLB_BUDGET_SET_CUR)),
    .upd (.selLate late)])

/-- The change of set at a boundary (R368). -/
def changeSet : Act := .ask fun s =>
  if s.selLate then .upd (.selLate false)
  else .when (s.get GLB_BUDGET_SET_PENDING = 1) (.all [
    .set GLB_BUDGET_SET_CUR (s.get GLB_BUDGET_SET_SEL), .set GLB_BUDGET_SET_PENDING 0, .set GLB_BUDGET_SET_DONE 1,
    .modify GLB_BUDGET_SET_CHANGE_SEQ (· + 1),
    .each (s.listed (STR_WD_COUNT 0) 0x40 262144) (fun n => .set (STR_WD_COUNT n) 0),
    finishBudgets])

/-- Members counted in CAP at the boundary (R260, R270). -/
def countMembers : Act := .ask fun s => .each (List.range 16) fun p => .set (LNK_PORT_CFG_UP p) (s.portUp p)

/-- A budget period ends and the next begins (R16, R19, R39, R368). -/
def periodBoundary : Act :=
  .all [
    switchMode, changeSet, .ask (fun t => .seq (.upd (.allow (t.allowances true))) (.upd (.period (t.period + 1)))), countMembers,
    .upd (.clear .lastFire)]

def execBudgetPeriodBoundary (s : State) : Host.Outcome State Fault Refusal := live periodBoundary s
def execBudgetSetSelect (sel : BitVec 2) (late : Bool) (s : State) : Host.Outcome State Fault Refusal :=
  live (budgetSelect sel.toNat late) s

end Sys2Proof.Machine
end

