-- ==== Sys2Proof/Config.lean ====
section
/-!
DEFINITION. What the spec leaves open and this model leaves free: opaque constants without a body, so that no proof can see a
value of one. Each is named in a row of notes/assumptions.
-/

namespace Sys2Proof.Config

/-- A free 32-bit word, fresh for each value of the model's own counter `State.free`: a value the spec does not state. -/
opaque freeWord : Nat → BitVec 32

/-- l and phase of the counter c1 with which COLL results are rounded under SR as they are emitted, as l + 4 × phase: R319 takes them
from a message, and an emission is none (log entry 37). -/
opaque emitStage : BitVec 3

/-- c2 of a firing of cluster `c`'s VEC that binds no stream (R135; log entry 37). -/
opaque noStream : Nat → BitVec 18

/-- Verification of a Falcon-1024 signature (R350, R400, R411): key, message and signature, each as bytes (FIPS 206 gives the
algorithm; the spec gives none). -/
opaque falconVerify : List Byte → List Byte → List Byte → Bool

/-- The Falcon-1024 signature by this chip's identity key over a message (R410): the secret that seals the key, and the message. -/
opaque falconSign : Nat → List Byte → BitVec 10240

/-- The data area of a page of the chest's directory or block table (R456, R458): the ROLE, the page's index and what it records. The spec
gives no layout. -/
opaque chestTable : Nat → Nat → List Nat → BitVec 131072

/-- The function's Vendor ID (R374, R409): the spec gives none. -/
opaque vendorId : BitVec 16

/-- ISSUED, CA_KEY_ID, ID_PUB and SIG of this chip's identity certificate (R406). -/
opaque certIssued : BitVec 64
opaque certCaKeyId : BitVec 64
opaque certIdPub : BitVec 14344
opaque certSig : BitVec 10240

/-- The bytes of an item that a measurement register takes from fuse or register fields (R407): the register and the field values
in the order in which the spec names them. The spec names the fields and gives no layout. -/
opaque measItem : Nat → List Nat → List Byte

end Sys2Proof.Config
end

