-- ==== Sys2Proof/Machine/Cg.lean ====
section
/-!
DEFINITION. The counter-based generator CG and its uses (R166–R169, R80, R135).
-/

namespace Sys2Proof.Machine

/-- Rotate a 32-bit word left. -/
def rotl (x r : Nat) : Nat := ((x <<< r) % 2 ^ 32) ||| (x >>> (32 - r))

/-- One of the ten rounds of R166; the state is (x0, x1, x2, x3, k0, k1). -/
def cgRound (i a b : Nat) (x : Nat × Nat × Nat × Nat × Nat × Nat) : Nat × Nat × Nat × Nat × Nat × Nat :=
  let (x0, x1, x2, x3, k0, k1) := x
  let x0 := (x0 + x1) % 2 ^ 32
  let x3 := rotl (x3 ^^^ x0) a
  let x2 := (x2 + x3) % 2 ^ 32
  let x1 := rotl (x1 ^^^ x2) b
  if i % 2 = 1 then (x0 ^^^ k0, x1, x2 ^^^ k1, x3, (k0 + 0x9E3779B9) % 2 ^ 32, (k1 + 0xBB67AE85) % 2 ^ 32)
  else (x0, x1, x2, x3, k0, k1)

/-- The rotation counts A and B of R166, by round. -/
def cgRotations : List (Nat × Nat × Nat) :=
  [(0, 16, 12), (1, 12, 8), (2, 8, 7), (3, 7, 16), (4, 13, 9), (5, 11, 13), (6, 5, 11), (7, 9, 5), (8, 14, 6), (9, 6, 14)]

/-- CG: four output words from the key (k0, k1) and the counter (c0, c1, c2, c3) (R166). -/
def cg (k0 k1 c0 c1 c2 c3 : Nat) : List Nat :=
  let r := cgRotations.foldl (fun x p => cgRound p.1 p.2.1 p.2.2 x) (c0, c1, c2, c3, k0, k1)
  [(r.1 + c0) % 2 ^ 32, (r.2.1 + c1) % 2 ^ 32, (r.2.2.1 + c2) % 2 ^ 32, (r.2.2.2.1 + c3) % 2 ^ 32]

/-- The generator under a 64-bit seed at a 64-bit position (R167). -/
def cgAt (seed p c2 c3 : Nat) : List Nat :=
  cg (bits seed 0 32) (bits seed 32 32) (bits p 0 32) (bits p 32 32) (c2 % 2 ^ 32) (c3 % 2 ^ 32)

/-- The 16 bits that element `k` of a group of eight takes: the low half of word ⌊k ÷ 2⌋ when k is even, the high half when k is
odd (R80). -/
def groupHalf (ws : List Nat) (k : Nat) : Nat := bits ((ws[k / 2]?).getD 0) (16 * (k % 2)) 16

/-- Whether entry `i` of the bucket with tag `t` is selected for the sampled check of step `step` at rate 2^−l (R169). -/
def sampled (seed t step l i : Nat) : Bool :=
  ((cgAt seed (i / 4) (0x80000000 + t) step)[i % 4]?).getD 0 < 2 ^ (32 - l)

end Sys2Proof.Machine
end

