-- ==== Sys2Proof/Machine/Conv.lean ====
section
/-!
DEFINITION. The converter station: CONVERT, STASH_ENC, STASH_DEC, COPY and COMPENSATE firings, and the clears of its counters
(R69–R96, R172, R173, R505).
-/

namespace Sys2Proof.Machine

open Reg

/-! Source elements. -/

/-- The exact value of a code of an unscaled format, with the flags of reading it (R67, R69–R71, R75, R76, R96). -/
def readCode (flush : Bool) (fmt c : Nat) : Val × Nat :=
  match fmt with
  | 0x01 => (Val.ofInt (signed 4 c), 0)
  | 0x02 => (Val.ofInt (signed 8 c), 0)
  | 0x03 => (Val.ofInt (signed 32 c), 0)
  | 0x06 => (kf8.decode c, 0)
  | 0x07 => (kf8w.decode c, 0)
  | 0x08 => (fp16.decode c, 0)
  | 0x09 => bf16.read flush c
  | 0x0A => fp32.read flush c
  | 0x0B => (Val.ofInt c, 0)
  | _ => (Val.zero, 0)

/-- The exact value of a code under a scale byte (R72, R95). -/
def readScaled (fmt c e : Nat) : Val :=
  if e = 0 then Val.zero
  else if e = 0xFF then .nan
  else
    let v := match fmt with
      | 0x04 => Val.ofInt (signed 4 c)
      | 0x05 => Val.ofInt (signed 8 c)
      | _ => kf8.decode c
    v.scale ((e : Int) - 127)

/-- The exact value of element `i` of row `r` of a tile, with the flags of reading it: a NaN raises NAN_IN (R158). -/
def readElem (flush : Bool) (h p r i : Nat) : Val × Nat :=
  let fmt := hFmt h
  let c := elemCode h p ((elemBits fmt).getD 8) r i
  let v := if fmtBsk fmt = 0 then readCode flush fmt c else (readScaled fmt c (scaleByte h p r i), 0)
  (v.1, v.2 ||| (if v.1.isNan then fNanIn else 0))

/-! Destination rows. -/

/-- Whether m × 2^e ≤ q × 2^k. -/
def leScaled (m : Nat) (e : Int) (q : Nat) (k : Int) : Bool :=
  if e ≤ k then m ≤ q <<< (k - e).toNat else m <<< (e - k).toNat ≤ q

/-- The smallest integer k with m × 2^e ≤ q × 2^k, for m and q above 0. -/
def leastScale (m : Nat) (e : Int) (q : Nat) : Int :=
  let k0 : Int := (Nat.log2 m : Int) + e - Nat.log2 q
  if leScaled m e q (k0 - 1) then k0 - 1 else if leScaled m e q k0 then k0 else k0 + 1

/-- The scale byte of a block with greatest magnitude m × 2^e (R73, R95): the byte, and SATURATE or OVERFLOW. -/
def scaleFor (q : Nat) (sat : Bool) (m : Nat) (e : Int) : Nat × Nat :=
  if m = 0 then (0, 0)
  else
    let k := max (leastScale m e q + 127) 1
    if k > 254 then (if sat then (254, fSaturate) else (0xFF, fOverflow)) else (k.toNat, 0)

/-- The larger of two magnitudes. -/
def maxMag (a b : Nat × Int) : Nat × Int := if (Val.fin false a.1 a.2).cmp (.fin false b.1 b.2) < 0 then b else a

/-- What a conversion of a run of elements gives: codes in order, scale bytes in order, flags, and lost non-zero elements. -/
structure Converted where
  codes : List Nat
  scales : List Nat
  flags : Nat
  lost : Nat
  deriving DecidableEq, Repr

/-- One block of BQ8, BQ4 or KF8R (R73, R95): elements with their roundings. -/
def convertBlock (fmt : Nat) (sat : Bool) (xs : List (Val × Rnd)) : Converted :=
  let qmax := if fmt = 0x04 then 7 else if fmt = 0x05 then 127 else 480
  if xs.any fun x => !x.1.isFinite then ⟨xs.map fun _ => 0, [0xFF], fNanIn, 0⟩
  else
    let a := xs.foldl (fun a x => match x.1 with
      | .fin _ m e => maxMag a (m, e)
      | _ => a) (0, 0)
    let sc := scaleFor qmax sat a.1 a.2
    if sc.1 = 0 ∨ sc.1 = 0xFF then ⟨xs.map fun _ => 0, [sc.1], sc.2, 0⟩
    else
      let codes := xs.map fun x =>
        let v := x.1.scale (127 - (sc.1 : Int))
        if fmt = 0x0C then (kf8.round x.2 false true v).1
        else
          match v with
          | .fin s m e =>
            let k := min (roundMag x.2 m e 0) qmax
            unsigned (if fmt = 0x04 then 4 else 8) (if s then -(k : Int) else k)
          | _ => 0
      ⟨codes, [sc.1], sc.2, ((xs.zip codes).filter fun p => !p.1.1.isZero && p.2 = 0).length⟩

/-- One element of an unblocked destination (R81, R96): the code and its flags. A NaN raised NAN_IN where it was read, and one that an
operation produced raises none here (R158). -/
def convertElem (fmt : Nat) (flush sat : Bool) (rnd : Rnd) (v : Val) : Nat × Nat :=
  match fmt with
  | 0x01 => roundInt 4 rnd v
  | 0x02 => roundInt 8 rnd v
  | 0x03 => roundInt 32 rnd v
  | 0x06 => let r := kf8.round rnd false sat v; (r.1, r.2 ||| (if v.isInf then fNanIn else 0))
  | 0x07 => let r := kf8w.round rnd false sat v; (r.1, r.2 ||| (if v.isInf then fNanIn else 0))
  | 0x08 => fp16.round rnd false sat v
  | 0x09 => bf16.round rnd flush sat v
  | 0x0A => fp32.round rnd flush sat v
  | 0x0B => (if v.cmp Val.zero > 0 && !v.isNan then 1 else 0, 0)
  | _ => (0, 0)

/-- Split a list into runs of `k`. -/
def chunks {α : Type} (k : Nat) (l : List α) : List (List α) :=
  (List.range (ceilDiv l.length k)).map fun i => (l.drop (i * k)).take k

/-- One row of elements into a destination format. -/
def convertRow (fmt : Nat) (flush sat : Bool) (xs : List (Val × Rnd)) : Converted :=
  let parts : List Converted :=
    if fmtBsk fmt = 1 then (chunks 32 xs).map (convertBlock fmt sat)
    else if fmtBsk fmt = 2 then [convertBlock fmt sat xs]
    else
      let r := xs.map fun x => convertElem fmt flush sat x.2 x.1
      [⟨r.map (·.1), [], r.foldl (fun f x => f ||| x.2) 0, 0⟩]
  ⟨parts.flatMap (·.codes), parts.flatMap (·.scales), parts.foldl (fun f x => f ||| x.flags) 0,
    parts.foldl (fun n x => n + x.lost) 0⟩

/-- Lay rows of codes out as a CONV output tile's payload (R84): element rows packed from byte 0, scale bytes after them. -/
def layRows (w rowBytes : Nat) (rows : List (List Nat)) (scales : List Nat) : Nat :=
  packFast (8 * rowBytes) (rows.map (packFast w)) + (packFast 8 scales) <<< (8 * rowBytes * rows.length)

/-- PAYLOAD_LEN of a CONV output (R84). -/
def outLen (fmt rows cols : Nat) : Nat := rows * rowLen fmt cols + scaleBytes (fmtBsk fmt) rows cols

/-- The header of a CONV output but for SEQ, STEP and ORIGIN (R84). -/
def outHeader (src fmt : Nat) (scaled : Bool) (slot : Nat) : Nat :=
  let rows := hRows src
  let cols := hCols src
  let rb := rowLen fmt cols
  mkHeader fmt (hPoison src) (hLast src) scaled rows cols rb (if scaled then slot else 0)
    (if fmtBsk fmt = 0 then 0 else rows * rb) (fmtBsk fmt) 0 0 0 (outLen fmt rows cols)

/-! The operation word (R83). -/

def cwKind (w : Nat) : Nat := bits w 0 4
def cwDst (w : Nat) : Nat := bits w 4 8
def cwRound (w : Nat) : Bool := bitAt w 12
def cwOutScaled (w : Nat) : Bool := bitAt w 13
def cwOutSlot (w : Nat) : Nat := bits w 16 14
def cwAmaxReg (w : Nat) : Nat := bits w 30 3
def cwAmaxEn (w : Nat) : Bool := bitAt w 33

/-- The numeric formats (R83). -/
def numericFmt (f : Nat) : Bool := 1 ≤ f && f ≤ 0x0A

/-- Whether a kind accepts a source format (R505). -/
def cwAccepts (w fmt : Nat) : Bool :=
  let wide (f : Nat) : Bool := f = 0x08 || f = 0x09 || f = 0x0A
  match cwKind w with
  | 0 => numericFmt fmt
  | 1 => if wide (cwDst w) then fmt = cwDst w else wide fmt
  | 2 => wide fmt || fmt = 0x0C || fmt = 0x04 || fmt = 0x0B
  | _ => true

/-- The endpoint of cluster `c`'s CONV (R28). -/
def convEp (c : Nat) : Nat := c * 8 + 5

/-- The rounding of element (row, col) of tile `t` of an output stream (R80). -/
def srAt (sr : Bool) (seed t stream step r i : Nat) : Rnd :=
  if sr then .sr (groupHalf (cgAt seed (t * 2 ^ 23 + r * 2 ^ 16 + (i / 8) * 8) stream step) (i % 8)) else .rne

/-- The running maximum of the amax codes of a list of values (R88). -/
def amaxOf (vs : List Val) : Nat := vs.foldl (fun a v => max a (amaxCode v)) 0

/-- Fold an amax into the running register (R88). -/
def gatherAmax (c w a : Nat) : Act :=
  .when (cwAmaxEn w) (.modify (CLU_CONV_AMAX_AMAX c (cwAmaxReg w)) (max a))

/-- Fold an amax and a saturation into the output slot (R88, R92). -/
def gatherSlot (k a fl : Nat) : Act :=
  .seq (.modify (GLB_SCALE_SLOT_AMAX k) (max a))
    (.when (bitAt fl 2 || bitAt fl 4) (.set (GLB_SCALE_SLOT_SAT_STEP k) 1))

/-- CONV firing time: 25 + P CCLK cycles (R86). -/
def convCycles (h per : Nat) : Nat := 25 + ceilDiv (hRows h * hCols h) per

/-- Whether a firing stores the raw codec, which restores its source exactly (R94): element codes are copied, neither flushed nor rounded.
A tile whose exponent differs from the output's is converted as R79 has it (DESIGN CHOICE, log entry 30). -/
def rawStash (w : Nat) (ein eout : Int) : Bool := cwKind w = 1 && (cwDst w = 0x08 || cwDst w = 0x09 || cwDst w = 0x0A) && ein = eout

/-- A row of a raw stash: the source's codes, with the flags of reading them. -/
def rawRow (h p r cols : Nat) : Converted :=
  ⟨(List.range cols).map fun k => elemCode h p ((elemBits (hFmt h)).getD 8) r k, [], 0, 0⟩

/-- A CONVERT, STASH_ENC or STASH_DEC firing on a tile that its kind accepts (R79–R96). -/
def convertFire (c : Nat) (a : Alt) (i o : Nat) : Act := .ask fun s =>
  let t := s.inputD i
  let h := t.head
  let p := t.payload
  let w := a.op
  let dst := cwDst w
  let g := s.altGraph a
  let flush := s.flushOf a
  let sat := s.satOf a
  let scaled := cwOutScaled w && scalable dst
  if outLen dst (hRows h) (hCols h) > 32768 then badHeader i
  else
    let ein := s.tileExp h
    let eout := if scaled then s.slotExp (cwOutSlot w) else 0
    let tn := s.rd .stepTile o
    let cols := List.range (hCols h)
    let raw := rawStash w ein eout
    let src : List (List (Val × Nat)) := (List.range (hRows h)).map fun r => cols.map fun k =>
      let x := readElem (flush && !raw) h p r k
      (x.1.scale (-ein), x.2)
    let rows : List Converted := (src.zip (List.range (hRows h))).map fun rr =>
      if raw then rawRow h p rr.2 (hCols h) else convertRow dst flush sat ((rr.1.zip cols).map fun xk =>
        (xk.1.1.scale eout, srAt (cwRound w) s.seed tn o (s.stepNum g) rr.2 xk.2))
    let fl := (rows.foldl (fun f x => f ||| x.flags) 0) ||| (src.foldl (fun f r => r.foldl (fun f x => f ||| x.2) f) 0)
    let am := amaxOf (src.flatMap fun r => r.map (·.1))
    let pay := layRows ((elemBits dst).getD 8) (rowLen dst (hCols h)) (rows.map (·.codes)) (rows.flatMap (·.scales))
    .all [
      countBy (CLU_CONV_LOST_NONZERO_COUNT c) (CLU_CONV_LOST_NONZERO_OVF c) (rows.foldl (fun n x => n + x.lost) 0),
      gatherAmax c w am,
      .when (scaled && cwKind w ≠ 2) (gatherSlot (cwOutSlot w) am fl),
      raiseFlags o fl,
      charge (allowKey (convEp c) 0 g) (convCycles h 256),
      finishFiring (convEp c) 0 a [(o, Tile.of (outHeader h dst scaled (cwOutSlot w)) pay)]]

/-- A COPY firing (R83): the tile unchanged but for SEQ, STEP and ORIGIN. -/
def copyFire (c : Nat) (a : Alt) (i o : Nat) : Act := .ask fun s =>
  let t := s.inputD i
  .seq (charge (allowKey (convEp c) 0 (s.altGraph a)) (convCycles t.head 256))
    (finishFiring (convEp c) 0 a [(o, t)])

/-- One element of a compensated update (R172, R173): p′, c′, the exact value of p′, and the flags. -/
def compensateElem (flush sat : Bool) (p c u : Val × Nat) : Nat × Nat × Val × Nat :=
  let nan := if p.1.isNan || c.1.isNan || u.1.isNan then fNanIn else 0
  let s1 := u.1.add c.1
  let sr := fp32.round .rne flush false s1.1
  let s := fp32.decode sr.1
  let t1 := p.1.add s
  let tr := fp32.round .rne flush false t1.1
  let t := fp32.decode tr.1
  let pr := bf16.round .rne flush sat t
  let p' := bf16.decode pr.1
  let d := t.add p'.neg
  let cr := if p'.isFinite then bf16.round .rne flush false d.1 else (0, 0)
  let produced := (if s1.2 = fInvalid then fInvalid else 0) ||| (if t1.2 = fInvalid then fInvalid else 0)
  (pr.1, cr.1, p', p.2 ||| c.2 ||| u.2 ||| nan ||| produced ||| sr.2 ||| tr.2 ||| pr.2 ||| cr.2)

/-- The input streams of a COMPENSATE firing whose tile has a wrong format or a shape other than the parameter tile's (R172,
R505). -/
def State.compensateBad (s : State) (p c u : Nat) : List Nat :=
  let hp := (s.inputD p).head
  let shape (n : Nat) : Bool := hRows (s.inputD n).head = hRows hp && hCols (s.inputD n).head = hCols hp
  (if hFmt hp = 0x09 then [] else [p]) ++
  (if hFmt (s.inputD c).head = 0x09 && shape c then [] else [c]) ++
  (if (hFmt (s.inputD u).head = 0x09 || hFmt (s.inputD u).head = 0x0A) && shape u then [] else [u])

/-- The input streams whose tile keeps a firing from starting (R24, R172, R505): each tile that fails R24, and each one whose format, or
for COMPENSATE shape, is not accepted. -/
def State.convBad (s : State) (a : Alt) : List Nat :=
  let other := match cwKind a.op, a.inputs with
    | 4, [p, k, u] => s.compensateBad p k u
    | _, _ => []
  a.inputs.filter fun n => !headerValid (s.inputD n).head || !cwAccepts a.op (hFmt (s.inputD n).head) || other.contains n

/-- A COMPENSATE firing (R172, R173). Each output has the header that R84 gives it with p's or c's tile as the input: p′ copies LAST from p,
and c′ from c (DESIGN CHOICE, log entry 125). -/
def compensateFire (c : Nat) (a : Alt) (ip ic iu op oc : Nat) : Act := .ask fun s =>
  let tp := s.inputD ip
  let tc := s.inputD ic
  let tu := s.inputD iu
  let h := tp.head
  let flush := s.flushOf a
  let sat := s.satOf a
  let rd (t : Tile) (r k : Nat) : Val × Nat :=
    readCode flush (hFmt t.head) (elemCode t.head t.payload ((elemBits (hFmt t.head)).getD 8) r k)
  let rows := (List.range (hRows h)).map fun r => (List.range (hCols h)).map fun k =>
    compensateElem flush sat (rd tp r k) (rd tc r k) (rd tu r k)
  let fl := rows.foldl (fun f r => r.foldl (fun f x => f ||| x.2.2.2) f) 0
  let rb := rowLen 0x09 (hCols h)
  if outLen 0x09 (hRows h) (hCols h) > 32768 then badHeader ip
  else .all [
    gatherAmax c a.op (amaxOf (rows.flatMap fun r => r.map fun x => x.2.2.1)),
    raiseFlags op fl, raiseFlags oc fl,
    charge (allowKey (convEp c) 0 (s.altGraph a)) (convCycles h 128),
    finishFiring (convEp c) 0 a
      [(op, Tile.of (outHeader h 0x09 false 0) (layRows 16 rb (rows.map fun r => r.map (·.1)) [])),
       (oc, Tile.of (outHeader tc.head 0x09 false 0) (layRows 16 rb (rows.map fun r => r.map (·.2.1)) []))]]

/-- Readiness of a CONV alternative (R37). -/
def State.convReady (s : State) (c : Nat) (a : Alt) : Bool := s.altReady a && s.altFunded .vector (convEp c) 0 a

/-- A CONV firing of kind `kind` on its first ready alternative: R24 and R505 are checked first, and a tile that fails stays in
its slot with BAD_HEADER on its stream (R25). -/
def convFire (c kind : Nat) : Act := .ask fun s =>
  fireOn (convEp c) 0 (s.convReady c) (fun a => cwKind a.op = kind) fun a =>
    let bad := s.convBad a
    if bad ≠ [] then .each bad badHeader
    else
      match kind, a.inputs, a.outputs with
      | 4, [p, k, u], [op, oc] => compensateFire c a p k u op oc
      | 3, [i], [o] => copyFire c a i o
      | 4, _, _ => .skip
      | _, [i], [o] => convertFire c a i o
      | _, _, _ => .skip

/-! The meanings. -/

def execConvert (c : Cluster) (s : State) : Host.Outcome State Fault Refusal := live (convFire c 0) s
def execStashEnc (c : Cluster) (s : State) : Host.Outcome State Fault Refusal := live (convFire c 1) s
def execStashDec (c : Cluster) (s : State) : Host.Outcome State Fault Refusal := live (convFire c 2) s
def execCopy (c : Cluster) (s : State) : Host.Outcome State Fault Refusal := live (convFire c 3) s
def execCompensate (c : Cluster) (s : State) : Host.Outcome State Fault Refusal := live (convFire c 4) s

/-- CLR_LOST (R87): COUNT and OVF of CLU_CONV_LOST_NONZERO become 0. -/
def clrLost (c : Nat) : Act := countClear (CLU_CONV_LOST_NONZERO_COUNT c) (CLU_CONV_LOST_NONZERO_OVF c)

/-- CLR_AMAX (R87): running amax register k becomes +0. -/
def clrAmax (c k : Nat) : Act := .set (CLU_CONV_AMAX_AMAX c k) 0

def execClrLost (c : Cluster) (s : State) : Host.Outcome State Fault Refusal := live (clrLost c) s
def execClrAmax (c : Cluster) (k : Fin 8) (s : State) : Host.Outcome State Fault Refusal := live (clrAmax c k) s

end Sys2Proof.Machine
end

