-- ==== Sys2Proof/Machine/Crc.lean ====
section
/-!
DEFINITION. The cyclic redundancy check of R441 over a byte string, and the presets of R443 that the chip's fixed logic uses.
-/

namespace Sys2Proof.Machine

/-- reflectK: the low `k` bits of `x` in reverse order (R441). -/
def reflect : Nat → Nat → Nat
  | 0, _ => 0
  | k + 1, x => (x % 2) <<< k + reflect k (x / 2)

/-- A configuration of the computation (R441, R442). -/
structure CrcCfg where
  width : Nat
  poly : Nat
  init : Nat
  refin : Bool
  refout : Bool
  xorout : Nat
  deriving DecidableEq, Repr

/-- One bit of a byte into the register (R441). -/
def CrcCfg.bit (c : CrcCfg) (reg : Nat) (b : Bool) : Nat :=
  let top := bitAt reg (c.width - 1) != b
  let sh := (reg <<< 1) % 2 ^ c.width
  bif top then sh ^^^ c.poly else sh

/-- One byte into the register (R441). -/
def CrcCfg.byte (c : CrcCfg) (reg : Nat) (b : Byte) : Nat :=
  let x := bif c.refin then reflect 8 b.toNat else b.toNat
  [7, 6, 5, 4, 3, 2, 1, 0].foldl (fun r i => c.bit r (bitAt x i)) reg

/-- Fold a byte string into the register (R441). -/
def CrcCfg.fold (c : CrcCfg) (reg : Nat) (bs : List Byte) : Nat := bs.foldl c.byte reg

/-- The check value of a register (R441). -/
def CrcCfg.check (c : CrcCfg) (reg : Nat) : Nat := (bif c.refout then reflect c.width reg else reg) ^^^ c.xorout

/-- The CRC-32C preset (R443). -/
def crc32cCfg : CrcCfg := ⟨32, 0x1EDC6F41, 0xFFFFFFFF, true, true, 0xFFFFFFFF⟩

/-- The CRC-64 preset (R443). -/
def crc64Cfg : CrcCfg := ⟨64, 0x42F0E1EBA9EA3693, 0xFFFFFFFFFFFFFFFF, true, true, 0xFFFFFFFFFFFFFFFF⟩

/-- CRC-32C of a byte string. -/
def crc32c (bs : List Byte) : Nat := crc32cCfg.check (crc32cCfg.fold crc32cCfg.init bs)

/-- CRC-64 of a byte string. -/
def crc64 (bs : List Byte) : Nat := crc64Cfg.check (crc64Cfg.fold crc64Cfg.init bs)

/-- Whether a configuration is valid, reserved bits apart (R442). -/
def CrcCfg.valid (c : CrcCfg) : Bool :=
  8 ≤ c.width && c.width ≤ 64 && c.poly % 2 = 1 && c.poly < 2 ^ c.width && c.init < 2 ^ c.width && c.xorout < 2 ^ c.width

end Sys2Proof.Machine
end

