-- ==== Sys2Proof/Machine/Cells.lean ====
section
/-!
DEFINITION. Cells and frames as bytes: the cell header, payload and check value (R209–R211), and the frame of 16 cell positions
with its trailer (R223, R224).
-/

namespace Sys2Proof.Machine

/-- The `n` low bytes of a number, most significant first (R209, R224). -/
def beBytes (n v : Nat) : List Byte := (leBytes n v).reverse

/-- Bytes as a number, most significant first. -/
def beNat (bs : List Byte) : Nat := leNat bs.reverse

/-- Bits [95:0] of the cell header (R210). -/
def cellHeader (c : Cell) : Nat :=
  c.reserved.toNat + c.hops.toNat <<< 3 + b2n c.last <<< 9 + b2n c.mcast <<< 10 + b2n c.sample <<< 11 + b2n c.poison <<< 12 +
  c.kind.toNat <<< 13 + c.vc.toNat <<< 18 + c.seq.toNat <<< 21 + c.stream.toNat <<< 45 + c.endpt.toNat <<< 63 +
  c.dest.toNat <<< 72

/-- A cell from its header bits and its payload (R210). -/
def cellOf (h p : Nat) : Cell :=
  { dest := BitVec.ofNat 24 (bits h 72 24), endpt := BitVec.ofNat 9 (bits h 63 9), stream := BitVec.ofNat 18 (bits h 45 18),
    seq := BitVec.ofNat 24 (bits h 21 24), vc := BitVec.ofNat 3 (bits h 18 3), kind := BitVec.ofNat 5 (bits h 13 5),
    poison := bitAt h 12, sample := bitAt h 11, mcast := bitAt h 10, last := bitAt h 9, hops := BitVec.ofNat 6 (bits h 3 6),
    reserved := BitVec.ofNat 3 (bits h 0 3), payload := BitVec.ofNat 512 p }

/-- Bytes 0–75 of a cell (R209). -/
def cellBody (c : Cell) : List Byte := beBytes 12 (cellHeader c) ++ leBytes 64 c.payload.toNat

/-- The 80 bytes of a cell (R209): the check value covers bytes 0–75, least significant byte first. -/
def cellBytes (c : Cell) : List Byte := (cellBody c) ++ leBytes 4 (crc32c (cellBody c))

/-- The cell in 80 bytes, and whether its check value holds (R211). -/
def cellOfBytes (bs : List Byte) : Cell × Bool :=
  (cellOf (beNat (bs.take 12)) (leNat ((bs.drop 12).take 64)), crc32c (bs.take 76) = leNat (bs.drop 76))

/-- A PAD cell: zeros but for its kind (R212). -/
def padCell : Cell := cellOf (0x0A <<< 13) 0

/-- Whether a position holds PAD. -/
def isPad (c : Cell) : Bool := c.kind = 0x0A#5

/-- The trailer fields but TCRC (R224). -/
structure Trailer where
  fseq : Nat
  aseq : Nat
  nak : Bool
  replay : Bool
  idle : Bool
  crinit : Bool
  /-- CR0–CR7. -/
  cr : List Nat
  deriving DecidableEq, Repr

/-- Trailer bytes 0–11 (R224). -/
def Trailer.body (t : Trailer) : List Byte :=
  beBytes 12 (pack 8 t.cr + b2n t.crinit <<< 68 + b2n t.idle <<< 69 + b2n t.replay <<< 70 + b2n t.nak <<< 71 +
    (t.aseq % 4096) <<< 72 + (t.fseq % 4096) <<< 84)

/-- The 16 trailer bytes (R224). -/
def Trailer.bytes (t : Trailer) : List Byte := t.body ++ beBytes 4 (crc32c t.body)

/-- The trailer in 16 bytes, and whether TCRC holds (R224). -/
def Trailer.ofBytes (bs : List Byte) : Trailer × Bool :=
  let n := beNat (bs.take 12)
  ({ fseq := bits n 84 12, aseq := bits n 72 12, nak := bitAt n 71, replay := bitAt n 70, idle := bitAt n 69,
     crinit := bitAt n 68, cr := unpack 8 8 n }, crc32c (bs.take 12) = beNat (bs.drop 12))

/-- The 1,296 bytes of a frame (R223). -/
def frameBytes (cells : List Cell) (t : Trailer) : List Byte := cells.flatMap cellBytes ++ t.bytes

/-- The 16 cell positions of a frame, each with whether its check value holds (R223). -/
def frameCells (bs : List Byte) : List (Cell × Bool) :=
  (List.range 16).map fun i => cellOfBytes ((bs.drop (80 * i)).take 80)

/-- A frame's trailer. -/
def frameTrailer (bs : List Byte) : Trailer × Bool := Trailer.ofBytes (bs.drop 1280)

end Sys2Proof.Machine
end

