-- ==== Sys2Proof/Machine/Router.lean ====
section
/-!
DEFINITION. The router (R213, R228–R243): admission of this chip's own messages, the lookup of a cell, multicast copies, link
queues, drops, fences and notices; and the receiving of TILE, CREDIT and MLS_INC cells (R214–R222).
-/

namespace Sys2Proof.Machine

open Reg

/-! Drops and notices. -/

/-- The router counters by index at 0x0204_0040 + i × 0x8 (R242). -/
def cntNoRoute : Nat := 0
def cntFence : Nat := 1
def cntHops : Nat := 2
def cntNoStream : Nat := 3
def cntCreditViol : Nat := 4
def cntDupCell : Nat := 5
def cntMalformed : Nat := 6
def cntBadKind : Nat := 7
def cntParity : Nat := 8

/-- Count a dropped cell and log it when LNK_DROP_LOG holds no record (R242), which is an event of class ROUTER_DROP (R477). -/
def countDrop (i : Nat) (src : Option Nat) (c : Cell) : Act := .ask fun s =>
  .seq (count (LNK_RT_COUNTER_COUNT i) (LNK_RT_COUNTER_OVF i))
    (.when (s.get LNK_DROP_LOG_VALID = 0) (.all [
      .set LNK_DROP_LOG_DEST c.dest.toNat, .set LNK_DROP_LOG_ENDPT c.endpt.toNat, .set LNK_DROP_LOG_KIND c.kind.toNat,
      .set LNK_DROP_LOG_REASON i, .set LNK_DROP_LOG_TRANSIT (b2n src.isSome), .set LNK_DROP_LOG_VALID 1,
      noteFault 13 ((src.map fun l => 0x140 + l).getD 0x1F0) c.dest.toNat 0 (i + b2n src.isSome <<< 4)]))

/-- The class of event that the arrival of a notice is: 5 LINK_DOWN, 6 QUARANTINE, 7 FENCE (R477). A FAIL notice is none: the failure
that it records is. -/
def noticeClass (p : Nat) : Option Nat :=
  match bits p 0 8 with
  | 0x03 => some 5
  | 0x04 => some 6
  | 0x01 => some 7
  | _ => none

/-- A notice reaches this chip's management endpoint, where firmware finds it (R237): all but the FAIL notice are events to report
(R477). -/
def notify (p : Nat) : Act := .ask fun s =>
  .seq (.upd (.notices (s.notices ++ [p])))
    (match noticeClass p with
    | some 7 => noteFault 7 0x1F0 (bits p 32 24) 0 (bits p 96 18)
    | some k => noteFault k (bits p 64 9) (bits p 224 24) 0 (bits p 128 8)
    | none => .skip)

/-- The payload of a FENCE notice (R237). -/
def fenceNotice (c : Cell) : Nat :=
  0x01 + c.dest.toNat <<< 32 + c.endpt.toNat <<< 64 + c.stream.toNat <<< 96 + c.kind.toNat <<< 128

/-! Links, as the router sees them. -/

/-- Cells of a VC queued for a link. -/
def State.queuedFor (s : State) (l v : Nat) : Nat := (s.txq.filter fun t => t.link = l && t.cell.vc.toNat = v).length

/-- A link has credit for a VC: it is UP, enabled for a data VC (R255), and its counter exceeds the cells already queued. -/
def State.linkTakes (s : State) (l v : Nat) : Bool :=
  s.get (LNK_STATE_STATE l) = 6 && (v = 0 || s.get (STN_CTRL_ENABLE (0x140 + l)) = 1) &&
  s.queuedFor l v < s.rd .txCred (8 * l + v)

/-- The member links of a port, from the one after that used last (R231). -/
def State.portMembers (s : State) (p : Nat) : List Nat :=
  ((List.range 36).map fun i => (s.rd .portLast p + i) % 36).filter fun l => bitAt (s.get (LNK_PORT_MEMBERS_MEMBERS p)) l

/-- W of the chip at the far end of a link, from its latest waymark (R259). -/
def State.peerW (s : State) (l : Nat) : Nat := bits (s.get (LNK_PEER_INFO_CLAIM l)) 20 4

/-- The member link that takes a cell of VC `v`; on a clique port, for the peer with W = `w` (R231, R259). -/
def State.pickMember (s : State) (p v w : Nat) : Option Nat :=
  (s.portMembers p).find? fun l =>
    s.linkTakes l v && (s.get (LNK_PORT_CFG_ROLE p) ≠ 1 || (s.get (LNK_PEER_INFO_VALID l) = 1 && s.peerW l = w))

/-- The VC on which a cell leaves: its upper partner across a dateline (R228). -/
def State.leaveVc (s : State) (v : Nat) (dl : Bool) : Nat := if dl && v ≠ 0 then s.get (LNK_VCPAIR_UP v) else v

/-- The cell as it leaves: VC changed, HOPS one lower (R228, R232). -/
def leaving (c : Cell) (v : Nat) : Cell := { c with vc := BitVec.ofNat 3 v, hops := c.hops - 1#6 }

/-! Lookup (R230, R231). -/

/-- The coordinate of a chip ID on an axis: 0 W, 1 X, 2 Y, 3 Z (R230). -/
def axisOf (a id : Nat) : Nat :=
  match a with
  | 0 => bits id 20 4
  | 1 => bits id 16 4
  | 2 => bits id 8 8
  | _ => bits id 0 8

/-- The route entry of a coordinate on an axis: none when VALID = 0, otherwise its valid alternatives in plan order, port and DL
(R231, R242). -/
def State.routeAlts (s : State) (a d : Nat) : Option (List (Nat × Bool)) :=
  let go (v p0 d0 e0 a1 a2 a3 : Field) : Option (List (Nat × Bool)) :=
    if s.get v = 0 then none
    else
      let packed (f : Field) : List (Nat × Bool) :=
        if bitAt (s.get f) 5 then [(bits (s.get f) 0 4, bitAt (s.get f) 4)] else []
      some ((if s.get e0 = 1 then [(s.get p0, decide (s.get d0 = 1))] else []) ++ packed a1 ++ packed a2 ++ packed a3)
  match a with
  | 0 => go (LNK_ROUTE_W_VALID d) (LNK_ROUTE_W_PORT0 d) (LNK_ROUTE_W_DL0 d) (LNK_ROUTE_W_EN0 d) (LNK_ROUTE_W_ALT1 d)
      (LNK_ROUTE_W_ALT2 d) (LNK_ROUTE_W_ALT3 d)
  | 1 => go (LNK_ROUTE_X_VALID d) (LNK_ROUTE_X_PORT0 d) (LNK_ROUTE_X_DL0 d) (LNK_ROUTE_X_EN0 d) (LNK_ROUTE_X_ALT1 d)
      (LNK_ROUTE_X_ALT2 d) (LNK_ROUTE_X_ALT3 d)
  | 2 => go (LNK_ROUTE_Y_VALID d) (LNK_ROUTE_Y_PORT0 d) (LNK_ROUTE_Y_DL0 d) (LNK_ROUTE_Y_EN0 d) (LNK_ROUTE_Y_ALT1 d)
      (LNK_ROUTE_Y_ALT2 d) (LNK_ROUTE_Y_ALT3 d)
  | _ => go (LNK_ROUTE_Z_VALID d) (LNK_ROUTE_Z_PORT0 d) (LNK_ROUTE_Z_DL0 d) (LNK_ROUTE_Z_EN0 d) (LNK_ROUTE_Z_ALT1 d)
      (LNK_ROUTE_Z_ALT2 d) (LNK_ROUTE_Z_ALT3 d)

/-- What a lookup finds. -/
inductive Lookup where
  /-- Every axis matches: the cell is for this chip. -/
  | here
  /-- The route entry has VALID = 0. -/
  | noRoute
  /-- The valid alternatives of the first axis that differs. -/
  | alts (l : List (Nat × Bool))
  deriving DecidableEq, Repr

/-- The lookup of a destination, axis by axis in the order of LNK_RT_CFG (R230). -/
def State.lookup (s : State) (dest : Nat) : Lookup :=
  match [s.get LNK_RT_CFG_AX0, s.get LNK_RT_CFG_AX1, s.get LNK_RT_CFG_AX2, s.get LNK_RT_CFG_AX3].find?
      fun a => axisOf a dest ≠ axisOf a s.chipId with
  | none => .here
  | some a =>
    match s.routeAlts a (axisOf a dest) with
    | none => .noRoute
    | some l => .alts l

/-- The first alternative whose port has a member with credit: port, DL, member link (R231). -/
def State.pickRoute (s : State) (c : Cell) (l : List (Nat × Bool)) : Option (Nat × Bool × Nat) :=
  l.findSome? fun a => (s.pickMember a.1 (s.leaveVc c.vc.toNat a.2) (bits c.dest.toNat 20 4)).map fun m => (a.1, a.2, m)

/-- Whether a destination chip is fenced (R237). -/
def State.fenced (s : State) (dest : Nat) : Bool :=
  (List.range 64).any fun i => s.get (LNK_FENCE_VALID i) = 1 && s.get (LNK_FENCE_CHIP i) = dest

/-- Whether R213 drops a cell. -/
def badKind (c : Cell) : Bool :=
  let k := c.kind.toNat
  let single := k = 2 || k = 3 || k = 6 || k = 7 || k = 8 || k = 9
  k = 0 || 9 < k || ((k = 2 || k = 8 || k = 9) != (c.vc.toNat = 0)) || (single && (c.seq ≠ 0#24 || !c.last)) ||
  (c.mcast && k ≠ 4 && k ≠ 5 && k ≠ 3)

/-! The router's inputs. -/

/-- The port to which a message that starts with this cell is charged, if it has one (R234). -/
def State.chargePort (s : State) (c : Cell) : Option Nat :=
  if c.mcast then
    (List.range 16).find? fun p => bitAt (s.get (LNK_MCAST_PORTS (bits c.dest.toNat 0 12))) p
  else
    match s.lookup c.dest.toNat with
    | .alts (a :: _) => some a.1
    | _ => none

/-- The budget key of a graph at a logical port: direction 0 sends, 1 receives (R234, R235). -/
def portKey (p dir g : Nat) : Nat := allowKey (512 + p) dir g

/-- A message may enter the fabric: it is admitted already, or nothing charges it, or its allowance is positive (R234). -/
def State.admissible (s : State) (m : OutMsg) : Bool :=
  m.admitted ||
  match m.graph, m.cells with
  | some g, c :: _ =>
    match s.chargePort c with
    | some p => 0 < s.allowance (portKey p 0 g)
    | none => true
  | _, _ => true

/-- Admit a message to the fabric as a whole (R234). -/
def admitMessage (k : Nat) : Act := .ask fun s =>
  match s.egress[k]? with
  | none => .skip
  | some m => .when (!m.admitted) (.upd (.egress (s.egress.set k { m with admitted := true })))

/-- A cell of a message of this chip's own is sent: one unit at the message's charging port (R40, R234). -/
def payCell (m : OutMsg) : Act := .ask fun s =>
  match m.graph, m.cells with
  | some g, c :: _ =>
    match s.chargePort c with
    | some p => charge (portKey p 0 g) 1
    | none => .skip
  | _, _ => .skip

/-- The next cell of a VC at an input, unicast or multicast: its name there and the cell. From the chip's own egress it is the
head of the first message that may enter the fabric. A waymark is no business of the router (R263). -/
def State.headCell (s : State) (src : Option Nat) (v : Nat) (mcast : Bool) : Option (Nat × Cell) :=
  match src with
  | some l =>
    (s.rxBuf.find? fun r => r.link = l && r.cell.vc.toNat = v && r.cell.mcast = mcast && r.cell.kind ≠ 8#5).map
      fun r => (r.id, r.cell)
  | none =>
    (List.range s.egress.length).findSome? fun k =>
      match s.egress[k]? with
      | some m =>
        match m.cells with
        | c :: _ => if c.vc.toNat = v && c.mcast = mcast && s.admissible m then some (k, c) else none
        | [] => none
      | none => none

/-- The receive buffer releases a cell once nothing holds it any more (R226). -/
def release (src : Option Nat) (id v : Nat) : Act := .ask fun s =>
  match src with
  | none => .skip
  | some l =>
    .when (!(s.rxBuf.any fun r => r.id = id) && !(s.copies.any fun c => c.src.isSome && c.id = id) &&
        !(s.txq.any fun t => t.src.isSome && t.id = id))
      (.put .rxRel (8 * l + v) ((s.rd .rxRel (8 * l + v) + 1) % 256))

/-- Take a cell out of its input; one of this chip's own is charged. -/
def popCell (src : Option Nat) (id : Nat) : Act := .ask fun s =>
  match src with
  | some _ => .upd (.rxBuf (s.rxBuf.filter fun r => r.id ≠ id))
  | none =>
    match s.egress[id]? with
    | some m => .seq (payCell m)
        (if m.cells.length ≤ 1 then .upd (.egress (s.egress.eraseIdx id))
        else .upd (.egress (s.egress.set id { m with cells := m.cells.drop 1 })))
    | none => .skip

/-- Take a cell out of its input, and release it. -/
def takeCell (src : Option Nat) (id : Nat) (c : Cell) : Act := .seq (popCell src id) (release src id c.vc.toNat)

/-- Queue a cell for a member link of a port (R231). -/
def queueCell (p l : Nat) (t : TxCell) : Act := .ask fun s =>
  .seq (.put .portLast p (l + 1)) (.upd (.txq (s.txq ++ [t])))

/-- Return queued cells of a link to where they came from: a link that has no credit for them takes none (R231, R255). -/
def unqueue (l : Nat) (p : TxCell → Bool) : Act := .ask fun s =>
  let back := s.txq.filter fun t => t.link = l && p t
  .all [
    .upd (.txq (s.txq.filter fun t => !(t.link = l && p t))),
    .upd (.copies (back.filterMap (·.copy) ++ s.copies)),
    .upd (.rxBuf (back.filterMap (fun t =>
      match t.src, t.copy with
      | some k, none => some ⟨t.id, k, t.orig⟩
      | _, _ => none) ++ s.rxBuf)),
    .upd (.egress (back.filterMap (fun t =>
      match t.src, t.copy with
      | none, none => if t.orig.kind = 8#5 then none else some ⟨none, true, [t.orig]⟩
      | _, _ => none) ++ s.egress))]

/-- A LINK station with ENABLE = 0: data-VC cells of unacknowledged held frames are lost, counted, and replayed as PAD; queued
data cells find no credit (R64, R255). -/
def linkStop (l : Nat) : Act := .ask fun s =>
  let data (c : Cell) : Bool := !isPad c && c.vc ≠ 0#3
  let lost := (s.heldFrames.filter fun h => h.link = l).foldl (fun n h => n + (h.cells.filter data).length) 0
  .all [
    countBy (LNK_COUNTER_COUNT l 5) (LNK_COUNTER_OVF l 5) lost,
    .upd (.heldFrames (s.heldFrames.map fun h =>
      if h.link = l then { h with cells := h.cells.map fun c => if data c then padCell else c } else h)),
    unqueue l fun t => t.cell.vc ≠ 0#3]

/-! Routing of a cell. -/

/-- Route a unicast cell (R213, R230–R232, R237, R241, R357). `deliver` is what its kind does at this chip; `parity` names a
router parity error: in the header fields, or elsewhere in the cell. -/
def routeUnicast (deliver : Option Nat → Cell → Bool → Act) (src : Option Nat) (parity : Option Bool) (id : Nat) (c0 : Cell) : Act :=
  .ask fun s =>
    let c := if parity = some false then { c0 with poison := true } else c0
    let drop (i : Nat) : Act := .seq (takeCell src id c0) (countDrop i src c)
    let hit : Act := .when parity.isSome (count (LNK_RT_COUNTER_COUNT cntParity) (LNK_RT_COUNTER_OVF cntParity))
    if parity = some true then drop cntParity
    else if badKind c then .seq hit (drop cntBadKind)
    else if s.fenced c.dest.toNat then
      .all [hit, drop cntFence,
        .when (src = none && (if c.kind = 1#5 then bits c.seq.toNat 0 10 = 0 else c.seq = 0#24)) (notify (fenceNotice c))]
    else
      match s.lookup c.dest.toNat with
      | .here =>
        if s.get GLB_PLAN_STATUS_LOAD_STATE = 3 && src.isSome then .skip
        else .all [hit, takeCell src id c0, deliver src c parity.isSome]
      | .noRoute => .seq hit (drop (if src.isSome && c.hops = 0#6 then cntHops else cntNoRoute))
      | .alts l =>
        if src.isSome && c.hops = 0#6 then .seq hit (drop cntHops)
        else
          match s.pickRoute c l with
          | none => .skip
          | some (p, dl, m) =>
            .all [hit, popCell src id,
              queueCell p m ⟨id, m, src, none, leaving c (s.leaveVc c.vc.toNat dl), c⟩]

/-- Whether a cell at an input reaches the router's lookup now: a cell of this chip's own is admitted first (R234). -/
def withHead (src : Option Nat) (v : Nat) (mcast : Bool) (f : Nat → Cell → Act) : Act := .ask fun s =>
  match s.headCell src v mcast with
  | none => .skip
  | some (id, c) => .seq (.when (src = none) (admitMessage id)) (f id c)

/-- The copies that wait and now find credit leave (R231, R236). -/
def placeCopies : List McastCopy → Act
  | [] => .skip
  | c :: t => .seq
      (.ask fun s =>
        let dl := bitAt (s.get (LNK_MCAST_DLMASK (bits c.orig.dest.toNat 0 12))) c.port
        let v := s.leaveVc c.orig.vc.toNat dl
        match s.pickMember c.port v (c.peer.getD 0) with
        | none => .skip
        | some m =>
          .seq (.upd (.copies (s.copies.erase c)))
            (queueCell c.port m ⟨c.id, m, c.src, some c, leaving c.orig v, c.orig⟩))
      (placeCopies t)

/-- The copies that a multicast cell makes on a port: one, or one for each distinct peer of a clique port (R236, R259). -/
def State.copiesOn (s : State) (src : Option Nat) (id : Nat) (c : Cell) (p : Nat) : List McastCopy :=
  if s.get (LNK_PORT_CFG_ROLE p) = 1 then
    (((s.portMembers p).filter fun l => s.get (LNK_STATE_STATE l) = 6 && s.get (LNK_PEER_INFO_VALID l) = 1).map
      s.peerW).eraseDups.map fun w => ⟨id, src, p, some w, c⟩
  else [⟨id, src, p, none, c⟩]

/-- The router looks again at the copies that wait: it does so in every MCLK cycle, here whenever it looks up a cell or a link's credit
grows (R231; log entry 134). -/
def retryCopies : Act := .ask fun s => placeCopies s.copies

/-- Route a multicast cell (R236, R241). -/
def routeMcast (deliver : Option Nat → Cell → Bool → Act) (src : Option Nat) (parity : Option Bool) (id : Nat) (c0 : Cell) : Act :=
  .ask fun s =>
    let c := if parity = some false then { c0 with poison := true } else c0
    let drop (i : Nat) : Act := .seq (takeCell src id c0) (countDrop i src c)
    let hit : Act := .when parity.isSome (count (LNK_RT_COUNTER_COUNT cntParity) (LNK_RT_COUNTER_OVF cntParity))
    let g := bits c.dest.toNat 0 12
    let ports := (List.range 16).filter fun p => bitAt (s.get (LNK_MCAST_PORTS g)) p
    if parity = some true then drop cntParity
    else if badKind c then .seq hit (drop cntBadKind)
    else if s.get (LNK_MCAST_VALID g) = 0 then .seq hit (drop cntNoRoute)
    else if s.get (LNK_MCAST_LOCAL g) = 1 && s.get GLB_PLAN_STATUS_LOAD_STATE = 3 && src.isSome then .skip
    else
      let dead := src.isSome && c.hops = 0#6
      let out := ports.filter fun p => !bitAt (s.get (LNK_MCAST_FENCED g)) p
      let held := ports.filter fun p => bitAt (s.get (LNK_MCAST_FENCED g)) p
      let copies := if dead then [] else out.flatMap (s.copiesOn src id c)
      .all [hit, popCell src id,
        .upd (.copies (s.copies ++ copies)),
        .when dead (.when (!out.isEmpty || s.get (LNK_MCAST_LOCAL g) = 0) (countDrop cntHops src c)),
        .when (!dead || s.get (LNK_MCAST_LOCAL g) = 1) (.each held fun _ => countDrop cntFence src c),
        .when (s.get (LNK_MCAST_LOCAL g) = 1) (deliver src c parity.isSome),
        placeCopies copies, release src id c0.vc.toNat]

/-! Receiving at this chip. -/

/-- The distinct cells seen: ones of the bitmap below `n`. -/
def popcountTo (n m : Nat) : Nat := ((List.range n).filter fun i => bitAt m i).length

/-- The highest cell index seen, 0 where there is none. -/
def maxSeen (m : Nat) : Nat := if m = 0 then 0 else m.log2

/-- A stream context that accepts a TILE cell (R220). -/
def State.acceptsTile (s : State) (n e : Nat) : Bool :=
  s.get (STR_VALID n) = 1 && s.get (STR_REMOTE n) = 1 && s.get (STR_SIDE n) = 1 && s.get (STR_DST_ENDPT n) = e


/-- A tile whose cells have all arrived (R220). -/
def tilePresent (n : Nat) (m : Slot) : Act := .ask fun s =>
  let put (x : Slot) : Act := .ask fun s' =>
    .upd (.slots (s'.slots.map fun y => if y.stream = n && y.seq = m.seq then x else y))
  if ceilDiv m.tile.recordLen 64 ≠ m.last.getD 0 + 1 then badHeader n
  else
    .seq (.when m.poison (.seq (raisePoisoned n) (raiseSource (s.get (STR_GRAPH n)) 8)))
      (put { m with present := true, tile := m.tile.withPoison m.poison })

/-- Write an accepted cell into its slot's reassembly (R220). -/
def tileCellInto (src : Option Nat) (n : Nat) (c : Cell) : Act := .ask fun s =>
  let next := s.get (STR_NEXT_SEQ n)
  let cmax := s.get (STR_CREDIT_MAX n)
  let d := (bits c.seq.toNat 10 14 + 2 ^ 32 - next) % 16384
  let j := bits c.seq.toNat 0 10
  if 16384 - cmax ≤ d then countDrop cntDupCell src c
  else
    let q := (next + d) % 2 ^ 32
    if cmax ≤ d then .seq (countDrop cntCreditViol src c) (loseStream n)
    else
      let m := (s.slots.find? fun x => x.stream = n && x.seq = q).getD ⟨n, q, 0, none, false, false, ⟨0⟩⟩
      if bitAt m.seen j then countDrop cntDupCell src c
      else if 512 < j || m.last.any (fun l => l < j) || (c.last && j < maxSeen m.seen) then
        .seq (countDrop cntMalformed src c) (loseStream n)
      else
        let m' : Slot := { m with
          seen := m.seen + 2 ^ j, last := if c.last then some j else m.last, poison := m.poison || c.poison,
          tile := ⟨setBits m.tile.raw (512 * j) 512 c.payload.toNat⟩ }
        .all [
          .upd (.slots ((s.slots.filter fun x => !(x.stream = n && x.seq % cmax = q % cmax)) ++ [m'])),
          .set (STR_WD_COUNT n) 0,
          .when (m'.last.any fun l => popcountTo 513 m'.seen = l + 1) (tilePresent n m')]

/-- A TILE cell reaches its destination chip (R220, R235, R241). -/
def tileCellRx (src : Option Nat) (c : Cell) (parity : Bool) : Act := .ask fun s =>
  let n := c.stream.toNat
  if s.acceptsTile n c.endpt.toNat then
    .all [
      match src with
      | some l => .when (s.get (LNK_ROLE_IN_PORT l) = 1) (.seq
          (charge (portKey (s.get (LNK_ROLE_PORT l)) 1 (s.get (STR_GRAPH n))) 1)
          (.put .recvPort n (s.get (LNK_ROLE_PORT l) + 1)))
      | none => .skip,
      .when parity (raiseSource (s.get (STR_GRAPH n)) 8),
      tileCellInto src n c]
  else countDrop cntNoStream src c

/-- Send a CREDIT cell for a receiving context whose TILES_DONE has changed since its last one, unless the receive allowance of
its graph at the port of its latest cell holds it (R216, R235). -/
def creditCellSend (n : Nat) : Act := .ask fun s =>
  let p := s.rd .recvPort n
  let held := p ≠ 0 && s.allowance (portKey (p - 1) 1 (s.get (STR_GRAPH n))) ≤ 0
  let v := s.get (STR_TILES_DONE n)
  .when (s.get (STR_VALID n) = 1 && s.get (STR_REMOTE n) = 1 && s.get (STR_SIDE n) = 1 && v ≠ s.rd .consumedSince n && !held)
    (.seq (.put .consumedSince n v)
      (originate none [{
        dest := BitVec.ofNat 24 (s.get (STR_PEER_CHIP n)), endpt := BitVec.ofNat 9 (s.get (STR_SRC_ENDPT n)),
        stream := BitVec.ofNat 18 (s.get (STR_PEER_STREAM n)), seq := 0#24, vc := 0#3, kind := 2#5, poison := false,
        sample := false, mcast := false, last := true, hops := 63#6, reserved := 0#3, payload := BitVec.ofNat 512 v }]))

/-- A CREDIT cell of a stream reaches the sending side (R216); one that a router parity error struck raises source 8 (R241). -/
def creditCellRx (src : Option Nat) (c : Cell) (parity : Bool) : Act := .ask fun s =>
  let n := c.stream.toNat
  let v := bits c.payload.toNat 0 32
  let d := seqDiff v (s.get (STR_TILES_DONE n))
  if s.get (STR_VALID n) = 1 && s.get (STR_REMOTE n) = 1 && s.get (STR_SIDE n) = 0 && s.get (STR_SRC_ENDPT n) = c.endpt.toNat then
    .seq (.when parity (raiseSource (s.get (STR_GRAPH n)) 8))
      (.when (0 < d) (.all [complete n d.toNat,
        .set (STR_CREDITS n) (s.get (STR_CREDIT_MAX n) - seqFwd (s.rd .begun n) v), .set (STR_WD_COUNT n) 0]))
  else countDrop cntNoStream src c

/-- An MLS_INC cell reaches its destination chip (R217). -/
def mlsIncCell (c : Cell) : Act :=
  let p := c.payload.toNat
  mlsAdd (bits p 0 16) (bits p 32 32) (if bitAt p 64 then some c.stream.toNat else none)

/-- An MLS_INC cell for a milestone of a chip (R217). -/
def mlsCell (dest stream vc m amount : Nat) (mark : Bool) (mcast : Bool) : Cell :=
  { dest := BitVec.ofNat 24 dest, endpt := 0x1F0#9, stream := BitVec.ofNat 18 stream, seq := 0#24, vc := BitVec.ofNat 3 vc,
    kind := 3#5, poison := false, sample := false, mcast := mcast, last := true, hops := 63#6, reserved := 0#3,
    payload := BitVec.ofNat 512 (m % 2 ^ 16 + (amount % 2 ^ 32) <<< 32 + b2n mark <<< 64) }

/-! Register writes of the router (R239, R242, R243). -/

/-- USED counts the valid fence entries (R242). -/
def fenceRefresh : Act := .ask fun s =>
  .set LNK_FENCE_STATUS_USED ((List.range 64).filter fun i => s.get (LNK_FENCE_VALID i) = 1).length

/-- Write a fence entry (R239). -/
def fenceWrite (i chip valid : Nat) : Act :=
  .all [.set (LNK_FENCE_CHIP i) chip, .set (LNK_FENCE_VALID i) valid, fenceRefresh]

def execCreditCellSend (n : StreamNo) (s : State) : Host.Outcome State Fault Refusal := live (creditCellSend n.toNat) s
def execFenceEntryWrite (i : Fin 64) (chip : ChipId) (valid : Bool) (s : State) : Host.Outcome State Fault Refusal :=
  live (fenceWrite i.val chip.toNat (b2n valid)) s
def execMcastFencedWrite (g : Fin 4096) (mask : BitVec 16) (s : State) : Host.Outcome State Fault Refusal :=
  live (Act.set (LNK_MCAST_FENCED g.val) mask.toNat) s
def execRouterCounterClear (mask : BitVec 9) (s : State) : Host.Outcome State Fault Refusal :=
  live (Act.each ((List.range 9).filter fun i => bitAt mask.toNat i) fun i =>
    countClear (LNK_RT_COUNTER_COUNT i) (LNK_RT_COUNTER_OVF i)) s

end Sys2Proof.Machine
end

