-- ==== Sys2Proof/Machine/Stations.lean ====
section
/-!
DEFINITION. Station control (R59–R66), stream contexts, watchdogs and stopping faults (R32, R54–R58), milestone writes
(R47–R53), and power state P1's part in a station's resume (R427).
-/

namespace Sys2Proof.Machine

open Reg

/-! Realignment and abort (R58, R61, R62). -/

/-- Move the next tile to consume of a stream from its old value forward to `b`: the slots below are freed, every SEQ between
counts as consumed, and credits and milestones follow (R58, R62). -/
def moveNext (n b : Nat) : Act := .ask fun s =>
  let a := s.nextIn n
  let k := seqFwd b a
  .all [.upd (.slots (s.slots.filter fun x => !(x.stream = n && seqFwd x.seq a < k))), setNextIn n b, .set (STR_WD_COUNT n) 0,
    complete n k, returnCredit n k]

/-- Realign a stream whose tiles an abort discards, past the highest SEQ among them (R62). -/
def realign (n : Nat) : Act := .ask fun s =>
  let h := (s.slots.filter fun x => x.stream = n).foldl (fun h x => if seqDiff x.seq h > 0 then x.seq else h) (s.nextIn n)
  moveNext n (seqNext h)

/-- The streams bound by the programs of a station. -/
def State.boundStreams (s : State) (e : Nat) : List Nat :=
  (s.progs.filter fun p => p.endpt = e).flatMap fun p => p.steps.flatMap fun st => st.alts.flatMap Alt.streams

/-- The streams of which the station holds a tile or a part of one. -/
def State.heldStreams (s : State) (e : Nat) : List Nat :=
  ((s.slots.map fun x => x.stream).filter fun n => s.get (STR_DST_ENDPT n) = e).eraseDups

/-- Return a station's residual counts to 0 (R116, R201). -/
def clearLeft (e : Nat) : Act :=
  let c := e / 8
  .seq (.each (List.range 4) fun part => .put .runAlt (runKey e part) 0) <|
  if e < 0x120 then
    if e % 8 < 4 then
      .all [.set (CLU_BENCH_LEFT_L_ROWS c (e % 8)) 0, .set (CLU_BENCH_LEFT_H_ROWS c (e % 8)) 0,
        .put .streamRow (2 * (c * 4 + e % 8)) 0, .put .streamRow (2 * (c * 4 + e % 8) + 1) 0,
        setStepIdx e 2 0]
    else if e % 8 = 6 then .set (CLU_DRW_LEFT_RECORDS c) 0 else .skip
  else if 0x130 ≤ e && e < 0x140 then .set (SHF_LEFT_RECORDS (e - 0x130)) 0
  else if e = 0x178 then .set CHS_LEFT_RECORDS 0 else .skip

/-- An abort at the tile boundary (R61): the waiting tiles are discarded, their streams and the streams with a partly done
completion group are marked, and the program returns to its start. -/
def abortNow (e : Nat) : Act := .ask fun s =>
  let held := s.heldStreams e
  let part := (s.boundStreams e).filter fun n =>
    s.get (STR_DONE_TILES n) ≠ 0 && s.get (STR_TILES_DONE n) % s.get (STR_DONE_TILES n) ≠ 0
  .all [
    .each (held ++ part).eraseDups (fun n => .seq (.set (STR_ABORTED n) 1) (streamCode n codeAborted)),
    .each held realign,
    setStepIdx e 0 0, clearLeft e, .put .abortDue e 0,
    .set (STN_STATUS_ABORT_DONE e) 1, stnRefresh e]

/-- End a DESK firing (R141). -/
def dropDesk (e : Nat) : Act := .ask fun s =>
  match s.desks.find? fun d => d.cluster.val * 8 + 7 = e with
  | some d => .all [.upd (.desks (s.desks.filter fun d => !(d.cluster.val * 8 + 7 = e))), idleRefresh (deskGraph d.alt.op),
      .set (CLU_DESK_STATE_RUN d.cluster.val) 0]
  | none => .skip

/-- Whether an endpoint is a LINK station (R28). -/
def isLink (e : Nat) : Bool := 0x140 ≤ e && e < 0x164

/-- ABORT (R61): ENABLE is cleared; a VEC firing in progress runs to its tile boundary first, a DESK firing ends at once (R63,
R141). -/
def abortStation (e : Nat) : Act := .ask fun s =>
  .all [.set (STN_CTRL_ENABLE e) 0, .when (isLink e) (linkStop (e - 0x140)),
    if s.vecs.any fun v => v.cluster.val * 8 + 4 = e then .seq (.put .abortDue e 1) (stnRefresh e)
    else .seq (dropDesk e) (abortNow e)]

/-- What a station does once its firing has reached its tile boundary: an abort that waits for it, and the status bits. -/
def boundary (e : Nat) : Act := .ask fun s => if s.rd .abortDue e = 1 then abortNow e else stnRefresh e

/-! Quiesce and resume (R60, R63). -/

/-- ENABLE = 0: a milestone wait of a DESK is abandoned, and reissued on resume (R63, R145); a LINK loses what R64 says. -/
def quiesceStation (e : Nat) : Act := .ask fun s =>
  .all [.set (STN_CTRL_ENABLE e) 0, .when (isLink e) (linkStop (e - 0x140)),
    .each (s.desks.filter fun d => d.cluster.val * 8 + 7 = e && d.wait.isSome) (fun d => .set (CLU_DESK_STATE_RUN d.cluster.val) 1),
    .upd (.desks (s.desks.map fun d => if d.cluster.val * 8 + 7 = e then { d with wait := none } else d)),
    stnRefresh e]

/-- ENABLE = 1: the station resumes, the chip returns from P1 to P0 (R427), and the watchdogs of the station's streams start
again (R55). -/
def resumeStation (e : Nat) : Act := .ask fun s =>
  .all [
    .when (s.get PWR_STATE_STATUS_STATE = 1) (.set PWR_STATE_STATUS_STATE 0), .set PWR_STATE_CTRL_IDLE 0,
    .when (s.get (STN_CTRL_ENABLE e) = 0)
      (.each ((s.listed (STR_WD_COUNT 0) 0x40 262144).filter fun n =>
        s.get (STR_DST_ENDPT n) = e || s.get (STR_SRC_ENDPT n) = e) fun n => .set (STR_WD_COUNT n) 0),
    .set (STN_CTRL_ENABLE e) 1, stnRefresh e]

/-! Stream contexts (R32, R58). -/

/-- Whether every station that a context names on this chip is quiesced (R32). -/
def State.ctxQuiet (s : State) (n : Nat) : Bool :=
  let quiet (e : Nat) : Bool := !isStation e || s.get (STN_STATUS_QUIESCED e) = 1
  ((s.get (STR_REMOTE n) = 1 && s.get (STR_SIDE n) = 1) || quiet (s.get (STR_SRC_ENDPT n))) &&
  ((s.get (STR_REMOTE n) = 1 && s.get (STR_SIDE n) = 0) || quiet (s.get (STR_DST_ENDPT n)))

/-- Offset of word `w` of a stream context (R30). -/
def strWord (n w : Nat) : Nat := 0x03000000 + n * 0x40 + 4 * w

/-- Words of a context that hold an RW field (R30). -/
def strRwWord (w : Nat) : Bool := w ≤ 7 || w = 11

/-- A rewrite of NEXT_SEQ: at the receiving side a move forward frees what it passes (R58). On chip the register is the source's
and the consumer takes the written value too (log entry 6). -/
def nextSeqRewrite (n b : Nat) : Act := .ask fun s =>
  if s.receives n then
    .seq (if seqDiff b (s.nextIn n) > 0 then moveNext n b else setNextIn n b) (.set (STR_NEXT_SEQ n) b)
  else .set (STR_NEXT_SEQ n) b

/-- A write of ones to the W1C bits of word 10: clearing the last stopping fault sets WD_COUNT to 0 (R57, R58). A bit that the
hardware sets in the same cycle, one of `hw`, stays set (R4). -/
def faultClear (n v hw : Nat) : Act := .ask fun s =>
  .all [plainWrite (strWord n 10) (v % 2 ^ 32 &&& (2 ^ 32 - 1 - hw % 2 ^ 32)), hardwareSets (strWord n 10) v hw,
    .ask fun t => .when (s.stopped n && !t.stopped n) (.set (STR_WD_COUNT n) 0)]

/-- A write to word `w` of a context (R32, R58). -/
def contextWrite (n w v : Nat) : Act := .ask fun s =>
  if strRwWord w then
    if !s.ctxQuiet n then .set (STR_WR_REJECT n) 1
    else if w = 3 then nextSeqRewrite n v
    else plainWrite (strWord n w) v
  else if w = 10 then faultClear n v 0
  else plainWrite (strWord n w) v

def execStreamContextWrite (n : StreamNo) (word : Fin 16) (val : BitVec 32) (s : State) : Host.Outcome State Fault Refusal :=
  live (contextWrite n.toNat word.val val.toNat) s
def execNextSeqRewrite (n : StreamNo) (seq : BitVec 32) (s : State) : Host.Outcome State Fault Refusal :=
  live (contextWrite n.toNat 3 seq.toNat) s
def execStreamFaultClear (n : StreamNo) (bits hw : BitVec 32) (s : State) : Host.Outcome State Fault Refusal :=
  live (faultClear n.toNat bits.toNat hw.toNat) s

/-! Watchdogs (R54–R56). -/

/-- What holds a stream's watchdog whatever its station does: frozen on the chip, P1, a stopping fault (R55), a halted graph (R181),
a commit point (R179). -/
def State.wdHeld (s : State) (n : Nat) : Bool :=
  s.held (s.get (STR_GRAPH n)) || s.get (GLB_STEP_STATE_IN_COMMIT (s.get (STR_GRAPH n))) = 1 ||
    s.get PWR_STATE_STATUS_STATE = 1 || s.stopped n

/-- A tile of the stream is partly received at this end (R56). -/
def State.partly (s : State) (n : Nat) : Bool := s.slots.any fun x => x.stream = n && !x.present

/-- The parts of a station that have programs of their own: the halves of a split bench, or the whole. -/
def State.stnParts (s : State) (e : Nat) : List Nat := (s.progs.filter fun p => p.endpt = e).map (·.part)

/-- The parts of a station that wait on the stream (R54): at a receiving or on-chip side the current step takes the stream's next
tile, which is not wholly present; at a sending side an alternative of the current step lacks a credit of the stream for a tile that
is there to send, its inputs present or an instance of a Vusyn station at work. -/
def State.waitsOn (s : State) (n : Nat) : List (Nat × Nat) :=
  let e := if s.receives n then s.get (STR_DST_ENDPT n) else s.get (STR_SRC_ENDPT n)
  (s.stnParts e).filterMap fun part =>
    let on (a : Alt) : Bool :=
      if s.receives n then a.inputs.contains n && (s.input n).isNone
      else a.outputs.contains n && s.get (STR_CREDITS n) = 0 &&
        (a.inputs.all (fun i => (s.input i).isSome) || s.insts.any fun x => x.outs.contains n)
    if ((s.curStep e part).any fun st => st.alts.any on) then some (e, part) else none

/-- Whether a station that waits on the stream holds its watchdog: ENABLE = 0, or an allowance of the graph at that station of 0 or
less (R55). A station of no resource class has no allowance (R39). -/
def State.waitHeld (s : State) (n : Nat) (w : Nat × Nat) : Bool :=
  let part := if w.1 = 0x170 && !s.receives n then 1 else w.2
  s.get (STN_CTRL_ENABLE w.1) = 0 ||
    (s.chargers.any (fun x => x.1 = w.1 && x.2.1 = part) && s.allowance (allowKey w.1 part (s.get (STR_GRAPH n))) ≤ 0)

/-- The watchdog of a stream counts (R54, R55): it is set, work is outstanding at a station that does not hold it, and nothing else
does. -/
def State.wdRuns (s : State) (n : Nat) : Bool :=
  s.get (STR_VALID n) = 1 && s.get (STR_WD_LIMIT n) ≠ 0 && !s.wdHeld n && (s.waitsOn n).any fun w => !s.waitHeld n w

/-- WD_COUNT reaches WD_LIMIT (R56): LOST where a tile is partly received, STALLED otherwise. That the limit has passed is what the
event says (log entry 9). -/
def watchdogFire (n : Nat) : Act := .ask fun s =>
  .when (s.wdRuns n) (
    .seq (.set (STR_WD_COUNT n) (s.get (STR_WD_LIMIT n)))
      (if s.partly n then .seq (loseStream n) (streamCode n codeLost) else .seq (stallStream n) (streamCode n codeStalled)))

def execStreamWatchdogFire (n : StreamNo) (s : State) : Host.Outcome State Fault Refusal := live (watchdogFire n.toNat) s

/-! Milestone writes (R47–R53). -/

def execMlsIncWrite (m : Mls) (amount : BitVec 32) (s : State) : Host.Outcome State Fault Refusal :=
  live (mlsAdd m.toNat amount.toNat none) s

/-- A write of COUNT, TARGET or both (R51, R53). -/
def mlsWrite (m : Nat) (cnt tgt : Option Nat) : Act :=
  .all [
    match cnt with
    | some v => .set (MLS_ENTRY_COUNT m) v
    | none => .skip,
    match tgt with
    | some v => .set (MLS_ENTRY_TARGET m) v
    | none => .skip,
    mlsRefresh m]

def execMilestoneEntryWrite (m : Mls) (count target : Option (BitVec 32)) (s : State) : Host.Outcome State Fault Refusal :=
  live (mlsWrite m.toNat (count.map (·.toNat)) (target.map (·.toNat))) s

/-! Station control commands. -/

def execStationQuiesce (e : Endpt) (s : State) : Host.Outcome State Fault Refusal :=
  live (Act.when (isStation e.toNat) (quiesceStation e.toNat)) s
def execStationResume (e : Endpt) (s : State) : Host.Outcome State Fault Refusal :=
  live (Act.when (isStation e.toNat) (resumeStation e.toNat)) s

end Sys2Proof.Machine
end

