-- ==== Sys2Proof/Machine/Memory.lean ====
section
/-!
DEFINITION. Drawers and shelves (R187–R208): the device address map, memory errors with their correction, logs and scrubs,
regions and records, and the WRITE and READ firings.
-/

namespace Sys2Proof.Machine

open Reg

/-! Device addresses (R196, R197). -/

/-- First address of the shelves. -/
def shelfBase : Nat := 0x010000000000

/-- Bytes of a channel's range. -/
def shelfSpan : Nat := 0x4000000000

/-- Bytes of a drawer. -/
def drawerSpan : Nat := 0x2000000

/-- Trained capacity of a shelf channel in bytes (R191, R207). -/
def State.shelfCap (s : State) (ch : Nat) : Nat :=
  match s.get (SHF_DIMM_CAP ch) with
  | 1 => 2 ^ 36
  | 2 => 2 ^ 37
  | 3 => 2 ^ 38
  | _ => 0

/-- Whether an address holds memory: a drawer, or the trained part of a shelf channel (R196). -/
def State.mapped (s : State) (a : Nat) : Bool :=
  a < 36 * drawerSpan ||
  (shelfBase ≤ a && a < shelfBase + 16 * shelfSpan && (a - shelfBase) % shelfSpan < s.shelfCap ((a - shelfBase) / shelfSpan))

/-- `n` bytes of device memory from an address, as a little-endian number; a hole reads 0 (R197). -/
def Mem.nat (m : List Host.Cell) (a n : Nat) : Nat :=
  m.foldl (fun x p => if a ≤ p.1 && p.1 < a + n then x + p.2.toNat <<< (8 * (p.1 - a)) else x) 0

/-- Bytes of device memory (R197). -/
def State.bytesAt (s : State) (a n : Nat) : List Byte := leBytes n (Mem.nat s.mem a n)

/-! Errors (R188, R189, R192, R193). -/

/-- The memory of MEM that an address lies in: the endpoint of its station. -/
def memStation (mem : Nat) : Nat := if mem < 64 then 8 * mem + 6 else 0x130 + (mem - 64)

/-- First device address of MEM (R198). -/
def memBase (mem : Nat) : Nat := if mem < 64 then mem * drawerSpan else shelfBase + (mem - 64) * shelfSpan

/-- Log a drawer error; an uncorrectable one replaces a corrected one (R207). A corrected one that is logged is an event (R477). -/
def logDrawer (c w : Nat) (ue scrub : Bool) : Act := .ask fun s =>
  .when (s.get (CLU_DRW_ERR_LOG_VALID c) = 0 || (ue && s.get (CLU_DRW_ERR_LOG_UE c) = 0)) (.all [
    .set (CLU_DRW_ERR_LOG_WORD c) w, .set (CLU_DRW_ERR_LOG_UE c) (b2n ue), .set (CLU_DRW_ERR_LOG_SCRUB c) (b2n scrub),
    .set (CLU_DRW_ERR_LOG_VALID c) 1,
    .when (s.get (CLU_DRW_ERR_LOG_VALID c) = 0 && !ue) (noteHere 3 (memStation c) 0 w)])

/-- What a read or the scrub makes of a drawer word: 0 clean, 1 corrected and written back, 2 uncorrectable (R188, R189). -/
def visitDrawer (c w : Nat) (scrub : Bool) : Act := .ask fun s =>
  let k := 2 ^ 21 * c + w
  match s.rd .drwErr k with
  | 0 => .skip
  | 1 => .all [count (CLU_DRW_ECC_CE_COUNT c) (CLU_DRW_ECC_CE_OVF c), logDrawer c w false scrub, .put .drwErr k 0]
  | _ => .all [count (CLU_DRW_ECC_UE_COUNT c) (CLU_DRW_ECC_UE_OVF c), logDrawer c w true scrub, noteHere 4 (memStation c) 0 w]

/-- Log a shelf error (R207). A corrected one that is logged is an event (R477). -/
def logShelf (ch line dev : Nat) (ue scrub : Bool) : Act := .ask fun s =>
  .when (s.get (SHF_ERR_LOG_VALID ch) = 0 || (ue && s.get (SHF_ERR_LOG_UE ch) = 0)) (.all [
    .set (SHF_ERR_LOG_LINE ch) line, .set (SHF_ERR_LOG_DEVICE ch) dev, .set (SHF_ERR_LOG_UE ch) (b2n ue),
    .set (SHF_ERR_LOG_SCRUB ch) (b2n scrub), .set (SHF_ERR_LOG_VALID ch) 1,
    .when (s.get (SHF_ERR_LOG_VALID ch) = 0 && !ue) (noteHere 3 (memStation (64 + ch)) 0 line)])

/-- What a read or the scrub makes of a shelf line: only the scrub writes a correction back, and it leaves an uncorrectable line
poisoned (R192, R193). -/
def visitShelf (ch line : Nat) (scrub : Bool) : Act := .ask fun s =>
  let k := 2 ^ 32 * ch + line
  let e := s.rd .shfErr k
  if e = 0 then .skip
  else if e ≤ 10 then
    .all [count (SHF_ECC_CE_COUNT ch) (SHF_ECC_CE_OVF ch), logShelf ch line (e - 1) false scrub, .when scrub (.put .shfErr k 0)]
  else .all [count (SHF_ECC_UE_COUNT ch) (SHF_ECC_UE_OVF ch), logShelf ch line 0xF true scrub,
    noteHere 4 (memStation (64 + ch)) 0 line]

/-- The check units (128-bit words of a drawer, 64-byte lines of a shelf) that `n` bytes at offset `o` of MEM touch: the
first and how many. -/
def units (mem o n : Nat) : Nat × Nat :=
  let u := if mem < 64 then 16 else 64
  (o / u, if n = 0 then 0 else (o + n - 1) / u - o / u + 1)

/-- Whether a check unit of MEM is uncorrectable. -/
def State.unitBad (s : State) (mem i : Nat) : Bool :=
  if mem < 64 then 2 ≤ s.rd .drwErr (2 ^ 21 * mem + i) else 11 ≤ s.rd .shfErr (2 ^ 32 * (mem - 64) + i)

/-- Whether any of `n` bytes at offset `o` of MEM lies in an uncorrectable unit. -/
def State.rangeBad (s : State) (mem o n : Nat) : Bool :=
  let r := units mem o n
  (List.range r.2).any fun i => s.unitBad mem (r.1 + i)

/-- Read `n` bytes at offset `o` of MEM: errors are counted, logged and corrected. -/
def visitRange (mem o n : Nat) : Act :=
  let r := units mem o n
  .each (List.range r.2) fun i => if mem < 64 then visitDrawer mem (r.1 + i) false else visitShelf (mem - 64) (r.1 + i) false

/-- A list without what repeats the element before it. -/
def runsOf : List Nat → List Nat
  | a :: b :: t => if a = b then runsOf (b :: t) else a :: runsOf (b :: t)
  | l => l

/-- Read elements at the offsets `l` of MEM, each within one check unit: a unit read for several in a row is read once. -/
def visitElems (mem : Nat) (l : List Nat) : Act :=
  .each (runsOf (l.map fun o => (units mem o 1).1)) fun i =>
    if mem < 64 then visitDrawer mem i false else visitShelf (mem - 64) i false

/-- Read `n` bytes at offset `o` of MEM, by the marks alone: the same counting for a range of any length. -/
def visitMarked (mem o n : Nat) : Act := .ask fun s =>
  let r := units mem o n
  let b := if mem < 64 then 2 ^ 21 * mem else 2 ^ 32 * (mem - 64)
  let m := if mem < 64 then s.drwErr else s.shfErr
  .each (m.filter fun p => b + r.1 ≤ p.1 && p.1 < b + r.1 + r.2) fun p =>
    if mem < 64 then visitDrawer mem (p.1 - b) false else visitShelf (mem - 64) (p.1 - b) false

/-- Write bytes at offset `o` of MEM: the units written carry valid check bits again. -/
def writeMem (mem o : Nat) (bs : List Byte) : Act :=
  let r := units mem o bs.length
  .seq (.pokes (memBase mem + o) bs)
    (.each (List.range r.2) fun i =>
      if mem < 64 then .put .drwErr (2 ^ 21 * mem + r.1 + i) 0 else .put .shfErr (2 ^ 32 * (mem - 64) + r.1 + i) 0)

/-- What the check bits show after a further error: in a drawer word two single-bit errors are a double-bit one (R188), and in a shelf
line errors of two devices are uncorrectable (R192). -/
def joinErr (mem a b : Nat) : Nat :=
  if mem < 64 then min 2 (a + b)
  else if a = 0 || a = b then b else if b = 0 then a else 16

/-- An error strikes check unit `i` of MEM. -/
def strike (mem i e : Nat) : Act := .ask fun s =>
  if mem < 64 then .put .drwErr (2 ^ 21 * mem + i) (joinErr mem (s.rd .drwErr (2 ^ 21 * mem + i)) e)
  else .put .shfErr (2 ^ 32 * (mem - 64) + i) (joinErr mem (s.rd .shfErr (2 ^ 32 * (mem - 64) + i)) e)

/-! Regions (R198, R174). -/

/-- A region of the plan. -/
def State.region (s : State) (p : Nat) : Option Region := s.regions.find? fun r => r.num = p

/-- Bytes of one half. -/
def Region.half (r : Region) : Nat := r.records * r.record * 64

/-- Offset in its memory of record `j` through a view: 0 PLAIN, 1 CUR, 2 NEXT (R174, R198). -/
def State.recordOff (s : State) (r : Region) (view j : Nat) : Nat :=
  let h := s.get (GLB_STEP_STATE_CUR_HALF r.graph)
  let half := if view = 1 then h else if view = 2 then 1 - h else 0
  r.base + half * r.half + j * r.record * 64

/-! Memory operations (R200–R203). -/

/-- Fields of the memory operation word (R200). -/
def mwKind (w : Nat) : Nat := bits w 0 4
def mwView (w : Nat) : Nat := bits w 4 2
def mwRegion (w : Nat) : Nat := bits w 6 12
def mwFirst (w : Nat) : Nat := bits w 20 24
def mwCount (w : Nat) : Nat := bits w 44 20

/-- A drawer or shelf station. -/
def isMemory (e : Nat) : Bool := (e < 0x120 && e % 8 = 6) || (0x130 ≤ e && e < 0x140)

/-- MEM of a memory station (R198). -/
def memOf (e : Nat) : Nat := if e < 0x120 then e / 8 else 64 + (e - 0x130)

/-- The class a memory station charges (R39). -/
def memClass (e : Nat) : BudgetClass := if e < 0x120 then .drawer else .shelf

/-- The LEFT register of a memory station (R201). -/
def leftField (e : Nat) : Field := if e < 0x120 then CLU_DRW_LEFT_RECORDS (e / 8) else SHF_LEFT_RECORDS (e - 0x130)

/-- Records still to move in the current step. -/
def State.recordsLeft (s : State) (e : Nat) (a : Alt) : Nat :=
  let l := s.get (leftField e)
  if l = 0 then mwCount a.op else l

/-- The offset of the record that the next firing uses, and the record's bytes (R201). -/
def State.recordAt (s : State) (e : Nat) (a : Alt) : Option (Nat × Nat) :=
  (s.region (mwRegion a.op)).map fun r =>
    (s.recordOff r (mwView a.op) (mwFirst a.op + (mwCount a.op - s.recordsLeft e a)), r.record * 64)

/-- Readiness of a memory alternative: a paired view waits for the end of a commit attempt (R37, R179, R201). -/
def State.memReady (s : State) (e : Nat) (a : Alt) : Bool :=
  s.altReady a && s.altFunded (memClass e) e 0 a &&
  (mwView a.op = 0 || s.get (GLB_STEP_STATE_IN_COMMIT (s.altGraph a)) = 0)

/-- The end of one firing of a memory step: LEFT falls, and the step ends with its last record (R201). -/
def memEnd (e : Nat) (a : Alt) : Act := .ask fun s =>
  let l := s.recordsLeft e a - 1
  .seq (.set (leftField e) l) (if l = 0 then advance e 0 else holdRun e 0 a)

/-- A WRITE firing (R202): the first write through a NEXT view sets NEXT_DIRTY (R174). -/
def writeFire (e : Nat) (a : Alt) : Act := .ask fun s =>
  match a.inputs, s.recordAt e a with
  | [i], some (o, cap) =>
    let t := s.inputD i
    if !headerValid t.head || cap < t.recordLen then badHeader i
    else
      .all [writeMem (memOf e) o t.record, .when (mwView a.op = 2) (.set (GLB_STEP_STATE_NEXT_DIRTY (s.altGraph a)) 1),
        charge (allowKey e 0 (s.altGraph a)) (tileUnits t), fireTiles a [], memEnd e a]
  | _, _ => .skip

/-- A READ firing (R203). -/
def readFire (e : Nat) (a : Alt) : Act := .ask fun s =>
  match a.outputs, s.recordAt e a with
  | [o], some (off, cap) =>
    let m := memOf e
    let h := Mem.nat s.mem (memBase m + off) 32
    if s.rangeBad m off 64 || !headerValid h || cap < 32 + hPayloadLen h then .seq (visitRange m off 64) (badHeader o)
    else
      let n := 32 + hPayloadLen h
      let bad := s.rangeBad m off n
      let t : Tile := (Tile.mk (Mem.nat s.mem (memBase m + off) n)).withPoison bad
      .all [visitRange m off (max 64 n), charge (allowKey e 0 (s.altGraph a)) (tileUnits t),
        .when (hPoison t.head) (raisePoisoned o), fireTiles a [(o, t)], memEnd e a]
  | _, _ => .skip

/-- A firing of a memory station of kind 1 WRITE or 2 READ (R36, R200). -/
def memFire (e kind : Nat) (f : Alt → Act) : Act :=
  .when (isMemory e) (.ask fun s => fireOn e 0 (s.memReady e) (fun a => mwKind a.op = kind) f)

/-- `strikes`: check units of the record read that errors have struck, with what they show (R188, R192). -/
def execMemRead (e : Endpt) (strikes : List (Nat × Nat)) (s : State) : Host.Outcome State Fault Refusal :=
  live (Act.seq (.each strikes fun x => strike (memOf e.toNat) x.1 x.2) (memFire e.toNat 2 (readFire e.toNat))) s
def execMemWrite (e : Endpt) (s : State) : Host.Outcome State Fault Refusal :=
  live (memFire e.toNat 1 (writeFire e.toNat)) s

/-! Stalls (R190, R194). -/

/-- Units that a stall of one CCLK cycle costs a DRAWER firing: what its port moves in a cycle (R187; DESIGN CHOICE, log entry 123). -/
def drawerCycle : Nat := 20

/-- Host accesses that had waited 256 CCLK cycles each took a cycle of a drawer's port: for each, the cluster and the graph of the
firing in progress, which is charged that cycle (R40, R190). -/
def drawerStalls (l : List (Cluster × Graph)) : Act :=
  .each l fun x => charge (allowKey (8 * x.1.val + 6) 0 x.2.val) drawerCycle

/-! Scrubs and refresh (R189, R193, R194). -/

/-- The patrol scrub visits a drawer word, which an error may have struck (R189). -/
def execDrawerScrub (c : Cluster) (w : BitVec 21) (err : Fin 3) (s : State) : Host.Outcome State Fault Refusal :=
  live (Act.seq (strike c.val w.toNat err.val) (visitDrawer c.val w.toNat true)) s

/-- A stall inside a firing of graph `g` of a SHELF: one unit for each 64-byte transfer time (R194). -/
def shelfStall (ch : Nat) (g : Option Graph) (n : Nat) : Act :=
  match g with
  | some g => charge (allowKey (0x130 + ch) 0 g.val) n
  | none => .skip

/-- The patrol scrub visits a shelf line (R193): `raced` when a write reaches the line before the write-back, whose data
stands. -/
def execShelfScrub (ch : Shelf) (line : BitVec 32) (err : Fin 17) (raced : Bool) (stalled : Option Graph) (n : BitVec 16)
    (s : State) : Host.Outcome State Fault Refusal :=
  let k := 2 ^ 32 * ch.val + line.toNat
  let mark : Act := .ask fun s => .when (11 ≤ s.rd .shfErr k) (.put .shfErr k 16)
  live (Act.all [strike (64 + ch.val) line.toNat err.val, visitShelf ch.val line.toNat true, mark, .when raced (.put .shfErr k 0),
    shelfStall ch.val stalled n.toNat]) s

def execShelfRefresh (ch : Shelf) (stalled : Option Graph) (n : BitVec 16) (s : State) : Host.Outcome State Fault Refusal :=
  live (shelfStall ch.val stalled n.toNat) s

/-! Register commands of R207. -/

def clrDrwCe (c : Nat) : Act := countClear (CLU_DRW_ECC_CE_COUNT c) (CLU_DRW_ECC_CE_OVF c)
def clrDrwUe (c : Nat) : Act := countClear (CLU_DRW_ECC_UE_COUNT c) (CLU_DRW_ECC_UE_OVF c)
def clrShfCe (ch : Nat) : Act := countClear (SHF_ECC_CE_COUNT ch) (SHF_ECC_CE_OVF ch)
def clrShfUe (ch : Nat) : Act := countClear (SHF_ECC_UE_COUNT ch) (SHF_ECC_UE_OVF ch)

def execDrwClrCe (c : Cluster) (s : State) : Host.Outcome State Fault Refusal := live (clrDrwCe c.val) s
def execDrwClrUe (c : Cluster) (s : State) : Host.Outcome State Fault Refusal := live (clrDrwUe c.val) s
def execShfClrCe (ch : Shelf) (s : State) : Host.Outcome State Fault Refusal := live (clrShfCe ch.val) s
def execShfClrUe (ch : Shelf) (s : State) : Host.Outcome State Fault Refusal := live (clrShfUe ch.val) s

end Sys2Proof.Machine
end

