-- ==== Sys2Proof/Machine/Snap.lean ====
section
/-!
DEFINITION. Counter snapshots (R473–R476) and the fault log (R477–R480).
-/

namespace Sys2Proof.Machine

open Reg

/-! Snapshots. -/

/-- A register of the layout COUNT [47:0], OVF [63] (R474). -/
def counterLayout (r : RegDef) : Bool :=
  r.fields.any (fun f => f.lo = 0 && f.width = 48) && r.fields.any (fun f => f.lo = 63 && f.width = 1)

/-- Whether the register at an offset has a shadow (R474). -/
def shadowed (off : Nat) : Bool :=
  match regAt off with
  | none => false
  | some (a, r) =>
    counterLayout r || (List.range 8).any (fun g => a = (GLB_STEP_NUM_STEP g).key / 8 || a = (GLB_STEP_CSEQ_CSEQ g).key / 8) ||
    a = CNT_CYCLE_COUNT.key / 8 || a = CNT_AO_CYCLE_COUNT.key / 8

/-- Copy the live value of every shadowed register; every shadowed field has reset value 0 (R473). -/
def snapCopy : Act := .ask fun s =>
  .seq (.upd (.clear .shadow)) (.each (s.regs.filter fun p => shadowed (p.1 / 8)) fun p => .put .shadow p.1 p.2)

/-- Request a snapshot, or join the pending one (R473, R476). -/
def snapRequest : Act := .ask fun s =>
  .when (s.get CNT_SNAP_STATUS_PENDING = 0) (.seq snapCopy (.set CNT_SNAP_STATUS_PENDING 1))

/-- The snapshot completes, and with it the SNAPSHOT commands that wait for it (R379, R473). -/
def snapComplete : Act := .ask fun s =>
  .when (s.get CNT_SNAP_STATUS_PENDING = 1) (.all [
    .modify CNT_SNAP_SEQ_SEQ (· + 1), .set CNT_SNAP_STATUS_PENDING 0,
    .ask fun t => .each (t.inflight.filter fun c => c.opcode = 9 && c.started) fun c => finishCmd c 0 (t.get CNT_SNAP_SEQ_SEQ)])

/-- A snapshot at each outcome of a graph whose AUTO bit is set (R476). -/
def snapAuto (g : Nat) : Act := .ask fun s => .when (bitAt (s.get CNT_SNAP_CFG_AUTO) g) snapRequest

def execSnapshotRequest (s : State) : Host.Outcome State Fault Refusal := live snapRequest s
def execSnapshotComplete (s : State) : Host.Outcome State Fault Refusal := live snapComplete s

/-! Fault records (R477–R480). -/

/-- SEVERITY of a class (R477). -/
def faultSeverity (c : Nat) : Nat := ([0, 2, 2, 0, 2, 1, 1, 0, 1, 2, 0, 3, 2, 0, 1, 2][c]?).getD 0

/-- The notice code whose arrival a class reports: 5 LINK_DOWN, 6 QUARANTINE, 7 FENCE (R477). -/
def faultNotice (c : Nat) : Option Nat := if c = 5 then some 0x03 else if c = 6 then some 0x04 else if c = 7 then some 0x01 else none

/-- Firmware takes the oldest notice that a record of the class reports (R237). -/
def takeNotice (c : Nat) : Act := .ask fun s =>
  match faultNotice c with
  | none => .skip
  | some k =>
    match s.notices.find? fun n => bits n 0 8 = k with
    | some n => .upd (.notices (s.notices.erase n))
    | none => .skip

/-- Whether a record of an event equals the one of an entry of the log (R478). -/
def State.sameRecord (s : State) (i : Nat) (e : FaultEvent) : Bool :=
  s.get (CNT_FLT_ENTRY_CLASS i) = e.cls && s.get (CNT_FLT_ENTRY_SOURCE i) = e.source && s.get (CNT_FLT_ENTRY_CHIP i) = e.chip &&
  s.get (CNT_FLT_ENTRY_DETAIL i) = e.detail

/-- Firmware posts the record of an event (R478–R480): `recent` when the newest record was posted less than 1 ms earlier. -/
def postFault (e : FaultEvent) (recent : Bool) : Act := .ask fun s =>
  let head := s.get CNT_FLT_PTR_HEAD
  let tail := s.get CNT_FLT_PTR_TAIL
  let newest := (tail + 255) % 256
  .seq (takeNotice e.cls)
    (if recent && head ≠ tail && s.sameRecord newest e then
      .modify (CNT_FLT_ENTRY_REPEAT newest) fun r => min (r + 1) 255
    else if (tail + 1) % 256 = head then
      .seq (count CNT_FLT_LOST_COUNT CNT_FLT_LOST_OVF) (.upd (.faultSeq ((s.faultSeq + 1) % 2 ^ 32)))
    else
      .all [
        .set (CNT_FLT_ENTRY_FSEQ tail) s.faultSeq, .set (CNT_FLT_ENTRY_CLASS tail) e.cls,
        .set (CNT_FLT_ENTRY_SEVERITY tail) (faultSeverity e.cls), .set (CNT_FLT_ENTRY_REPEAT tail) 0,
        .set (CNT_FLT_ENTRY_SOURCE tail) e.source, .set (CNT_FLT_ENTRY_CHIP tail) e.chip,
        .set (CNT_FLT_ENTRY_GRAPH tail) e.graph, .set (CNT_FLT_ENTRY_DETAIL tail) e.detail, .set CNT_FLT_PTR_TAIL (tail + 1),
        .upd (.faultSeq ((s.faultSeq + 1) % 2 ^ 32)),
        .when (s.get CNT_FLT_CFG_IRQ_EN = 1 && bitAt (s.get CNT_FLT_CFG_CLASS_MASK) e.cls) (signal (s.get CNT_FLT_CFG_VEC))])

/-- FAULT_RECORD_POST: firmware reports the oldest event that it has not reported (R478), in `cycles` issue cycles of desk 0 (R481). -/
def postOldest (recent : Bool) (cycles : Nat) : Act := .ask fun s =>
  match s.faultDue with
  | [] => .skip
  | e :: rest => .all [
      countBy (CLU_DESK_FWCYC_COUNT 0) (CLU_DESK_FWCYC_OVF 0) cycles, .upd (.faultDue rest), postFault e recent]

def execFaultRecordPost (recent : Bool) (cycles : BitVec 16) (s : State) : Host.Outcome State Fault Refusal :=
  live (postOldest recent cycles.toNat) s
def execClrFltLost (s : State) : Host.Outcome State Fault Refusal := live (countClear CNT_FLT_LOST_COUNT CNT_FLT_LOST_OVF) s
def execClrDrainDrop (s : State) : Host.Outcome State Fault Refusal :=
  live (countClear CNT_DRAIN_DROP_COUNT CNT_DRAIN_DROP_OVF) s

end Sys2Proof.Machine
end

