-- ==== Sys2Proof/Machine/Groups.lean ====
section
/-!
DEFINITION. Collective groups: levels, digits, ranks and positions (R272–R274), the detour in force (R306), the surviving members
(R298), and signatures (R292).
-/

namespace Sys2Proof.Machine

open Reg

/-! Levels and members (R272–R274). -/

/-- Number of levels of a group. -/
def State.levels (s : State) (g : Nat) : Nat := s.get (VSY_GROUP_LEVELS g) + 1

/-- Sizes n_l of the levels, from level 0. -/
def State.sizes (s : State) (g : Nat) : List Nat := (List.range (s.levels g)).map fun l => s.get (VSY_GROUP_SIZE g l) + 1

/-- This chip's digits. -/
def State.ownDigits (s : State) (g : Nat) : List Nat := (List.range (s.levels g)).map fun l => s.get (VSY_GROUP_DIGIT g l)

/-- Members of a group: N = Π n_l. -/
def groupN (sizes : List Nat) : Nat := sizes.foldl (· * ·) 1

/-- The rank of digits: ρ = Σ d_l × Π_{j<l} n_j. -/
def rankOf : List Nat → List Nat → Nat
  | n :: ns, d :: ds => d + n * rankOf ns ds
  | _, _ => 0

/-- The digits of a rank. -/
def digitsOf : List Nat → Nat → List Nat
  | [], _ => []
  | n :: ns, r => r % n :: digitsOf ns (r / n)

/-- Whether a level is a clique: a W level (R273). -/
def State.clique (s : State) (g l : Nat) : Bool := s.get (VSY_GROUP_AXIS g l) = 0

/-- A chip ID with its coordinate on an axis replaced. -/
def withAxis (id a v : Nat) : Nat :=
  match a with
  | 0 => setBits id 20 4 v
  | 1 => setBits id 16 4 v
  | 2 => setBits id 8 8 v
  | _ => setBits id 0 8 v

/-- The chip ID of the member with given digits. -/
def State.memberChip (s : State) (g : Nat) (ds : List Nat) : Nat :=
  ds.zipIdx.foldl (fun id p => withAxis id (s.get (VSY_GROUP_AXIS g p.2)) (s.get (VSY_GROUP_BASE g p.2) + p.1)) s.chipId

/-- The position of digits: the mixed-radix number over the detour levels, in level order (R274). -/
def State.position (s : State) (g : Nat) (ds : List Nat) : Nat :=
  let lv := (List.range (s.levels g)).filter fun l => s.get (VSY_GROUP_DLVL g l) = 1
  rankOf (lv.map fun l => s.get (VSY_GROUP_SIZE g l) + 1) (lv.map fun l => (ds[l]?).getD 0)

/-- The first detour level of a group. -/
def State.firstDetour (s : State) (g : Nat) : Option Nat := (List.range (s.levels g)).find? fun l => s.get (VSY_GROUP_DLVL g l) = 1

/-- Digits with that of one level moved by `k` steps modulo n. -/
def State.moved (s : State) (g l k : Nat) (ds : List Nat) : List Nat :=
  ds.set l (((ds[l]?).getD 0 + k) % (s.get (VSY_GROUP_SIZE g l) + 1))

/-- The buddy of a member: one digit lower on the first detour level (R306, R337). -/
def State.buddyOf (s : State) (g : Nat) (ds : List Nat) : List Nat :=
  match s.firstDetour g with
  | some l => s.moved g l (s.get (VSY_GROUP_SIZE g l)) ds
  | none => ds

/-- The successor of this chip on the first detour level (R325, R337). -/
def State.successorDigits (s : State) (g : Nat) : Option (List Nat) :=
  (s.firstDetour g).map fun l => s.moved g l 1 (s.ownDigits g)

/-- A member stands at the withdrawn position (R298, R305). -/
def State.withdrawn (s : State) (g : Nat) (ds : List Nat) : Bool :=
  s.get (VSY_GROUP_DETOURED g) = 1 && s.position g ds = s.get (VSY_GROUP_WITHDRAWN g)

/-- The chip that serves a member: the buddy for a withdrawn one (R306). -/
def State.servingChip (s : State) (g : Nat) (ds : List Nat) : Nat :=
  s.memberChip g (if s.withdrawn g ds then s.buddyOf g ds else ds)

/-- The digits on whose behalf this chip acts: its own, and those of the position it plays (R306). -/
def State.actors (s : State) (g : Nat) : List (List Nat) :=
  s.ownDigits g ::
    match s.successorDigits g with
    | some ds => if s.withdrawn g ds && s.rd .takeover g = 1 then [ds] else []
    | none => []

/-! Surviving members (R298). -/

/-- The ranks of the surviving members, ascending. -/
def State.survivors (s : State) (g : Nat) : List Nat :=
  let sz := s.sizes g
  let all := List.range (groupN sz)
  if s.get (VSY_GROUP_DETOURED g) = 1 then all.filter fun r => !s.withdrawn g (digitsOf sz r) else all

/-- This chip's rank. -/
def State.ownRank (s : State) (g : Nat) : Nat := rankOf (s.sizes g) (s.ownDigits g)

/-- The chip of a rank. -/
def State.rankChip (s : State) (g r : Nat) : Nat := s.memberChip g (digitsOf (s.sizes g) r)

/-- ⌈log2 n⌉. -/
def ceilLog2 (n : Nat) : Nat := if n ≤ 1 then 0 else Nat.log2 (n - 1) + 1

/-- The surviving member `k` places after this one, `k` taken modulo N′ (R298); none when this chip is not among them. -/
def State.survivorAt (s : State) (g : Nat) (back : Bool) (k : Nat) : Option Nat :=
  let l := s.survivors g
  let n := l.length
  match l.findIdx? fun r => r = s.ownRank g with
  | none => none
  | some i => l[(i + (if back then n - k % n else k)) % n]?

/-- The partners to which this member forwards an abort (R293). -/
def State.partners (s : State) (g : Nat) : List Nat :=
  (((List.range (ceilLog2 (s.survivors g).length)).filterMap fun k => s.survivorAt g false (2 ^ k)).filter fun r =>
    r ≠ s.ownRank g).eraseDups

/-! Signatures (R292). -/

/-- The 48-byte signature string. -/
def sigString (op et red cnt g epoch tag hash : Nat) : List Byte :=
  leBytes 1 op ++ leBytes 1 et ++ leBytes 1 red ++ leBytes 1 0 ++ leBytes 4 cnt ++ leBytes 2 g ++ leBytes 2 epoch ++
  leBytes 2 tag ++ leBytes 2 0 ++ leBytes 32 hash

/-- PLAN_HASH of GLB_PLAN_HASH. -/
def State.activeHash (s : State) : Nat := pack 32 ((List.range 8).map fun k => s.get (GLB_PLAN_HASH_HASH k))

/-- The signature of a descriptor at its group's epoch. -/
def State.descSig (s : State) (t : Nat) : Nat :=
  let g := s.get (VSY_DESC_GROUP t)
  crc32c (sigString (s.get (VSY_DESC_OP t)) (s.get (VSY_DESC_ET t)) (s.get (VSY_DESC_RED t)) (s.get (VSY_DESC_COUNT t)) g
    (s.get (VSY_GROUP_EPOCH g)) t s.activeHash)

/-- The signature of the commits of a graph: TAG 0x1000 + g, and 0 for what a commit has not. -/
def State.commitSig (s : State) (g : Nat) : Nat :=
  let c := s.get (GLB_STEP_CFG_GROUP g)
  crc32c (sigString 0 0 0 0 c (s.get (VSY_GROUP_EPOCH c)) (0x1000 + g) s.activeHash)

/-- Signed difference of two epochs (R302). -/
def epochDiff (a b : Nat) : Int := signed 16 ((a + 2 ^ 16 - b % 2 ^ 16) % 2 ^ 16)

/-- A multicast group, or its substitute under a detour (R306). -/
def State.mcGroup (s : State) (m : Nat) : Nat := if s.rd .subst m = 0 then m else s.rd .subst m - 1

/-! Tables by graph. -/

/-- Valid descriptors. -/
def State.descs (s : State) : List Nat := s.listed (VSY_DESC_VALID 0) 0x40 4096

/-- Valid groups. -/
def State.groups (s : State) : List Nat := s.listed (VSY_GROUP_VALID 0) 0x40 1024

/-- Graph of a descriptor's group. -/
def State.descGraph (s : State) (t : Nat) : Nat := s.get (VSY_GROUP_GRAPH (s.get (VSY_DESC_GROUP t)))

/-- Descriptors of a graph's groups. -/
def State.graphDescs (s : State) (g : Nat) : List Nat := s.descs.filter fun t => s.descGraph t = g

/-- This chip takes part in the collectives of a graph: it has not withdrawn from it (R305). -/
def State.takesPart (s : State) (g : Nat) : Bool := s.rd .gone g = 0

/-- Valid stream contexts of a graph. -/
def State.graphStreams (s : State) (g : Nat) : List Nat :=
  (s.listed (STR_VALID 0) 0x40 262144).filter fun n => s.get (STR_GRAPH n) = g

/-- The tag of a VUSYN operation word (R279). -/
def vwTag (w : Nat) : Nat := bits w 4 12

/-- A VUSYN endpoint. -/
def isVusyn (e : Nat) : Bool := 0x120 ≤ e && e < 0x124

/-- The graph of an alternative of a station: that of its streams, of its descriptor's group, or of its DESK word (R37, R140,
R315). -/
def State.altOwner (s : State) (e : Nat) (a : Alt) : Nat :=
  if a.streams ≠ [] then s.altGraph a
  else if isVusyn e then s.descGraph (vwTag a.op)
  else if e < 0x120 && e % 8 = 7 then deskGraph a.op
  else 0

/-- Stations and halves whose program holds alternatives of a graph alone (R482). -/
def State.graphStations (s : State) (g : Nat) : List (Nat × Nat) :=
  (s.progs.filter fun p =>
    let alts := p.steps.flatMap (·.alts)
    !alts.isEmpty && alts.all fun a => s.altOwner p.endpt a = g).map fun p => (p.endpt, p.part)

end Sys2Proof.Machine
end

