-- ==== Sys2Proof/Machine/Steps.lean ====
section
/-!
DEFINITION. Step transactions (R174–R186): scale slot updates (R92), attempt marks (R482), the outcome of a commit attempt, and
what host software writes to GLB_STEP_CTRL and GLB_STEP_NUM.
-/

namespace Sys2Proof.Machine

open Reg

/-! Scale slots (R92). -/

/-- FMAX of a slot format. -/
def fmaxOf (fmt : Nat) : Option Nat :=
  match fmt with
  | 0x01 => some 7
  | 0x02 => some 127
  | 0x06 => some 480
  | 0x07 => some 114688
  | 0x08 => some 65504
  | _ => none

/-- EST as the update reads it: a non-negative finite FP32 code. -/
def estRead (c : Nat) : Nat :=
  let m := c % 2 ^ 31
  if 0x7F800000 < m then 0 else if m = 0x7F800000 then 0x7F7FFFFF else m

/-- EST × DECAY, with a subnormal result read as +0. -/
def estDecay (est k : Nat) : Nat :=
  let d : Val := if k = 0 then .fin false 1 0 else .fin false (2 ^ (k + 3) - 1) (-(k + 3 : Nat))
  let r := (fp32.round .rne false false ((fp32Val est).mul d).1).1
  if r < 0x00800000 then 0 else r

/-- The largest k with m × 2^e × 2^k ≤ F, for m > 0 and F > 0. -/
def largestK (m : Nat) (e : Int) (f : Nat) : Int :=
  let k : Int := (Nat.log2 f : Int) - ((Nat.log2 m : Int) + e)
  if (Val.fin false m (e + k)).cmp (.fin false f 0) ≤ 0 then k else k - 1

/-- Update one slot at a commit attempt. -/
def scaleUpdate (n : Nat) : Act := .ask fun s =>
  let est := max (estDecay (estRead (s.get (GLB_SCALE_SLOT_EST n))) (s.get (GLB_SCALE_SLOT_DECAY n))) (s.get (GLB_SCALE_SLOT_AMAX n))
  let sat := s.get (GLB_SCALE_SLOT_SAT_STEP n) = 1
  .all [
    match fmaxOf (s.get (GLB_SCALE_SLOT_FMT n)) with
    | none => .skip
    | some f =>
      let e : Int :=
        match fp32Val est with
        | .fin _ m x => if m = 0 then 127 else largestK m x f - s.get (GLB_SCALE_SLOT_H n)
        | _ => 127
      let e := if sat then min e (s.slotExp n - 1) else e
      .set (GLB_SCALE_SLOT_E n) (unsigned 8 (max (-126) (min 127 e))),
    .when sat (.set (GLB_SCALE_SLOT_OVF_COUNT n) (min (s.get (GLB_SCALE_SLOT_OVF_COUNT n) + 1) 0xFFFF)),
    .set (GLB_SCALE_SLOT_EST n) est, .set (GLB_SCALE_SLOT_AMAX n) 0, .set (GLB_SCALE_SLOT_SAT_STEP n) 0]

/-- Update every VALID slot of a graph. -/
def scaleUpdates (g : Nat) : Act := .ask fun s =>
  .each ((s.listed (GLB_SCALE_SLOT_VALID 0) 0x10 16384).filter fun n => s.get (GLB_SCALE_SLOT_GRAPH n) = g) scaleUpdate

/-! Attempt marks (R482). -/

/-- The milestones that a graph's mark holds. -/
def State.markMls (s : State) (g : Nat) : List Nat :=
  ((s.graphStreams g).flatMap (fun n =>
    (if s.namesMls n then [s.get (STR_MLS_DONE n)] else []) ++ (if s.get (STR_WAIT_EN n) = 1 then [s.get (STR_MLS_WAIT n)] else [])) ++
  (s.graphDescs g).flatMap (fun t =>
    s.get (VSY_DESC_MLS_DONE t) :: (if s.get (VSY_DESC_OP t) = 6 then [s.get (VSY_BUCKET_MLS_FIN t)] else [])) ++
  [s.get (GLB_STEP_GROUP_COMMIT_MLS g)]).eraseDups

/-- The mark of a graph now. -/
def State.markOf (s : State) (g : Nat) : Mark where
  graph := g
  streams := (s.graphStreams g).map fun n => (n, s.get (STR_NEXT_SEQ n), s.get (STR_TILES_DONE n), s.rd .rxSeq n)
  mls := (s.markMls g).map fun m => (m, s.get (MLS_ENTRY_COUNT m), s.get (MLS_ENTRY_TARGET m))
  descs := (s.graphDescs g).map fun t => (t, s.get (VSY_DESC_INST t))
  steps := (s.graphStations g).map fun p => (p.1, p.2, s.stepIdx p.1 p.2)

/-- Record the attempt mark of a graph with step transactions. -/
def takeMark (g : Nat) : Act := .ask fun s =>
  .when (s.get (GLB_STEP_CFG_ENABLE g) = 1) (.upd (.marks ((s.marks.filter fun m => m.graph ≠ g) ++ [s.markOf g])))

/-! Outcomes (R180). -/

def outPass : Nat := 1
def outSkip : Nat := 2
def outRerun : Nat := 3
def outHalt : Nat := 4
def outRollback : Nat := 5

/-- Why a graph halts, as the HALT record has it (R477). -/
def haltOutcome : Nat := 0
def haltWatchdog : Nat := 1
def haltWithdrawal : Nat := 2
def haltNoCover : Nat := 3
def haltHost : Nat := 4
def haltFenceFull : Nat := 5

/-- Halt a graph: it behaves as frozen on the chip (R181). The halt of a graph that ran is an event of class HALT, with the LAST_SRC
that it leaves (R477). -/
def haltGraph (g cause src : Nat) : Act := .ask fun s =>
  .all [.set (GLB_STEP_STATE_HALTED g) 1, idleRefresh g,
    .when (s.get (GLB_STEP_STATE_HALTED g) = 0) (noteHere 11 0x1F0 g (cause + src <<< 4))]

/-- Halt a graph for a reason other than the end of an attempt: LAST_SRC stands. -/
def haltFor (g cause : Nat) : Act := .ask fun s => haltGraph g cause (s.get (GLB_STEP_FLAGS_LAST_SRC g))

/-- Apply an outcome; `keep` leaves ATTEMPT unchanged (R308). `cause` is the cause of a HALT and `src` the LAST_SRC of the attempt; a
SKIP or a RERUN is an event of class STEP_OUTCOME (R477). -/
def applyOutcome (g o : Nat) (keep : Bool) (cause src : Nat) : Act := .ask fun s =>
  .all [
    if o = outPass then
      .all [.set (GLB_STEP_STATE_CUR_HALF g) (1 - s.get (GLB_STEP_STATE_CUR_HALF g)), .modify (GLB_STEP_NUM_STEP g) (· + 1),
        .set (GLB_STEP_STATE_ATTEMPT g) 0, count (GLB_STEP_PASSES_COUNT g) (GLB_STEP_PASSES_OVF g)]
    else if o = outSkip then
      .all [.modify (GLB_STEP_NUM_STEP g) (· + 1), .set (GLB_STEP_STATE_ATTEMPT g) 0,
        count (GLB_STEP_SKIPS_COUNT g) (GLB_STEP_SKIPS_OVF g)]
    else if o = outRerun then
      .seq (.when (!keep) (.modify (GLB_STEP_STATE_ATTEMPT g) fun a => min (a + 1) 255))
        (count (GLB_STEP_RERUNS_COUNT g) (GLB_STEP_RERUNS_OVF g))
    else haltGraph g cause src,
    .when (o = outSkip || o = outRerun) (noteHere 10 0x1F0 g (o + src <<< 4)),
    .set (GLB_STEP_STATE_LAST_OUTCOME g) o, .when (o ≠ outHalt) (takeMark g), snapAuto g]

/-- The outcome of combined classes (R178): bits NAN, OVF, MISMATCH, HALT. -/
def State.outcomeOf (s : State) (g cls : Nat) : Nat :=
  let policy (p : Nat) : Nat := if p = 0 then outSkip else if p = 1 then outRerun else outHalt
  let o :=
    if bitAt cls 3 || (bitAt cls 2 && s.get (GLB_STEP_POLICY_ON_MISMATCH g) = 2) then outHalt
    else if bitAt cls 2 then outRerun
    else if bitAt cls 0 then policy (s.get (GLB_STEP_POLICY_ON_NAN g))
    else if bitAt cls 1 then policy (s.get (GLB_STEP_POLICY_ON_OVF g))
    else outPass
  if o = outRerun && s.get (GLB_STEP_POLICY_RERUN_LIMIT g) ≤ s.get (GLB_STEP_STATE_ATTEMPT g) + 1 then outHalt else o

/-- Set the attempt ordinals of R80 and R135 to 0. -/
def clearOrdinals (g : Nat) : Act := .ask fun s =>
  .seq (.each (s.graphStreams g) fun n => .put .stepTile n 0) (.each (List.range 36) fun c => .put .vecOrd (8 * c + g) 0)

/-- Clear the attempt flags, NEXT_DIRTY and the ordinals, with the bucket status of the attempt (R178, R340). -/
def clearAttempt (g : Nat) : Act := .ask fun s =>
  .all [
    .set (GLB_STEP_FLAGS_LOCAL g) 0, .set (GLB_STEP_FLAGS_SRC g) 0, .set (GLB_STEP_STATE_NEXT_DIRTY g) 0, clearOrdinals g,
    .each (s.graphDescs g) (fun t => .seq (.set (VSY_BKT_STAT_NAN t) 0) (.set (VSY_BKT_STAT_MISMATCH t) 0)),
    .put .nanFresh g 0]

/-- The end of a commit attempt after its outcome (R178). -/
def finishAttempt (g cls : Nat) : Act := .ask fun s =>
  .all [
    .set (GLB_STEP_FLAGS_LAST_COMBINED g) cls, .set (GLB_STEP_FLAGS_LAST_SRC g) (s.get (GLB_STEP_FLAGS_SRC g)),
    clearAttempt g, .put .aDone g 0, .set (GLB_STEP_STATE_IN_COMMIT g) 0, mlsAdd (s.get (GLB_STEP_GROUP_DONE_MLS g)) 1 none]

/-! Host writes (R181, R184, R185). -/

/-- ROLLBACK (R184, R185). -/
def rollback (g : Nat) : Act := .ask fun s =>
  if s.get (GLB_STEP_STATE_HALTED g) = 1 && s.get (GLB_STEP_STATE_IDLE g) = 1 && s.get (GLB_STEP_STATE_LAST_OUTCOME g) = outPass &&
      s.get (GLB_STEP_STATE_NEXT_DIRTY g) = 0 && s.get (GLB_STEP_STATE_IN_COMMIT g) = 0 then
    .all [.set (GLB_STEP_STATE_CUR_HALF g) (1 - s.get (GLB_STEP_STATE_CUR_HALF g)),
      .modify (GLB_STEP_NUM_STEP g) (fun x => x + 2 ^ 32 - 1), .set (GLB_STEP_STATE_LAST_OUTCOME g) outRollback]
  else .set (GLB_STEP_STATE_RB_REFUSED g) 1

/-- A write to GLB_STEP_NUM (R185). -/
def stepNumWrite (g v : Nat) : Act := .ask fun s =>
  .when ((s.get (GLB_STEP_STATE_HALTED g) = 1 && s.get (GLB_STEP_STATE_IDLE g) = 1) || s.get (GLB_STEP_CFG_ENABLE g) = 0)
    (.set (GLB_STEP_NUM_STEP g) v)

def execStepHalt (g : Graph) (s : State) : Host.Outcome State Fault Refusal := live (haltFor g.val haltHost) s
def execRollback (g : Graph) (s : State) : Host.Outcome State Fault Refusal := live (rollback g.val) s
def execForceFail (g : Graph) (s : State) : Host.Outcome State Fault Refusal := live (raiseSource g.val 9) s
def execStepNumWrite (g : Graph) (v : BitVec 32) (s : State) : Host.Outcome State Fault Refusal :=
  live (stepNumWrite g.val v.toNat) s

end Sys2Proof.Machine
end

