-- ==== Sys2Proof/Machine/Coll.lean ====
section
/-!
DEFINITION. Collectives in the Vusyn stations (R279–R297): how a descriptor's data is cut, the messages of each stage, WORK, the
arithmetic of combining and sending, credit, aborts, the checks of a whole message, and the COLL firing.
-/

namespace Sys2Proof.Machine

open Reg

/-! How the data is cut (R281). -/

/-- A descriptor's geometry. -/
structure Geo where
  tag : Nat
  group : Nat
  op : Nat
  et : Nat
  sizes : List Nat
  /-- COUNT, the shard size S, the piece size E and the columns C. -/
  count : Nat
  shard : Nat
  piece : Nat
  cols : Nat
  /-- Digits of ROOT. -/
  root : List Nat
  deriving DecidableEq, Repr

/-- Bytes of an element on the wire (R277). -/
def wireBytes (et : Nat) : Nat := if et = 0 then 1 else if et = 2 || et = 3 then 2 else 4

def opAllreduce : Nat := 1
def opReduceScatter : Nat := 2
def opAllgather : Nat := 3
def opBroadcast : Nat := 4
def opBucket : Nat := 6

/-- The geometry of descriptor `t`. -/
def State.geo (s : State) (t : Nat) : Geo :=
  let g := s.get (VSY_DESC_GROUP t)
  let sz := s.sizes g
  let c := s.get (VSY_DESC_COUNT t)
  let sh := ceilDiv c (groupN sz)
  let e := 2 ^ s.get (VSY_DESC_CHUNK_LOG2 t) / wireBytes (s.get (VSY_DESC_ET t))
  { tag := t, group := g, op := s.get (VSY_DESC_OP t), et := s.get (VSY_DESC_ET t), sizes := sz, count := c, shard := sh,
    piece := e, cols := ceilDiv sh e, root := digitsOf sz (s.get (VSY_DESC_ROOT t)) }

/-- Elements of shard `r`: first and length. -/
def Geo.shardAt (g : Geo) (r : Nat) : Nat × Nat := (r * g.shard, min ((r + 1) * g.shard) g.count - r * g.shard)

/-- Piece P(r, c): first element and length. -/
def Geo.pieceAt (g : Geo) (r c : Nat) : Nat × Nat :=
  let a := r * g.shard + c * g.piece
  (a, min (min ((r + 1) * g.shard) (a + g.piece)) g.count - a)

/-- A half of a piece: none is the whole, 0 the first half, 1 the second. -/
def halfOf (h : Option Nat) (p : Nat × Nat) : Nat × Nat :=
  match h with
  | none => p
  | some 0 => (p.1, ceilDiv p.2 2)
  | some _ => (p.1 + ceilDiv p.2 2, p.2 / 2)

/-- Column of element `i`. -/
def Geo.colOf (g : Geo) (i : Nat) : Nat := i % g.shard / g.piece

/-- The ranks whose pieces form D(x) on level `l` for a member with digits `ds`, ascending. -/
def Geo.ranksOf (g : Geo) (ds : List Nat) (l x : Nat) : List Nat :=
  (List.range (groupN g.sizes)).filter fun r =>
    let q := digitsOf g.sizes r
    q.take l = ds.take l && (q[l]?).getD 0 = x

/-- Elements of ranges, in order. -/
def expand (rs : List (Nat × Nat)) : List Nat := rs.flatMap fun r => (List.range r.2).map (r.1 + ·)

/-! Stages (R282–R284). -/

/-- The stages of a descriptor, in order: phase and level. -/
def State.stages (s : State) (g : Geo) : List (Nat × Nat) :=
  let k := g.sizes.length
  let rs := (List.range k).map fun l => (0, l)
  let ga := (List.range k).reverse.map fun l => (1, l)
  if g.op = opAllreduce then rs ++ ga
  else if g.op = opAllgather then ga
  else if g.op = opBroadcast then (List.range k).map fun l => (1, l)
  else if g.op = opBucket && s.get (VSY_BUCKET_ALL g.tag) = 1 then rs ++ ga
  else rs

/-- A message of a schedule: direction, round, digit x of D(x), digit of the member at the other end. -/
abbrev Move := Nat × Nat × Nat × Nat

/-- A ring stage of a member with digit `r` of `n` (R282). -/
def ringMoves (n r phase : Nat) (recv : Bool) : List Move :=
  (List.range (n - 1)).flatMap fun t =>
    let up := (r + 1) % n
    let down := (r + n - 1) % n
    match phase, recv with
    | 0, false => [(0, t, (r + n - 1 - t) % n, up), (1, t, (r + 1 + t) % n, down)]
    | 0, true => [(0, t, (r + 2 * n - 2 - t) % n, down), (1, t, (r + 2 + t) % n, up)]
    | _, false => [(0, t, (r + n - t) % n, up), (1, t, (r + t) % n, down)]
    | _, true => [(0, t, (r + n - 1 - t) % n, down), (1, t, (r + 1 + t) % n, up)]

/-- A clique stage (R283). -/
def cliqueMoves (n r phase : Nat) (recv : Bool) : List Move :=
  ((List.range n).filter (· ≠ r)).map fun y => (0, 0, if (phase = 0) = recv then r else y, y)

/-- A broadcast stage from the source with digit `q` (R284): the round is the hop, and DIGIT is 0. -/
def bcastMoves (clique : Bool) (n r q : Nat) (recv : Bool) : List Move :=
  let o := (r + n - q) % n
  let o' := (q + n - r) % n
  if clique then
    if recv then (if r = q then [] else [(0, 0, 0, q)])
    else if r = q then ((List.range n).filter (· ≠ r)).map fun y => (0, 0, 0, y) else []
  else if recv then
    (if 1 ≤ o then [(0, o - 1, 0, (r + n - 1) % n)] else []) ++ (if 1 ≤ o' then [(1, o' - 1, 0, (r + 1) % n)] else [])
  else
    (if o + 1 < n then [(0, o, 0, (r + 1) % n)] else []) ++ (if o' + 1 < n then [(1, o', 0, (r + n - 1) % n)] else [])

/-- The schedule of a stage for a member with digits `ds`. -/
def State.moves (s : State) (g : Geo) (ds : List Nat) (st : Nat × Nat) (recv : Bool) : List Move :=
  let l := st.2
  let n := (g.sizes[l]?).getD 1
  let r := (ds[l]?).getD 0
  let q := s.clique g.group l
  if g.op = opBroadcast then
    if ds.drop (l + 1) = g.root.drop (l + 1) then bcastMoves q n r ((g.root[l]?).getD 0) recv else []
  else if q then cliqueMoves n r st.1 recv
  else ringMoves n r st.1 recv

/-- Whether entry `i` of a bucket instance is sampled (R332). -/
def State.isSampled (s : State) (t : Nat) (x : Inst) (i : Nat) : Bool :=
  s.get (VSY_DESC_OP t) = opBucket && s.get (VSY_BUCKET_CHECK_EN t) = 1 && sampled s.seed t (s.stepNum (s.descGraph t)) x.sampleL i

/-- Whether a level of a bucket is thinned (R328). -/
def State.thinned (s : State) (g : Geo) (l : Nat) : Bool := g.op = opBucket && bitAt (s.get (VSY_BUCKET_THIN g.tag)) l

/-- The elements of D(x) that the messages of a move carry, in message order: ascending rank, then ascending element. A sample
message takes the other half (R333). -/
def State.moveElems (s : State) (g : Geo) (x : Inst) (ds : List Nat) (st : Nat × Nat) (c : Nat) (sample : Bool) (m : Move) : List Nat :=
  let ranks := if g.op = opBroadcast then List.range (groupN g.sizes) else g.ranksOf ds st.2 m.2.2.1
  let h := if s.clique g.group st.2 then none else some (if sample then 1 - m.1 else m.1)
  let all := expand (ranks.map fun r => halfOf h (g.pieceAt r c))
  if sample then all.filter (s.isSampled g.tag x) else all

/-- Elements that one message carries at most (R288, R335). -/
def Geo.perMsg (g : Geo) (sample : Bool) : Nat := if sample then 1024 else 32768 / wireBytes g.et

/-- The messages of a stage of column `c`, sent or received, on behalf of actor `a`. -/
def State.stageKeys (s : State) (g : Geo) (x : Inst) (a : Nat) (ds : List Nat) (st : Nat × Nat) (c : Nat) (recv : Bool) : List MsgKey :=
  (s.moves g ds st recv).flatMap fun m =>
    let keys (sample : Bool) : List MsgKey :=
      (List.range (ceilDiv (s.moveElems g x ds st c sample m).length (g.perMsg sample))).map fun p =>
        ⟨a, sample, st.1, st.2, m.1, c, m.2.1, m.2.2.1, p, m.2.2.2⟩
    keys false ++ (if st.1 = 0 then keys true else [])

/-- The elements of one message. -/
def State.keyElems (s : State) (g : Geo) (x : Inst) (ds : List Nat) (k : MsgKey) : List Nat :=
  let all := s.moveElems g x ds (k.phase, k.level) k.col k.sample (k.dir, k.round, k.digit, k.peer)
  (all.drop (k.part * g.perMsg k.sample)).take (g.perMsg k.sample)

/-! Instances. -/

/-- The active instance of a descriptor. -/
def State.inst (s : State) (t : Nat) : Option Inst := s.insts.find? fun x => x.tag = t

/-- Change the active instance of a descriptor. -/
def modInst (t : Nat) (f : Inst → Inst) : Act := .ask fun s =>
  .upd (.insts (s.insts.map fun x => if x.tag = t then f x else x))

/-- Digits on whose behalf actor `a` acts. -/
def State.actorDigits (s : State) (g a : Nat) : List Nat := ((s.actors g)[a]?).getD []

/-- Elements of a member's own contribution (R279). -/
def State.contribution (s : State) (g : Geo) : Nat × Nat :=
  let own := s.ownDigits g.group
  if g.op = opAllgather then g.shardAt (rankOf g.sizes own)
  else if g.op = opBroadcast then (0, if own = g.root then g.count else 0)
  else (0, g.count)

/-- The staged elements cover every piece of the column that the member contributes (R279). The position it plays contributes
zero (R306). -/
def State.stagedCol (s : State) (g : Geo) (x : Inst) (a c : Nat) : Bool :=
  let con := s.contribution g
  a ≠ 0 || con.2 ≤ x.staged ||
  (List.range (groupN g.sizes)).all fun r =>
    let p := g.pieceAt r c
    p.2 = 0 || p.1 + p.2 ≤ con.1 || con.1 + con.2 ≤ p.1 || p.1 + p.2 ≤ con.1 + x.staged

/-- Every message of a stage of a column is sent, and combined or kept. -/
def State.stageDone (s : State) (g : Geo) (x : Inst) (a : Nat) (st : Nat × Nat) (c : Nat) : Bool :=
  let ds := s.actorDigits g.group a
  (s.stageKeys g x a ds st c true).all (x.got.contains ·) && (s.stageKeys g x a ds st c false).all (x.sent.contains ·)

/-- The first `i` stages of a column are finished, and its contribution is staged. A gather of a bucket follows its finish
(R321). -/
def State.upTo (s : State) (g : Geo) (x : Inst) (a i c : Nat) : Bool :=
  s.stagedCol g x a c && ((s.stages g).take i).all (fun st => s.stageDone g x a st c) &&
  (g.op ≠ opBucket || i ≤ g.sizes.length || x.finished.contains (a, c))

/-- Stage `i` of column `c` may run (R286): the stage before is finished for this column, and this stage has started for every
column before. -/
def State.stageOpen (s : State) (g : Geo) (x : Inst) (a i c : Nat) : Bool :=
  (List.range (c + 1)).all fun c' => s.upTo g x a i c' &&
    (g.op ≠ opBucket || i < g.sizes.length || x.finished.contains (a, c'))

/-- Every stage of a column is finished for an actor. -/
def State.colDone (s : State) (g : Geo) (x : Inst) (a c : Nat) : Bool := s.upTo g x a (s.stages g).length c

/-! WORK (R280). -/

/-- Bytes of an element in WORK. -/
def workBytes (et : Nat) : Nat := if et = 0 then 1 else 4

/-- The word of element `i`: in the WORK region, and for the position this chip plays, in the model's own store. -/
def State.workElem (s : State) (g : Geo) (a i : Nat) : Nat :=
  if a ≠ 0 then s.rd .playWork (2 ^ 32 * g.tag + i)
  else
    match s.region (s.get (VSY_DESC_WORK g.tag)) with
    | some r => Mem.nat s.mem (memBase r.mem + r.base + workBytes g.et * i) (workBytes g.et)
    | none => 0

def setWork (g : Geo) (a i v : Nat) : Act := .ask fun s =>
  if a ≠ 0 then .put .playWork (2 ^ 32 * g.tag + i) v
  else
    match s.region (s.get (VSY_DESC_WORK g.tag)) with
    | some r => writeMem r.mem (r.base + workBytes g.et * i) (leBytes (workBytes g.et) v)
    | none => .skip

/-- Traffic to a region is charged at the SHELF station of its channel to the group's graph (R280). -/
def chargeShelf (t p bytes : Nat) : Act := .ask fun s =>
  match s.region p with
  | some r => .when (64 ≤ r.mem && bytes ≠ 0) (charge (allowKey (memStation r.mem) 0 (s.descGraph t)) (ceilDiv bytes 64))
  | none => .skip

/-- Elements of WORK are read: the lines are visited, each once in a row, and the traffic is charged (R192, R280). -/
def visitWork (g : Geo) (a : Nat) (l : List Nat) : Act := .ask fun s =>
  match a, s.region (s.get (VSY_DESC_WORK g.tag)) with
  | 0, some r => .seq (visitElems r.mem (l.map fun i => r.base + workBytes g.et * i))
      (chargeShelf g.tag r.num (workBytes g.et * l.length))
  | _, _ => .skip

/-- An element is poisoned: its data were, or it stands in an uncorrectable line (R192, R296). -/
def State.elemBad (s : State) (g : Geo) (x : Inst) (a i : Nat) : Bool :=
  (x.poisoned.any fun p => p.1 = a && p.2.1 ≤ i && i < p.2.1 + p.2.2) ||
  (a = 0 && (s.region (s.get (VSY_DESC_WORK g.tag))).any fun r => s.rangeBad r.mem (r.base + workBytes g.et * i) (workBytes g.et))

/-- Mark elements as poisoned (R296). -/
def poisonElems (t a : Nat) (l : List Nat) : Act :=
  .when (!l.isEmpty) (modInst t fun x => { x with poisoned := x.poisoned ++ l.map fun i => (a, i, 1) })

/-- Elements take data that owe nothing to what they held: what poisoned them is gone. -/
def cleanElems (t a : Nat) (l : List Nat) : Act :=
  modInst t fun x => { x with poisoned := x.poisoned.filter fun p => !(p.1 = a && l.contains p.2.1) }

/-- A member's own partials are read to be combined or finished: the lines are visited, and an element in an uncorrectable line is
poisoned before the line is written (R192, R193, R296). -/
def readPartials (g : Geo) (x : Inst) (a : Nat) (l : List Nat) : Act := .ask fun s =>
  .seq (visitWork g a l) (poisonElems g.tag a (l.filter (s.elemBad g x a)))

/-- Elements are about to be written: the rest of an uncorrectable line that a write makes good again stays poisoned (R193, R296). -/
def keepBad (g : Geo) (a : Nat) (l : List Nat) : Act := .ask fun s =>
  match a, s.region (s.get (VSY_DESC_WORK g.tag)) with
  | 0, some r =>
    let wb := workBytes g.et
    let lines := (runsOf (l.map fun i => (units r.mem (r.base + wb * i) 1).1)).filter (s.unitBad r.mem)
    poisonElems g.tag 0 ((lines.flatMap fun u => (List.range (64 / wb)).map fun j => (64 * u - r.base) / wb + j).filter fun i =>
      i < g.count && !l.contains i)
  | _, _ => .skip

/-- A parity error in a Vusyn station's slots or datapath: commit source 8 of the group's graph (R177, R296). -/
def vusynParity (t : Nat) (parity : Bool) : Act := .ask fun s =>
  .when (parity && s.get (VSY_DESC_VALID t) = 1) (raiseSource (s.descGraph t) 8)

/-! Arithmetic (R285, R318, R319). -/

/-- Set sticky flags on the step's streams (R285). -/
def instFlags (t fl : Nat) : Act := .ask fun s =>
  match s.inst t with
  | some x => .when (fl ≠ 0) (.each (x.ins ++ x.outs) fun n => raiseFlags n fl)
  | none => .skip

/-- The float format of an element type. -/
def etWire (et : Nat) : FFmt := if et = 2 then fp16 else if et = 3 then bf16 else fp32

/-- A wire code as it stands in WORK: a float is widened exactly to FP32 (R285). -/
def widen (et c : Nat) : Nat := if et ≤ 1 then c else fp32Code ((etWire et).decode c)

/-- Combine two WORK words (R285): the code and its flags. -/
def combineWords (et red : Nat) (flush : Bool) (a b : Nat) : Nat × Nat :=
  if et = 1 then
    let x := signed 32 a
    let y := signed 32 b
    if red = 0 then satInt 32 (x + y) else (if (x < y) = (red = 1) then b else a, 0)
  else
    let x := fp32.read flush a
    let y := fp32.read flush b
    let v : Val × Nat :=
      if x.1.isNan || y.1.isNan then (.nan, fNanIn)
      else if red = 0 then x.1.add y.1
      else (if x.1.below y.1 = (red = 1) then y.1 else x.1, 0)
    let r := fp32.round .rne flush false v.1
    (r.1, x.2 ||| y.2 ||| v.2 ||| r.2)

/-- Round a WORK word to the wire type (R285): the code and its flags. -/
def toWire (et : Nat) (rnd : Rnd) (flush : Bool) (c : Nat) : Nat × Nat :=
  if et ≤ 1 then (c, 0)
  else
    let x := fp32.read flush c
    let r := (etWire et).round rnd flush false x.1
    (r.1, x.2 ||| r.2 ||| (if x.1.isNan then fNanIn else 0))

/-- The rounding of element `i` as it is sent (R285, R318, R319). -/
def State.sendRnd (s : State) (g : Geo) (x : Inst) (ds : List Nat) (k : MsgKey) (i : Nat) : Rnd :=
  if s.get (VSY_DESC_ROUND g.tag) = 0 || s.isSampled g.tag x i then .rne
  else
    let c1 := rankOf g.sizes ds + 2 ^ 24 * k.level + 2 ^ 26 * k.phase
    .sr (groupHalf (cgAt s.seed (i / 8 + 2 ^ 32 * c1) (0x80001000 + g.tag) (s.stepNum (s.descGraph g.tag))) (i % 8))

/-! One-bit thinning (R328–R330). -/

/-- Elements that the member holds at the start of a level's reduce-scatter stage: ranges, ascending. -/
def Geo.held (g : Geo) (ds : List Nat) (l : Nat) : List (Nat × Nat) :=
  ((List.range (groupN g.sizes)).filter fun r => (digitsOf g.sizes r).take l = ds.take l).map g.shardAt

/-- Index of element `i` of a level in ERR (R330). -/
def State.errIndex (s : State) (g : Geo) (ds : List Nat) (l i : Nat) : Nat :=
  ((List.range l).filter (s.thinned g ·)).foldl (fun n j => n + ((g.held ds j).foldl (fun m r => m + r.2) 0)) 0 +
  (g.held ds l).foldl (fun n r => n + (min (r.1 + r.2) i - r.1)) 0

/-- Device offset of an ERR value in its memory: `next` in the NEXT view. -/
def State.errAt (s : State) (g : Geo) (ds : List Nat) (l i : Nat) (next : Bool) : Option (Nat × Nat) :=
  (s.region (s.get (VSY_BUCKET_ERR g.tag))).map fun r =>
    (r.mem, s.recordOff r (if next then 2 else 1) 0 + 2 * s.errIndex g ds l i)

/-- The error memory of element `i`, read from CUR; a played position uses +0 (R330). -/
def State.errMem (s : State) (g : Geo) (a : Nat) (ds : List Nat) (l i : Nat) : Nat :=
  match a, s.errAt g ds l i false with
  | 0, some p => Mem.nat s.mem (memBase p.1 + p.2) 2
  | _, _ => 0

/-- The error memory of element `i` is read from an uncorrectable line (R192). -/
def State.errBad (s : State) (g : Geo) (a : Nat) (ds : List Nat) (l i : Nat) : Bool :=
  a = 0 && (s.errAt g ds l i false).any fun p => s.rangeBad p.1 p.2 2

/-- The error memory of elements is read (R192, R330). -/
def visitErr (g : Geo) (a : Nat) (ds : List Nat) (lv : Nat) (l : List Nat) : Act := .ask fun s =>
  .when (a = 0) (
    let at_ := l.filterMap fun i => s.errAt g ds lv i false
    visitElems ((at_.head?.map (·.1)).getD 64) (at_.map (·.2)))

/-- What the encoding of a block gives: sign bits, scale, the new error memory by element, flags. -/
structure Thin where
  signs : Nat
  scale : Nat
  err : List (Nat × Nat)
  flags : Nat
  deriving DecidableEq, Repr

/-- Encode one block of at most 64 elements (R329): each with its partial, its error memory and whether it is sampled. -/
def thinBlock (flush : Bool) (l : List (Nat × Nat × Nat × Bool)) : Thin :=
  let a := l.zipIdx.filter fun y => !y.1.2.2.2
  let kept := (l.filter fun y => y.2.2.2).map fun y => (y.1, y.2.2.1)
  let es := a.map fun y =>
    let p := fp32.read flush y.1.2.1
    let m := bf16.read flush y.1.2.2.1
    let v := p.1.add m.1
    let r := fp32.round .rne flush false v.1
    (y.2, y.1.1, fp32.decode r.1, p.2 ||| m.2 ||| v.2 ||| r.2)
  let fl := es.foldl (fun f y => f ||| y.2.2.2) 0
  if a.isEmpty then ⟨0, 0, kept, 0⟩
  else if es.any fun y => !y.2.2.1.isFinite then ⟨0, 0x7FC0, kept ++ es.map (fun y => (y.2.1, 0x7FC0)), fl ||| fNanIn⟩
  else
    let q : Val :=
      match Val.sumFin (es.map fun y => y.2.2.1.abs) with
      | .fin _ m e => let d := Val.divMag m e es.length 0; .fin false d.1 d.2
      | v => v
    let sc := bf16.round .rne flush false q
    let d := bf16.decode sc.1
    let rs := es.map fun y =>
      let neg : Bool := y.2.2.1.cmp Val.zero < 0
      let v := y.2.2.1.add (if neg then d else d.neg)
      let r := bf16.round .rne flush false v.1
      (y.1, y.2.1, neg, r.1, v.2 ||| r.2)
    ⟨rs.foldl (fun n y => n + (if y.2.2.1 then 2 ^ y.1 else 0)) 0, sc.1, kept ++ rs.map (fun y => (y.2.1, y.2.2.2.1)),
      fl ||| sc.2 ||| rs.foldl (fun f y => f ||| y.2.2.2.2) 0⟩

/-- Data cells T of the blocks of a thinned message of `n` entries (R328). -/
def thinCells (n : Nat) : Nat := ceilDiv (ceilDiv n 64) 6

/-- The bit offset of block `k` in a thinned message's data (R328). -/
def thinBit (k : Nat) : Nat := 512 * (k / 6) + 80 * (k % 6)

/-- The data of a thinned message: blocks in order, and the BF16 values of the sampled entries (R328). -/
def thinData (n : Nat) (bs : List Thin) (vals : List Nat) : Nat :=
  (bs.zipIdx.foldl (fun d b => d + (b.1.signs + b.1.scale <<< 64) <<< thinBit b.2) 0) + (pack 16 vals) <<< (512 * thinCells n)

/-- The BF16 code of entry `j` of a thinned message: `pos` is its place among the sampled entries when it is one (R329). -/
def thinEntry (n data j : Nat) (pos : Option Nat) : Nat :=
  match pos with
  | some p => bits data (512 * thinCells n + 16 * p) 16
  | none =>
    let b := thinBit (j / 64)
    let scale := bits data (b + 64) 16
    if scale = 0x7FC0 then 0x7FC0 else if bitAt data (b + j % 64) then scale ^^^ 0x8000 else scale

/-! Messages (R288–R290, R327). -/

/-- Unreleased messages toward a chip under one descriptor (R290). -/
def State.unreleased (s : State) (t chip : Nat) : Nat :=
  (s.sentCounts.filter fun c => c.stream % 4096 = t && c.chip = chip).foldl (fun n c => n + seqFwd c.sent c.released) 0

/-- U of R290, and of R317 for a bucket. -/
def State.senders (s : State) (g : Geo) : Nat :=
  let u := g.sizes.zipIdx.foldl (fun u n => u + if s.clique g.group n.2 then n.1 - 1 else 2) 0
  if g.op = opBucket then max u (groupN g.sizes - 1) else u

/-- The message window W toward one receiver. -/
def State.window (s : State) (g : Geo) : Nat := s.get (VSY_DESC_SLOTS g.tag) / s.senders g

/-- Number a message toward a receiver under a STREAM value, and count it as sent. -/
def countSent (stream chip : Nat) : Act := .ask fun s =>
  if s.sentCounts.any fun c => c.stream = stream && c.chip = chip then
    .upd (.sentCounts (s.sentCounts.map fun c =>
      if c.stream = stream && c.chip = chip then { c with num := (c.num + 1) % 16383, sent := (c.sent + 1) % 2 ^ 32 } else c))
  else .upd (.sentCounts (s.sentCounts ++ [⟨stream, chip, 1, 1, 0⟩]))

/-- The number of the next message toward a receiver. -/
def State.nextNum (s : State) (stream chip : Nat) : Nat :=
  ((s.sentCounts.find? fun c => c.stream = stream && c.chip = chip).map (·.num)).getD 0

/-- The STREAM field of a message (R288). -/
def msgStream (t level phase dir num : Nat) : Nat := t % 4096 + level <<< 12 + phase <<< 14 + dir <<< 15 + (num % 4) <<< 16

/-- The piece header of R289 and R327. -/
def pieceHead (sig epoch inst step chip rank col round digit part bytes type samples tile shard : Nat) : Nat :=
  sig % 2 ^ 32 + (epoch % 2 ^ 16) <<< 32 + (inst % 2 ^ 32) <<< 64 + (step % 2 ^ 32) <<< 96 + (chip % 2 ^ 24) <<< 128 +
  (rank % 2 ^ 24) <<< 160 + (col % 2 ^ 32) <<< 192 + (round % 2 ^ 8) <<< 224 + (digit % 2 ^ 8) <<< 232 +
  (part % 2 ^ 16) <<< 240 + (bytes % 2 ^ 32) <<< 256 + (type % 2 ^ 8) <<< 320 + (samples % 2 ^ 32) <<< 352 +
  (tile % 2 ^ 32) <<< 384 + (shard % 2 ^ 24) <<< 416

/-- Fields of a piece header. -/
def phSig (h : Nat) : Nat := bits h 0 32
def phEpoch (h : Nat) : Nat := bits h 32 16
def phInst (h : Nat) : Nat := bits h 64 32
def phStep (h : Nat) : Nat := bits h 96 32
def phChip (h : Nat) : Nat := bits h 128 24
def phRank (h : Nat) : Nat := bits h 160 24
def phCol (h : Nat) : Nat := bits h 192 32
def phRound (h : Nat) : Nat := bits h 224 8
def phDigit (h : Nat) : Nat := bits h 232 8
def phPart (h : Nat) : Nat := bits h 240 16
def phBytes (h : Nat) : Nat := bits h 256 32
def phType (h : Nat) : Nat := bits h 320 8
def phSamples (h : Nat) : Nat := bits h 352 32
def phTile (h : Nat) : Nat := bits h 384 32
def phShard (h : Nat) : Nat := bits h 416 24

/-- The cells of a message (R288, R327): its header cell and its data cells. -/
def msgCells (dest : Nat) (mcast grad sample : Bool) (endpt stream vc num : Nat) (head data bytes : Nat) (bad : Nat → Bool) :
    List Cell :=
  let k := ceilDiv bytes 64
  (List.range (k + 1)).map fun j =>
    { dest := BitVec.ofNat 24 dest, endpt := BitVec.ofNat 9 endpt, stream := BitVec.ofNat 18 stream,
      seq := BitVec.ofNat 24 (num * 2 ^ 10 + j), vc := BitVec.ofNat 3 vc, kind := if grad then 5#5 else 4#5,
      poison := j ≠ 0 && bad j, sample := sample, mcast := mcast, last := j = k, hops := 63#6, reserved := 0#3,
      payload := BitVec.ofNat 512 (if j = 0 then head else bits data (512 * (j - 1)) 512) }

/-- Endpoint of the serving station. -/
def State.descEndpt (s : State) (t : Nat) : Nat := 0x120 + s.get (VSY_DESC_VUSYN t)

/-- Whether a station serves a valid descriptor (R290, R291). -/
def State.serves (s : State) (endpt t : Nat) : Bool := s.get (VSY_DESC_VALID t) = 1 && s.descEndpt t = endpt

/-- Release a message: its count rises, and a CREDIT cell returns it to the sender (R290). A hop inside the chip returns
nothing. -/
def releaseMsg (m : PieceMsg) : Act := .ask fun s =>
  let chip := phChip m.head.toNat
  let e := m.endpt.toNat
  let st := m.stream.toNat
  let old := ((s.takenCounts.find? fun c => c.endpt = e && c.stream = st && c.chip = chip).map (·.released)).getD 0
  let n := (old + 1) % 2 ^ 32
  .when (chip ≠ s.chipId) (.seq
    (.upd (.takenCounts ((s.takenCounts.filter fun c => !(c.endpt = e && c.stream = st && c.chip = chip)) ++ [⟨e, st, chip, n⟩])))
    (originate none [{
      dest := BitVec.ofNat 24 chip, endpt := m.endpt, stream := m.stream, seq := 0#24, vc := 0#3, kind := 2#5, poison := false,
      sample := false, mcast := false, last := true, hops := 63#6, reserved := 0#3, payload := BitVec.ofNat 512 n }]))

/-- Count an event in the collective counter at index `i`: 0 ABORTS, 1 STALE, 2 BAD_COLL, 3 WD, 4 FAILS (R313). -/
def countVsy (i : Nat) : Act := count (VSY_CNT_COUNT i) (VSY_CNT_OVF i)

/-- Drop a message that waits, counting it. -/
def dropMsg (i : Nat) (m : PieceMsg) (cnt : Nat) : Act := .ask fun s =>
  .all [.upd (.waitMsgs (s.waitMsgs.eraseIdx i)), countVsy cnt, releaseMsg m]

/-! Ends of an instance (R279, R293–R295). -/

/-- Take an instance away, with its waiting messages and its exact partials; the station awaits the next firing. -/
def endInst (t num : Nat) : Act := .ask fun s =>
  let mine (m : PieceMsg) : Bool := m.stream.toNat % 4096 = t && phInst m.head.toNat = num
  .all [
    .each (s.waitMsgs.filter mine) releaseMsg,
    .ask fun s' => .upd (.waitMsgs (s'.waitMsgs.filter fun m => !mine m)),
    .upd (.exacts (s.exacts.filter fun e => e.tag ≠ t)),
    .upd (.insts (s.insts.filter fun x => x.tag ≠ t)),
    .set (VSY_DESC_STATE t) 2]

/-- An ABORT cell to a partner (R293). -/
def abortCellTo (chip endpt t vc payload : Nat) : Cell :=
  { dest := BitVec.ofNat 24 chip, endpt := BitVec.ofNat 9 endpt, stream := BitVec.ofNat 18 (t % 4096), seq := 0#24,
    vc := BitVec.ofNat 3 vc, kind := 7#5, poison := false, sample := false, mcast := false, last := true, hops := 63#6,
    reserved := 0#3, payload := BitVec.ofNat 512 payload }

/-- The ABORT payload (R293). -/
def abortPayload (sig seen inst epoch reason chip rank : Nat) : Nat :=
  sig % 2 ^ 32 + (seen % 2 ^ 32) <<< 32 + (inst % 2 ^ 32) <<< 64 + (epoch % 2 ^ 16) <<< 96 + (reason % 256) <<< 112 +
  (chip % 2 ^ 24) <<< 128 + (rank % 2 ^ 24) <<< 160

/-- Send an ABORT to each forwarding partner (R293). -/
def forwardAbort (t payload : Nat) : Act := .ask fun s =>
  let g := s.get (VSY_DESC_GROUP t)
  .each (s.partners g) fun r =>
    originate none [abortCellTo (s.rankChip g r) (s.descEndpt t) t (s.get (VSY_GROUP_CTL_VC g)) payload]

/-- Count and log an abort (R294, R313). -/
def logAbort (t payload : Nat) : Act := .ask fun s =>
  .seq (countVsy 0)
    (.when (s.get VSY_ABORT_LOG_VALID = 0) (.all [
      .set VSY_ABORT_LOG_TAG t, .set VSY_ABORT_LOG_REASON (bits payload 112 8), .set VSY_ABORT_LOG_RANK (bits payload 160 24),
      .set VSY_ABORT_LOG_EPOCH (bits payload 96 16), .set VSY_ABORT_LOG_VALID 1]))

/-- Record that an instance is aborted, with what the ABORT carries: the records of older instances of the descriptor go. -/
def recordAbort (t num payload : Nat) : Act := .ask fun s =>
  .upd (.earlyAborts ((s.earlyAborts.filter fun a => !(a.1 = t && seqDiff a.2.1 num ≤ 0)) ++ [(t, num, payload)]))

/-- End the active instance of a descriptor as an abort (R294). -/
def abortHere (t payload : Nat) : Act := .ask fun s =>
  match s.inst t with
  | none => .skip
  | some x =>
    let reason := bits payload 112 8
    .all [
      recordAbort t x.num payload,
      .each (x.ins ++ x.outs) (fun n => if reason = 3 then .set (STR_ABORTED n) 1 else mismatchStream n),
      endInst t x.num,
      mlsCode (s.get (VSY_DESC_MLS_DONE t)) (if reason = 3 then codeAborted else codeSigMismatch),
      logAbort t payload,
      noteFault 9 (s.descEndpt t) (bits payload 128 24) (s.descGraph t) (t + reason % 4 <<< 12)]

/-- This member aborts the active instance of a descriptor: REASON, the signature seen, the rank at fault (R293). -/
def abortInst (t reason seen rank : Nat) : Act := .ask fun s =>
  match s.inst t with
  | none => .skip
  | some x =>
    let p := abortPayload (s.get (VSY_DESC_SIG t)) seen x.num (s.get (VSY_GROUP_EPOCH (s.get (VSY_DESC_GROUP t)))) reason s.chipId rank
    .seq (abortHere t p) (forwardAbort t p)

/-- An ABORT cell reaches a Vusyn station (R293, R294). -/
def abortCellRx (c : Cell) : Act := .ask fun s =>
  let t := c.stream.toNat % 4096
  let p := c.payload.toNat
  let i := bits p 64 32
  if !s.serves c.endpt.toNat t then countVsy 2
  else if !s.takesPart (s.descGraph t) then .skip
  else if s.earlyAborts.any fun a => a.1 = t && a.2.1 = i then .skip
  else
    match s.inst t with
    | some x =>
      if x.num = i then .seq (abortHere t p) (forwardAbort t p)
      else if seqDiff i x.num > 0 then .seq (recordAbort t i p) (forwardAbort t p)
      else countVsy 1
    | none =>
      if 0 ≤ seqDiff i (s.get (VSY_DESC_INST t)) then .seq (recordAbort t i p) (forwardAbort t p)
      else countVsy 1

/-- Result elements of a descriptor for an actor: first and length (R279, R320, R321). -/
def State.resultOf (s : State) (g : Geo) (a : Nat) : Nat × Nat :=
  if g.op = opReduceScatter || (g.op = opBucket && s.get (VSY_BUCKET_ALL g.tag) = 0) then
    g.shardAt (rankOf g.sizes (s.actorDigits g.group a))
  else if a = 0 then (0, g.count) else (0, 0)

/-- Elements an instance emits on output 0 and on output 1: none where the output is not bound. -/
def State.toEmit (s : State) (g : Geo) (x : Inst) : Nat × Nat :=
  (if x.outs.isEmpty then 0 else (s.resultOf g 0).2,
   if g.op = opBucket && 2 ≤ x.outs.length && 2 ≤ (s.actors g.group).length && s.get (VSY_BUCKET_ALL g.tag) = 0 then
     (s.resultOf g 1).2 else 0)

/-- Every tile of the instance's step has been staged and emitted. -/
def State.firingsDone (s : State) (g : Geo) (x : Inst) : Bool :=
  x.staged = (s.contribution g).2 && (x.emitted, x.emitted1) = s.toEmit g x

/-- Every message that this chip sends in an instance has been sent and released. -/
def State.allReleased (s : State) (g : Geo) : Bool :=
  (s.sentCounts.filter fun c => c.stream % 4096 = g.tag).all fun c => c.sent = c.released

/-- Complete a COLL instance once its last tile is out and its messages are released (R279); an ALL = 1 bucket completes at its
last tile (R321). -/
def tryComplete (t : Nat) : Act := .ask fun s =>
  match s.inst t with
  | none => .skip
  | some x =>
    let g := s.geo t
    let whole := s.firingsDone g x && (List.range g.cols).all fun c =>
      (List.range (s.actors g.group).length).all fun a => s.colDone g x a c
    let bucket := g.op = opBucket
    .when (whole && (if bucket then s.get (VSY_BUCKET_ALL t) = 1 && x.finDone else s.allReleased g))
      (.seq (mlsAdd (s.get (VSY_DESC_MLS_DONE t)) 1 none) (endInst t x.num))

/-! Sending (R282, R306). -/

/-- The digits of the member at the other end of a message. -/
def peerDigits (ds : List Nat) (k : MsgKey) : List Nat := ds.set k.level k.peer

/-- A message may be sent now: its stage is open, and its partial has arrived (R282–R284). -/
def State.sendReady (s : State) (g : Geo) (x : Inst) (k : MsgKey) : Bool :=
  let ds := s.actorDigits g.group k.actor
  match (s.stages g).findIdx? fun st => st = (k.phase, k.level) with
  | none => false
  | some i =>
    s.stageOpen g x k.actor i k.col && (s.stageKeys g x k.actor ds (k.phase, k.level) k.col false).contains k && !x.sent.contains k &&
    (k.round = 0 || s.clique g.group k.level ||
      x.got.any fun r => r.actor = k.actor && r.sample = k.sample && r.phase = k.phase && r.level = k.level && r.dir = k.dir &&
        r.col = k.col && r.round + 1 = k.round && r.digit = k.digit && r.part = k.part)

/-- The exact partial of a sampled entry (R334). -/
def State.exactAt (s : State) (t a i : Nat) : Exact :=
  (s.exacts.find? fun e => e.tag = t && e.actor = a && e.elem = i).getD ⟨t, a, i, 0, 0, false⟩

/-- The 32 bytes of a sample entry (R335). -/
def exactWord (e : Exact) : Nat := unsigned 128 e.sum + (e.abs % 2 ^ 127) <<< 128 + b2n e.unv <<< 255

/-- What a message carries: data, BYTES, SAMPLES, TYPE, flags, and new error memory by element. -/
structure Carried where
  data : Nat
  bytes : Nat
  samples : Nat
  type : Nat
  flags : Nat
  err : List (Nat × Nat)
  deriving DecidableEq, Repr

/-- The data of a message of elements `l` (R285, R318, R328, R335). -/
def State.carry (s : State) (g : Geo) (x : Inst) (ds : List Nat) (k : MsgKey) (l : List Nat) : Carried :=
  let wb := wireBytes g.et
  let wire (i : Nat) : Nat × Nat := toWire g.et (s.sendRnd g x ds k i) x.flush (s.workElem g k.actor i)
  if k.sample then ⟨packFast 256 (l.map fun i => exactWord (s.exactAt g.tag k.actor i)), 32 * l.length, l.length, 2, 0, []⟩
  else if k.phase = 0 && s.thinned g k.level then
    let smp := l.filter (s.isSampled g.tag x)
    let blocks := (chunks 64 l).map fun b => thinBlock x.flush (b.map fun i =>
      (i, s.workElem g k.actor i, s.errMem g k.actor ds k.level i, s.isSampled g.tag x i))
    let vals := smp.map wire
    ⟨thinData l.length blocks (vals.map (·.1)), 64 * (thinCells l.length + ceilDiv smp.length 32), smp.length, 1,
      blocks.foldl (fun f b => f ||| b.flags) 0 ||| vals.foldl (fun f v => f ||| v.2) 0, blocks.flatMap (·.err)⟩
  else
    let r := l.map wire
    ⟨packFast (8 * wb) (r.map (·.1)), wb * l.length, 0, 0, r.foldl (fun f v => f ||| v.2) 0, []⟩

/-- The elements whose bits stand in data cell `m` of a message. -/
def cellElems (type wb n m : Nat) : List Nat :=
  (List.range n).filter fun j =>
    if type = 1 then m = j / 64 / 6 + 1 else if type = 2 then m = j / 2 + 1 else m = j * wb / 64 + 1

/-- Whether data cell `m` of a message of elements `l` carries one that is bad. -/
def cellBad (g : Geo) (bad : Nat → Bool) (type : Nat) (l : List Nat) (m : Nat) : Bool :=
  (cellElems type (wireBytes g.et) l.length m).any fun j => ((l[j]?).map bad).getD false

/-- The data cells that parity errors struck, as a mask over the cells of a message of `n` data cells (R296). -/
def struckMask (n : Nat) (struck : List (Fin 512)) : Nat :=
  struck.foldl (fun m i => if i.val < n then m ||| 2 ^ (i.val + 1) else m) 0

/-- Write a block's error memory into the NEXT view of ERR (R329, R330). -/
def writeErr (g : Geo) (a : Nat) (ds : List Nat) (l : Nat) (err : List (Nat × Nat)) : Act := .ask fun s =>
  .when (a = 0 && !err.isEmpty) (.all [
    .each err (fun e =>
      match s.errAt g ds l e.1 true with
      | some p => writeMem p.1 p.2 (leBytes 2 e.2)
      | none => .skip),
    .set (GLB_STEP_STATE_NEXT_DIRTY (s.descGraph g.tag)) 1,
    chargeShelf g.tag (s.get (VSY_BUCKET_ERR g.tag)) (4 * err.length)])

/-- Send one message of an exchange (R282–R290, R306): a free place in the window, or a hop inside the chip. `struck` are the data
cells whose data a parity error of the datapath struck (R296). -/
def sendPiece (t : Nat) (k : MsgKey) (struck : List (Fin 512)) : Act := .ask fun s =>
  match s.inst t with
  | none => .skip
  | some x =>
    let g := s.geo t
    let ds := s.actorDigits g.group k.actor
    let chip := s.servingChip g.group (peerDigits ds k)
    let inside := chip = s.chipId
    let l := s.keyElems g x ds k
    .when (s.sendReady g x k && s.takesPart (s.descGraph t) && (inside || s.unreleased t chip < s.window g) && !s.withdrawn g.group (s.ownDigits g.group)) (
      let d := s.carry g x ds k l
      let stream := msgStream t k.level k.phase k.dir x.num
      let head := pieceHead (s.get (VSY_DESC_SIG t)) (s.get (VSY_GROUP_EPOCH g.group)) x.num (s.stepNum (s.descGraph t)) s.chipId
        (rankOf g.sizes ds) k.col k.round k.digit k.part d.bytes d.type d.samples 0 0
      let n := ceilDiv d.bytes 64
      let hit := struckMask n struck
      let bad (m : Nat) : Bool := bitAt hit m ||
        cellBad g (fun i => s.elemBad g x k.actor i || (d.type = 1 && s.errBad g k.actor ds k.level i)) d.type l m
      .all [
        .when (!k.sample) (visitWork g k.actor l),
        .when (d.type = 1) (visitErr g k.actor ds k.level l),
        vusynParity t (hit ≠ 0),
        instFlags t d.flags,
        writeErr g k.actor ds k.level d.err,
        modInst t fun y => { y with sent := y.sent ++ [k] },
        if inside then
          .upd (.waitMsgs (s.waitMsgs ++ [⟨g.op = opBucket, BitVec.ofNat 9 (s.descEndpt t), BitVec.ofNat 18 stream,
            BitVec.ofNat 512 head, d.data,
            ((List.range (n + 1)).filter fun m => m ≠ 0 && bad m).foldl (fun q m => q + 2 ^ m) 0⟩]))
        else
          .seq (countSent stream chip)
            (originate (some (s.descGraph t)) (msgCells chip false (g.op = opBucket) k.sample (s.descEndpt t) stream
              (s.get (VSY_DESC_VC t)) (s.nextNum stream chip) head d.data d.bytes bad))])

/-! Receiving (R291). -/

/-- What becomes of a message that waits. -/
inductive Verdict where
  /-- Check 1 of R291 fails. -/
  | bad
  /-- Stale, by epoch or by instance. -/
  | stale
  /-- It waits. -/
  | wait
  /-- The instance aborts, with this REASON. -/
  | abort (reason : Nat)
  /-- Every check passes, and its data is combined or kept now. -/
  | take (k : MsgKey)
  /-- A publication message passes every check (R325). -/
  | publish (shard tile : Nat)
  deriving DecidableEq, Repr

/-- Rows of a publication tile R_p, and tiles per shard TPS (R324). -/
def State.pubRows (s : State) (t : Nat) : Nat := min 128 (32736 / (2 * max 1 (s.get (VSY_DESC_OUT_COLS t))))
def State.tps (s : State) (g : Geo) : Nat := ceilDiv (g.shard / max 1 (s.get (VSY_DESC_OUT_COLS g.tag))) (max 1 (s.pubRows g.tag))

/-- The message that a header and STREAM name, if the layout asks for it from that sender (R281–R284, R306, R327). -/
def State.keyOf (s : State) (g : Geo) (x : Inst) (m : PieceMsg) : Option MsgKey :=
  let h := m.head.toNat
  let st := m.stream.toNat
  let l := bits st 12 2
  let sd := digitsOf g.sizes (phRank h)
  let sample := g.op = opBucket && phType h = 2
  let cand := (List.range (s.actors g.group).length).filterMap fun a =>
    let ds := s.actorDigits g.group a
    let k : MsgKey := ⟨a, sample, bits st 14 1, l, bits st 15 1, phCol h, phRound h, phDigit h, phPart h, (sd[l]?).getD 0⟩
    if phRank h < groupN g.sizes && ds.set l ((sd[l]?).getD 0) = sd && phCol h < g.cols && (s.stages g).contains (k.phase, l) &&
        (s.stageKeys g x a ds (k.phase, l) k.col true).contains k && !x.got.contains k then some k else none
  cand.head?

/-- The SAMPLES, TYPE and BYTES that the layout gives a message (R288, R328, R335). -/
def State.layoutOf (s : State) (g : Geo) (x : Inst) (k : MsgKey) : Nat × Nat × Nat :=
  let l := s.keyElems g x (s.actorDigits g.group k.actor) k
  let n := l.length
  if k.sample then (n, 2, 32 * n)
  else if k.phase = 0 && s.thinned g k.level then
    let q := (l.filter (s.isSampled g.tag x)).length
    (q, 1, 64 * (thinCells n + ceilDiv q 32))
  else (0, 0, wireBytes g.et * n)

/-- A piece message of a reduce-scatter stage on a clique waits until every other member's has come (R283). -/
def State.cliqueMates (s : State) (g : Geo) (x : Inst) (k : MsgKey) : List PieceMsg :=
  s.waitMsgs.filter fun m =>
    m.stream.toNat % 4096 = g.tag && phInst m.head.toNat = x.num && phSig m.head.toNat = s.get (VSY_DESC_SIG g.tag) &&
    match s.keyOf g x m with
    | some q => { q with peer := k.peer } = k && phBytes m.head.toNat = (s.layoutOf g x q).2.2
    | none => false

/-- The messages from the other members of a clique toward D(r), one of each, in ascending digit (R283). -/
def State.cliqueSet (s : State) (g : Geo) (x : Inst) (k : MsgKey) : List (MsgKey × PieceMsg) :=
  let found := (s.cliqueMates g x k).filterMap fun m => (s.keyOf g x m).map fun q => (q, m)
  (List.range ((g.sizes[k.level]?).getD 1)).filterMap fun d => found.find? fun q => q.1.peer = d

/-- The checks of R291 on a message, in order. -/
def State.verdict (s : State) (m : PieceMsg) : Verdict :=
  let h := m.head.toNat
  let t := m.stream.toNat % 4096
  if !s.serves m.endpt.toNat t then .bad
  else if !s.takesPart (s.descGraph t) then .wait
  else
    let g := s.geo t
    let d := epochDiff (phEpoch h) (s.get (VSY_GROUP_EPOCH g.group))
    if d < 0 then .stale
    else if d > 0 then .wait
    else
      match s.inst t with
      | none => if seqDiff (phInst h) (s.get (VSY_DESC_INST t)) < 0 then .stale else .wait
      | some x =>
        if seqDiff (phInst h) x.num < 0 then .stale
        else if phInst h ≠ x.num then .wait
        else if phSig h ≠ s.get (VSY_DESC_SIG t) then .abort 1
        else if g.op = opBucket && phType h = 3 then
          let tile := Tile.raw ⟨m.data⟩
          if phShard h ≠ phRank h || groupN g.sizes ≤ phShard h || s.tps g ≤ phTile h || phCol h + phRound h + phDigit h + phPart h ≠ 0 ||
              phSamples h ≠ 0 || bits m.stream.toNat 12 4 ≠ 4 || s.get (VSY_BUCKET_ALL t) = 1 ||
              phBytes h ≠ 32 + hPayloadLen (tile % 2 ^ 256) || x.records.contains (phShard h, phTile h) then .abort 2
          else if x.armed then .publish (phShard h) (phTile h) else .wait
        else
          match s.keyOf g x m with
          | none => .abort 2
          | some k =>
            let lay := s.layoutOf g x k
            if (g.op = opBucket && (phSamples h, phType h, phTile h, phShard h) ≠ (lay.1, lay.2.1, 0, 0)) || phBytes h ≠ lay.2.2 then .abort 2
            else
              match (s.stages g).findIdx? fun st => st = (k.phase, k.level) with
              | none => .abort 2
              | some i =>
                if !s.stageOpen g x k.actor i k.col then .wait
                else if k.phase = 0 && s.clique g.group k.level && !k.sample &&
                    (s.cliqueSet g x k).length + 1 < (g.sizes[k.level]?).getD 1 then .wait
                else .take k

/-- The WORK words that a piece message carries for its elements, in order (R285, R329). -/
def State.wireWords (s : State) (g : Geo) (x : Inst) (k : MsgKey) (l : List Nat) (data : Nat) : List Nat :=
  if k.phase = 0 && s.thinned g k.level then
    let smp := l.filter (s.isSampled g.tag x)
    l.zipIdx.map fun y => widen g.et (thinEntry l.length data y.2 (smp.findIdx? (· = y.1)))
  else (unpack (8 * wireBytes g.et) l.length data).map (widen g.et)

/-- Elements of a message that a poisoned data cell touched. -/
def poisonedOf (g : Geo) (type : Nat) (l : List Nat) (mask : Nat) : List Nat :=
  l.zipIdx.filterMap fun y =>
    let m := if type = 1 then y.2 / 64 / 6 + 1 else y.2 * wireBytes g.et / 64 + 1
    if bitAt mask m then some y.1 else none

/-- Write words into WORK for elements, with the flags they raised. -/
def storeWords (g : Geo) (a : Nat) (l : List (Nat × Nat × Nat)) : Act :=
  .all [keepBad g a (l.map (·.1)), .each l fun y => setWork g a y.1 y.2.1, instFlags g.tag (l.foldl (fun f y => f ||| y.2.2) 0)]

/-- Charge the writing of `n` elements into WORK (R280). -/
def chargeWork (g : Geo) (a n : Nat) : Act := .ask fun s =>
  .when (a = 0) (chargeShelf g.tag (s.get (VSY_DESC_WORK g.tag)) (workBytes g.et * n))

/-- Combine a message with the member's own partial, or keep it (R282, R285). -/
def takePiece (g : Geo) (x : Inst) (k : MsgKey) (m : PieceMsg) : Act := .ask fun s =>
  let l := s.keyElems g x (s.actorDigits g.group k.actor) k
  let ws := s.wireWords g x k l m.data
  let red := s.get (VSY_DESC_RED g.tag)
  let type := if k.phase = 0 && s.thinned g k.level then 1 else 0
  .all [
    if k.phase = 0 then readPartials g x k.actor l else cleanElems g.tag k.actor l,
    storeWords g k.actor ((l.zip ws).map fun y =>
      if k.phase = 0 then (y.1, combineWords g.et red x.flush y.2 (s.workElem g k.actor y.1)) else (y.1, y.2, 0)),
    chargeWork g k.actor l.length,
    poisonElems g.tag k.actor (poisonedOf g type l m.poison),
    modInst g.tag fun y => { y with got := y.got ++ [k] }]

/-- Combine the contributions to D(r) on a clique in ascending digit, the member's own in its place (R283). -/
def takeClique (g : Geo) (x : Inst) (k : MsgKey) : Act := .ask fun s =>
  let ds := s.actorDigits g.group k.actor
  let l := s.keyElems g x ds k
  let red := s.get (VSY_DESC_RED g.tag)
  let mates := s.cliqueSet g x k
  let words (d : Nat) : Option (List Nat) :=
    if d = (ds[k.level]?).getD 0 then some (l.map fun i => s.workElem g k.actor i)
    else (mates.find? fun q => q.1.peer = d).map fun q => s.wireWords g x q.1 l q.2.data
  let cols := (List.range ((g.sizes[k.level]?).getD 1)).filterMap words
  let sums := l.zipIdx.map fun y =>
    let vs := cols.map fun ws => (ws[y.2]?).getD 0
    let r := vs.tail.foldl (fun (a : Nat × Nat) v =>
      let r := combineWords g.et red x.flush a.1 v
      (r.1, a.2 ||| r.2)) (vs.headD 0, 0)
    (y.1, r.1, r.2)
  .all [
    readPartials g x k.actor l,
    storeWords g k.actor sums,
    chargeWork g k.actor l.length,
    .each mates (fun q => .all [
      poisonElems g.tag k.actor (poisonedOf g 0 l q.2.poison),
      modInst g.tag (fun y => { y with got := y.got ++ [q.1] }),
      .ask fun t => .upd (.waitMsgs (t.waitMsgs.erase q.2)),
      releaseMsg q.2])]

/-- Add exact partials (R334). -/
def exactAdd (a : Exact) (sum : Int) (abs : Nat) (unv : Bool) : Exact :=
  let t := a.sum + sum
  let u := a.abs + abs
  { a with sum := t, abs := u, unv := a.unv || unv || 2 ^ 127 ≤ t.natAbs || 2 ^ 127 ≤ u }

/-- Put an exact partial in its place. -/
def putExact (e : Exact) : Act := .ask fun s =>
  .upd (.exacts ((s.exacts.filter fun y => !(y.tag = e.tag && y.actor = e.actor && y.elem = e.elem)) ++ [e]))

/-- Combine a sample message (R333–R335). -/
def takeSample (g : Geo) (x : Inst) (k : MsgKey) (m : PieceMsg) : Act := .ask fun s =>
  let l := s.keyElems g x (s.actorDigits g.group k.actor) k
  .seq (.each l.zipIdx fun y => .ask fun s' =>
      let w := bits m.data (256 * y.2) 256
      putExact (exactAdd (s'.exactAt g.tag k.actor y.1) (signed 128 (bits w 0 128)) (bits w 128 127) (bitAt w 255)))
    (modInst g.tag fun y => { y with got := y.got ++ [k] })

/-- A region of parameters takes record `j` through its NEXT view (R325). -/
def putRecord (t p j : Nat) (rec : List Byte) : Act := .ask fun s =>
  match s.region p with
  | none => .skip
  | some r => .all [
      writeMem r.mem (s.recordOff r 2 j) rec,
      .set (GLB_STEP_STATE_NEXT_DIRTY r.graph) 1,
      .when (64 ≤ r.mem) (charge (allowKey (memStation r.mem) 0 (s.descGraph t)) (1 + ceilDiv (rec.length - 32) 64))]

/-- Write a published tile into PREGION, and into MREGION when its shard is the successor's (R325, R337). -/
def storePublished (g : Geo) (shard tile : Nat) (rec : List Byte) : Act := .ask fun s =>
  let succ := (s.successorDigits g.group).map fun ds => rankOf g.sizes ds
  .all [
    putRecord g.tag (s.get (VSY_BUCKET_PREGION g.tag)) (shard * s.tps g + tile) rec,
    .when (s.get (VSY_BUCKET_MIRROR_EN g.tag) = 1 && succ = some shard) (putRecord g.tag (s.get (VSY_BUCKET_MREGION g.tag)) tile rec),
    modInst g.tag fun y => { y with records := y.records ++ [(shard, tile)] }]

/-- Complete the gather of a bucket (R325). -/
def tryGather (t : Nat) : Act := .ask fun s =>
  match s.inst t with
  | none => .skip
  | some x =>
    let g := s.geo t
    .when (g.op = opBucket && x.armed && x.records.length = groupN g.sizes * s.tps g)
      (.seq (mlsAdd (s.get (VSY_DESC_MLS_DONE t)) 1 none) (endInst t x.num))

/-- Act on message `i` of those that wait. -/
def actOn (i : Nat) (m : PieceMsg) (v : Verdict) : Act := .ask fun s =>
  let t := m.stream.toNat % 4096
  let h := m.head.toNat
  let out : Act := .seq (.upd (.waitMsgs (s.waitMsgs.eraseIdx i))) (releaseMsg m)
  match v with
  | .wait => .skip
  | .bad => dropMsg i m 2
  | .stale => dropMsg i m 1
  | .abort r => .seq out (abortInst t r (phSig h) (phRank h))
  | .publish sh tl => .all [out, storePublished (s.geo t) sh tl (leBytes (phBytes h) m.data), tryGather t]
  | .take k =>
    match s.inst t with
    | none => .skip
    | some x =>
      let g := s.geo t
      .seq
        (if k.sample then .seq out (takeSample g x k m)
        else if k.phase = 0 && s.clique g.group k.level then takeClique g x k
        else .seq out (takePiece g x k m))
        (tryComplete t)

/-- Act on every waiting message that can be acted on, oldest first. -/
def settleLoop : Nat → Act
  | 0 => .skip
  | n + 1 => .ask fun s =>
    match (s.waitMsgs.zipIdx.map fun y => (y.2, y.1, s.verdict y.1)).find? fun y => y.2.2 ≠ .wait with
    | none => .skip
    | some y => .seq (actOn y.1 y.2.1 y.2.2) (settleLoop n)

/-- Let the waiting messages settle: each pass takes at least one away. -/
def settle : Act := .ask fun s => settleLoop (s.waitMsgs.length + 1)

/-- A whole message in cells, its header cell first (R290): none where they are not one. -/
def wholeMsg (cells : List Cell) : Option PieceMsg :=
  match cells with
  | [] => none
  | h :: ds =>
    let n := bits h.seq.toNat 10 14
    let k := ceilDiv (phBytes h.payload.toNat) 64
    let data := (List.range k).filterMap fun j => ds.find? fun c => c.seq.toNat = n * 1024 + j + 1
    if h.seq.toNat = n * 1024 && n ≠ 0x3FFF && ds.length = k && data.length = k && 1 ≤ k &&
        ds.all (fun c => c.endpt = h.endpt && c.stream = h.stream && c.kind = h.kind && c.last = decide (c.seq.toNat = n * 1024 + k)) then
      some ⟨h.kind = 5#5, h.endpt, h.stream, h.payload, packFast 512 (data.map (·.payload.toNat)),
        (data.zipIdx.filter fun y => y.1.poison).foldl (fun m y => m + 2 ^ (y.2 + 1)) 0⟩
    else none

/-- Take cells away from those that stand at the Vusyn stations; none where one does not stand there. -/
def takeOut : List Cell → List Cell → Option (List Cell)
  | all, [] => some all
  | all, c :: t => if all.contains c then takeOut (all.erase c) t else none

/-- A message has become whole at its Vusyn station (R290, R291, R296). `struck` are its data cells that a parity error of the
station's slots struck. -/
def wholeArrives (ok : PieceMsg → Bool) (cells : List Cell) (struck : List (Fin 512)) : Act := .ask fun s =>
  match takeOut s.vsyCells cells, wholeMsg cells with
  | some rest, some m0 =>
    let m : PieceMsg := { m0 with poison := m0.poison ||| struckMask (cells.length - 1) struck }
    .when (ok m) (.all [
      .upd (.vsyCells rest), .upd (.waitMsgs (s.waitMsgs ++ [m])),
      vusynParity (m.stream.toNat % 4096) (m.poison ≠ 0),
      settle])
  | _, _ => .skip

/-- A collective CREDIT cell reaches a Vusyn station (R290). The cell names no receiver: it is taken for the first receiver, in
ascending chip ID, of which that many messages can have been released. One that a router parity error struck raises source 8 of the
descriptor's graph (R241). -/
def collCreditRx (c : Cell) (parity : Bool) : Act := .ask fun s =>
  let st := c.stream.toNat
  let v := bits c.payload.toNat 0 32
  let fits (x : SentCount) : Bool := x.stream = st && 0 < seqDiff v x.released && 0 ≤ seqDiff x.sent v
  if !s.serves c.endpt.toNat (st % 4096) then countVsy 2
  else .seq (vusynParity (st % 4096) parity) <|
    match (s.sentCounts.filter fits).foldl (fun b x => match b with
        | none => some x
        | some y => if x.chip < y.chip then some x else b) (none : Option SentCount) with
    | none => .skip
    | some x => .seq
        (.upd (.sentCounts (s.sentCounts.map fun y => if y = x then { y with released := v } else y)))
        (tryComplete (st % 4096))

/-! Entering an instance (R279, R285, R294, R311). -/

/-- The ENTER cell of a member (R288, R311). -/
def State.enterCell (s : State) (t num : Nat) : Cell :=
  let g := s.get (VSY_DESC_GROUP t)
  { dest := BitVec.ofNat 24 (s.mcGroup (s.get (VSY_GROUP_ANNOUNCE g))), endpt := BitVec.ofNat 9 (s.descEndpt t),
    stream := BitVec.ofNat 18 t, seq := BitVec.ofNat 24 (0x3FFF * 1024), vc := BitVec.ofNat 3 (s.get (VSY_GROUP_CTL_VC g)),
    kind := 4#5, poison := false, sample := false, mcast := true, last := true, hops := 63#6, reserved := 0#3,
    payload := BitVec.ofNat 512 (pieceHead (s.get (VSY_DESC_SIG t)) (s.get (VSY_GROUP_EPOCH g)) num 0 s.chipId (s.ownRank g)
      0 0 0 0 0 0 0 0 0) }

/-- Whether the lateness window traces a group. -/
def State.traces (s : State) (g : Nat) : Bool := s.get VSY_LAG_CFG_EN = 1 && s.get VSY_LAG_CFG_GROUP = g

/-- The record of an instance of the traced group (R311). -/
def State.enterRec (s : State) (t num : Nat) : Enter :=
  (s.enters.find? fun e => e.tag = t && e.num = num).getD ⟨t, num, none, []⟩

/-- Put the record of an instance: one is kept per tag and instance modulo 4. -/
def putEnter (e : Enter) : Act := .ask fun s =>
  .upd (.enters ((s.enters.filter fun y => !(y.tag = e.tag && y.num % 4 = e.num % 4)) ++ [e]))

/-- Name the laggard: the rank of the window with the largest LAST count, the lowest on a tie (R312). -/
def laggardRefresh (g : Nat) : Act := .ask fun s =>
  let base := s.get VSY_LAG_CFG_BASE_K * 1024
  let best := (s.listed (VSY_LAG_LAST_COUNT 0) 0x10 1024).foldl (fun (b : Nat × Nat) i =>
    let v := s.get (VSY_LAG_LAST_COUNT i)
    if b.2 < v || (b.2 = v && i < b.1) then (i, v) else b) (0, 0)
  .when (best.2 ≠ 0) (.all [
    .set VSY_LAGGARD_RANK (base + best.1), .set VSY_LAGGARD_CHIP (s.rankChip g (base + best.1)), .set VSY_LAGGARD_VALID 1])

/-- Once every other member has entered, the lateness counters change (R311). -/
def enterCount (e : Enter) : Act := .ask fun s =>
  let g := s.get (VSY_DESC_GROUP e.tag)
  match e.own with
  | none => .skip
  | some t0 =>
    .when (e.others.length + 1 = groupN (s.sizes g)) (
      let all := (s.ownRank g, t0) :: e.others.map fun o => (o.1, o.2.2)
      let late := all.foldl (fun (b : Nat × Nat) o => if b.2 < o.2 || (b.2 = o.2 && o.1 < b.1) then o else b) (s.ownRank g, t0)
      let base := s.get VSY_LAG_CFG_BASE_K * 1024
      let inWin (r : Nat) : Bool := base ≤ r && r < base + 1024
      .all [
        .upd (.enters (s.enters.filter fun y => y ≠ e)),
        .when (inWin late.1) (.seq (count (VSY_LAG_LAST_COUNT (late.1 - base)) (VSY_LAG_LAST_OVF (late.1 - base))) (laggardRefresh g)),
        .each (all.filter fun o => inWin o.1) fun o =>
          countBy (VSY_LAG_SUM_COUNT (o.1 - base)) (VSY_LAG_SUM_OVF (o.1 - base)) (o.2 - t0)])

/-- An ENTER cell reaches a Vusyn station (R311): checks 1–4 of R291, then its record. One for an instance not entered yet is
recorded as it arrives, and a wrong signature ends that instance at entry. -/
def enterCellRx (c : Cell) : Act := .ask fun s =>
  let h := c.payload.toNat
  let t := c.stream.toNat % 4096
  let g := s.get (VSY_DESC_GROUP t)
  let n := s.get (VSY_DESC_INST t)
  let cur : Bool := (s.inst t).any fun x => x.num = phInst h
  if !s.serves c.endpt.toNat t then countVsy 2
  else
    let d := epochDiff (phEpoch h) (s.get (VSY_GROUP_EPOCH g))
    if d < 0 || (!cur && seqDiff (phInst h) n < 0) then countVsy 1
    else if d > 0 then .upd (.vsyCells (s.vsyCells ++ [c]))
    else if phSig h ≠ s.get (VSY_DESC_SIG t) then
      if cur then abortInst t 1 (phSig h) (phRank h)
      else
        let p := abortPayload (s.get (VSY_DESC_SIG t)) (phSig h) (phInst h) (s.get (VSY_GROUP_EPOCH g)) 1 s.chipId (phRank h)
        .when (!s.earlyAborts.any fun a => a.1 = t && a.2.1 = phInst h) (.seq (recordAbort t (phInst h) p) (forwardAbort t p))
    else .when (s.traces g && phRank h ≠ s.ownRank g) (
      let e := s.enterRec t (phInst h)
      let e' : Enter := { e with others := (e.others.filter fun o => o.1 ≠ phRank h) ++ [(phRank h, phChip h, s.get CNT_CYCLE_COUNT)] }
      .seq (putEnter e') (enterCount e'))

/-- Enter the next instance of a descriptor (R279). -/
def enterInst (t : Nat) (a : Alt) : Act := .ask fun s =>
  let n := s.get (VSY_DESC_INST t)
  let g := s.get (VSY_DESC_GROUP t)
  let e := { s.enterRec t n with own := some (s.get CNT_CYCLE_COUNT) }
  .all [
    .upd (.insts ((s.insts.filter fun x => x.tag ≠ t) ++ [⟨t, n, s.flushOf a, a.inputs, a.outputs, s.get VSY_GRAD_CFG_SAMPLE_L, 0, [], [], [],
      [], 0, 0, false, false, 0, 0, [], 0⟩])),
    .set (VSY_DESC_INST t) (n + 1), .set (VSY_DESC_STATE t) 1,
    .each (s.playWork.filter fun p => p.1 / 2 ^ 32 = t) (fun p => .put .playWork p.1 0),
    .upd (.sentCounts (s.sentCounts.map fun c => if c.stream % 4096 = t then { c with num := 0 } else c)),
    .when (s.get (VSY_DESC_OP t) = opBucket) (.seq (.set (VSY_BKT_STAT_SAMPLES t) 0)
      (.set (VSY_BKT_STAT_PLAYING t) (b2n (1 < (s.actors g).length)))),
    .when (s.get GLB_MODE_ROLE ≠ 1 && s.get (VSY_GROUP_ANN_VALID g) = 1)
      (.seq (originate none [s.enterCell t n]) (.when (s.traces g) (.seq (putEnter e) (enterCount e)))),
    match s.earlyAborts.find? fun y => y.1 = t && y.2.1 = n with
    | some y => abortHere t y.2.2
    | none => .upd (.earlyAborts (s.earlyAborts.filter fun y => !(y.1 = t && seqDiff y.2.1 n < 0)))]

/-! Staging and emission (R279, R320). -/

/-- The tile format of an element type (R277, R23). -/
def etTile (et : Nat) : Nat := if et = 0 then 0x00 else if et = 1 then 0x03 else if et = 2 then 0x08 else if et = 3 then 0x09 else 0x0A

/-- The elements of a contribution tile in order: bytes of its payload for RAW, codes of its rows otherwise. -/
def tileElems (et : Nat) (t : Tile) : List Nat :=
  let h := t.head
  if et = 0 then unpack 8 (hPayloadLen h) t.payload
  else (List.range (hRows h)).flatMap fun r => (List.range (hCols h)).map fun i => elemCode h t.payload (8 * wireBytes et) r i

/-- Whether a contribution tile is refused (R25, R279, R316). -/
def State.badContribution (s : State) (g : Geo) (x : Inst) (t : Tile) : Bool :=
  !headerValid t.head || (g.et ≠ 0 && hFmt t.head ≠ etTile g.et) ||
  (g.op = opBucket && hCols t.head ≠ s.get (VSY_DESC_OUT_COLS g.tag)) || (s.contribution g).2 < x.staged + (tileElems g.et t).length

/-- The exact partial of a contribution (R334). -/
def exactOf (t : Nat) (flush : Bool) (i c : Nat) : Exact :=
  match (bf16.read flush c).1 with
  | .fin s m e =>
    let k := e + 100
    if m = 0 then ⟨t, 0, i, 0, 0, false⟩
    else if 0 ≤ k then
      let v := m <<< k.toNat
      exactAdd ⟨t, 0, i, 0, 0, false⟩ (if s then -(v : Int) else v) v false
    else if m % 2 ^ (-k).toNat = 0 then
      let v := m >>> (-k).toNat
      exactAdd ⟨t, 0, i, 0, 0, false⟩ (if s then -(v : Int) else v) v false
    else ⟨t, 0, i, 0, 0, true⟩
  | _ => ⟨t, 0, i, 0, 0, true⟩

/-- The WORK word of a contribution element: a SCALED FP16 element is its value × 2^−E (R89), rounded to FP32 under the instance FLUSH;
every other is widened exactly. With its flags. -/
def stageWord (et : Nat) (flush : Bool) (e : Int) (c : Nat) : Nat × Nat :=
  if et = 2 && e ≠ 0 then fp32.round .rne flush false ((fp16.decode c).scale (-e)) else (widen et c, 0)

/-- A staging firing: one contribution tile goes into WORK (R279, R296). `parity`: an error in the station's slots struck it. -/
def stageFire (g : Geo) (x : Inst) (parity : Bool) (i : Nat) : Act := .ask fun s =>
  let t := s.inputD i
  if s.badContribution g x t then badHeader i
  else
    let a := (s.contribution g).1 + x.staged
    let l := (tileElems g.et t).zipIdx.map fun y => (a + y.2, y.1)
    .all [
      cleanElems g.tag 0 (l.map (·.1)),
      storeWords g 0 (l.map fun y => (y.1, stageWord g.et x.flush (s.tileExp t.head) y.2)),
      chargeWork g 0 l.length,
      vusynParity g.tag parity,
      .each (l.filter fun y => s.isSampled g.tag x y.1) (fun y => putExact (exactOf g.tag x.flush y.1 y.2)),
      .when (hPoison t.head || parity) (.seq (poisonElems g.tag 0 (l.map (·.1))) (.each (x.ins ++ x.outs) raisePoisoned)),
      modInst g.tag fun y => { y with staged := y.staged + l.length },
      consume i, settle, tryComplete g.tag]

/-- Bytes of an element in a result tile, and its format: buckets emit FP32 (R279, R320, R321). -/
def Geo.outEt (g : Geo) : Nat := if g.op = opBucket then 4 else g.et

/-- Rows of a result tile. -/
def State.outRows (s : State) (g : Geo) : Nat :=
  min 128 (32768 / (wireBytes g.outEt * max 1 (s.get (VSY_DESC_OUT_COLS g.tag))))

/-- The next result tile of an actor: its first element and how many. -/
def State.nextResult (s : State) (g : Geo) (a done total : Nat) : Nat × Nat :=
  ((s.resultOf g a).1 + done, min (s.outRows g * s.get (VSY_DESC_OUT_COLS g.tag)) (total - done))

/-- A result element is final. -/
def State.elemFinal (s : State) (g : Geo) (x : Inst) (a i : Nat) : Bool :=
  if g.op = opBucket && s.get (VSY_BUCKET_ALL g.tag) = 0 then x.finished.contains (a, g.colOf i) else s.colDone g x a (g.colOf i)

/-- The next result tile of an actor is ready to be emitted. -/
def State.resultReady (s : State) (g : Geo) (x : Inst) (a done total : Nat) : Bool :=
  let r := s.nextResult g a done total
  done < total && ((List.range r.2).map fun j => g.colOf (r.1 + j)).eraseDups.all fun c =>
    if g.op = opBucket && s.get (VSY_BUCKET_ALL g.tag) = 0 then x.finished.contains (a, c) else s.colDone g x a c

/-- The rounding of result element `i` on behalf of actor `a` (R279, R319): under SR the counters of R319, whose level and phase are
free for an emission (log entry 37). -/
def State.emitRnd (s : State) (g : Geo) (a i : Nat) : Rnd :=
  if s.get (VSY_DESC_ROUND g.tag) = 0 || g.op = opBucket then .rne
  else
    let c1 := rankOf g.sizes (s.actorDigits g.group a) + 2 ^ 24 * Config.emitStage.toNat
    .sr (groupHalf (cgAt s.seed (i / 8 + 2 ^ 32 * c1) (0x80001000 + g.tag) (s.stepNum (s.descGraph g.tag))) (i % 8))

/-- An emission firing of an actor on output `o` (R279, R296, R320). The places past the last element of a last row are free. `parity`: an error of the datapath struck the tile. -/
def emitFire (g : Geo) (x : Inst) (parity : Bool) (a o done total : Nat) : Act := .ask fun s =>
  let r := s.nextResult g a done total
  let cols := s.get (VSY_DESC_OUT_COLS g.tag)
  let rows := ceilDiv r.2 cols
  let w := 8 * wireBytes g.outEt
  let idx := (List.range r.2).map (r.1 + ·)
  let codes := idx.map fun i => toWire g.outEt (s.emitRnd g a i) x.flush (s.workElem g a i)
  let pad := (List.range (rows * cols - r.2)).map fun j => (Config.freeWord (s.free + j)).toNat
  let len := rows * rowLen (etTile g.outEt) cols
  let bad := parity || idx.any (s.elemBad g x a)
  let h := mkHeader (etTile g.outEt) bad false false rows cols (rowLen (etTile g.outEt) cols) 0 0 0 0 0 0 len
  .all [
    visitWork g a idx, vusynParity g.tag parity,
    instFlags g.tag (codes.foldl (fun f c => f ||| c.2) 0),
    .when bad (.each (x.ins ++ x.outs) raisePoisoned),
    emit o ((Tile.of h (packFast w (codes.map (·.1) ++ pad))).stamp (s.get (STR_NEXT_SEQ o)) (s.stepNum (s.descGraph g.tag)) s.chipId),
    .upd (.free (s.free + pad.length)),
    modInst g.tag fun y => if a = 0 then { y with emitted := y.emitted + r.2 } else { y with emitted1 := y.emitted1 + r.2 }]

/-- The stream of output binding `b` of an alternative. -/
def Alt.out (a : Alt) (b : Nat) : Option Nat := ((a.outs[b]?).getD none)

/-- What a COLL or BUCKET step can do next. -/
inductive VsyStep where
  | enter
  | stage (i : Nat)
  | emit (actor o done total : Nat)
  deriving DecidableEq, Repr

/-- The next firing of a COLL or BUCKET alternative that is ready (R36, R37, R279): it enters, stages a tile, or emits one. Once the
contribution is whole, a further tile waits in its slot for the next instance. -/
def State.vsyNext (s : State) (a : Alt) : Option VsyStep :=
  let t := vwTag a.op
  let g := s.geo t
  let free := !s.held (s.descGraph t) && s.takesPart (s.descGraph t) && a.streams.all s.streamReady
  match s.inst t with
  | none =>
    if !free then none
    else if a.inputs.isEmpty || a.inputs.all (fun n => (s.input n).isSome) then some .enter else none
  | some x =>
    let tot := s.toEmit g x
    if !free || s.firingsDone g x then none
    else
      match a.inputs.find? fun n => (s.input n).isSome && x.staged < (s.contribution g).2 with
      | some n => some (.stage n)
      | none =>
        match a.out 0 with
        | some o =>
          if 1 ≤ s.get (STR_CREDITS o) && s.resultReady g x 0 x.emitted tot.1 then some (.emit 0 o x.emitted tot.1)
          else
            match a.out 1 with
            | some o1 => if 1 ≤ s.get (STR_CREDITS o1) && s.resultReady g x 1 x.emitted1 tot.2 then some (.emit 1 o1 x.emitted1 tot.2) else none
            | none => none
        | none => none

/-- The step of a COLL or BUCKET alternative ends with its last tile (R36, R279). -/
def vsyEnd (e t : Nat) : Act := .ask fun s =>
  match s.inst t with
  | none => .skip
  | some x => .seq (.when (s.firingsDone (s.geo t) x) (advance e 0)) (tryComplete t)

/-- One firing of a COLL or BUCKET alternative. An instance that ends at its entry consumes no tile (R294). -/
def vsyFire (parity : Bool) (e : Nat) (a : Alt) : Act := .ask fun s =>
  let t := vwTag a.op
  match s.vsyNext a with
  | none => .skip
  | some .enter => .all [enterInst t a,
      .ask fun s' =>
        match s'.inst t, a.inputs with
        | some x, n :: _ => stageFire (s'.geo t) x parity n
        | _, _ => settle,
      vsyEnd e t]
  | some (.stage n) =>
    match s.inst t with
    | some x => .seq (stageFire (s.geo t) x parity n) (vsyEnd e t)
    | none => .skip
  | some (.emit b o d n) =>
    match s.inst t with
    | some x => .all [emitFire (s.geo t) x parity b o d n, vsyEnd e t]
    | none => .skip

/-- KIND of a VUSYN operation word. -/
def vwKind (w : Nat) : Nat := bits w 0 4

end Sys2Proof.Machine
end

