-- ==== Sys2Proof/Machine/Grad.lean ====
section
/-!
DEFINITION. The gradient path (R315–R341): the owner's finish with the sampled dual-path check, publication and the gather, and
the commands of the Vusyn stations (COLL, BUCKET, PUBLISH, GATHER, and the messages that reach them).
-/

namespace Sys2Proof.Machine

open Reg

/-! The owner's finish (R320–R323, R336). -/

/-- The factor F of a bucket: NORM under a detour, SCALE otherwise (R320). -/
def State.finishFactor (s : State) (t : Nat) : Nat :=
  let g := s.get (VSY_DESC_GROUP t)
  if s.get (VSY_GROUP_DETOURED g) = 1 then s.rd .norm g else s.get (VSY_BUCKET_SCALE t)

/-- Offer a NaN entry to VSY_FIRST_NAN of a graph (R322). -/
def offerNan (g t i : Nat) : Act := .ask fun s =>
  let lower := t < s.get (VSY_FIRST_NAN_TAG g) || (t = s.get (VSY_FIRST_NAN_TAG g) && i < s.get (VSY_FIRST_NAN_INDEX g))
  .when (s.get (VSY_FIRST_NAN_VALID g) = 0 || (s.rd .nanFresh g = 1 && lower)) (.all [
    .set (VSY_FIRST_NAN_TAG g) t, .set (VSY_FIRST_NAN_INDEX g) i, .set (VSY_FIRST_NAN_VALID g) 1, .put .nanFresh g 1])

/-- |main − exact| > (N − 1) × 2^−8 × abs, evaluated exactly (R336). -/
def dualMismatch (n : Nat) (main : Val) (e : Exact) : Bool :=
  let exact : Val := .fin (decide (e.sum < 0)) e.sum.natAbs (-100)
  let diff := (main.add exact.neg).1.abs
  decide (diff.cmp (.fin false ((n - 1) * e.abs) (-108)) > 0)

/-- Compare the two sums of a sampled entry (R336). -/
def compareEntry (t a i main : Nat) : Act := .ask fun s =>
  let e := s.exactAt t a i
  let v := fp32.decode main
  let g := s.descGraph t
  if e.unv || !v.isFinite then count (VSY_GRAD_CNT_COUNT 2) (VSY_GRAD_CNT_OVF 2)
  else
    .all [
      count (VSY_GRAD_CNT_COUNT 0) (VSY_GRAD_CNT_OVF 0),
      .modify (VSY_BKT_STAT_SAMPLES t) (fun n => min (n + 1) 0xFFFF),
      modInst t fun x => { x with compared := x.compared + 1 },
      .when (dualMismatch (groupN (s.sizes (s.get (VSY_DESC_GROUP t)))) v e) (.all [
        raiseSource g 7, .set (VSY_BKT_STAT_MISMATCH t) 1, count (VSY_GRAD_CNT_COUNT 1) (VSY_GRAD_CNT_OVF 1),
        .when (s.get VSY_CHK_LOG_VALID = 0) (.all [
          .set VSY_CHK_LOG_INDEX i, .set VSY_CHK_LOG_TAG t, .set VSY_CHK_LOG_GRAPH g, .set VSY_CHK_LOG_VALID 1,
          .set VSY_CHK_VAL_MAIN main,
          .set VSY_CHK_VAL_EXACT (fp32Code (.fin (decide (e.sum < 0)) e.sum.natAbs (-100)))])])]

/-- A finished value: the FP32 sum times F, and its flags; ALL = 1 keeps it as BF16 (R320, R321). -/
def finishValue (flush all : Bool) (sum f : Nat) : Nat × Nat :=
  let x := fp32.read flush sum
  let y := fp32.read flush f
  let v := x.1.mul y.1
  let r := (if all then bf16 else fp32).round .rne flush false v.1
  (if all then fp32Code (bf16.decode r.1) else r.1, x.2 ||| y.2 ||| v.2 ||| r.2)

/-- Finish one entry of a shard (R320–R322, R336). -/
def finishEntry (g : Geo) (x : Inst) (a i : Nat) : Act := .ask fun s =>
  let sum := s.workElem g a i
  let r := finishValue x.flush (s.get (VSY_BUCKET_ALL g.tag) = 1) sum (s.finishFactor g.tag)
  let v := fp32.decode r.1
  let gr := s.descGraph g.tag
  .all [
    .when (s.isSampled g.tag x i) (compareEntry g.tag a i sum),
    setWork g a i r.1,
    instFlags g.tag (r.2 ||| (match v with
      | .inf _ => fOverflow
      | _ => 0)),
    .when v.isNan (.all [raiseSource gr 2, .set (VSY_BKT_STAT_NAN g.tag) 1, offerNan gr g.tag i])]

/-- Finish a column for one actor: every reduce-scatter stage of it is complete (R320). `parity`: an error of the datapath struck the
entries (R296). -/
def finishFor (g : Geo) (parity : Bool) (a c : Nat) : Act := .ask fun s =>
  match s.inst g.tag with
  | none => .skip
  | some x =>
    let k := g.sizes.length
    let ready := s.stagedCol g x a c && ((s.stages g).take k).all (fun st => s.stageDone g x a st c)
    let p := g.pieceAt (rankOf g.sizes (s.actorDigits g.group a)) c
    .when (g.op = opBucket && s.takesPart (s.descGraph g.tag) && c < g.cols && ready && !x.finished.contains (a, c)) (.all [
      readPartials g x a (expand [p]), keepBad g a (expand [p]),
      .each (expand [p]) (finishEntry g x a),
      chargeWork g a p.2,
      .when parity (.seq (poisonElems g.tag a (expand [p])) (vusynParity g.tag true)),
      modInst g.tag fun y => { y with finished := y.finished ++ [(a, c)] }])

/-- MLS_FIN once every column of every shard that this member finishes is finished (R323). -/
def tryFin (t : Nat) : Act := .ask fun s =>
  match s.inst t with
  | none => .skip
  | some x =>
    let g := s.geo t
    .when (g.op = opBucket && !x.finDone &&
        (List.range (s.actors g.group).length).all fun a => (List.range g.cols).all fun c => x.finished.contains (a, c))
      (.seq (modInst t fun y => { y with finDone := true }) (mlsAdd (s.get (VSY_BUCKET_MLS_FIN t)) 1 none))

/-- BUCKET_FINISH: the column of the member's own shard, and of the shard it plays (R320, R339). -/
def bucketFinish (t c : Nat) (parity : Bool) : Act := .ask fun s =>
  let g := s.geo t
  .all [
    .each (List.range (s.actors g.group).length) (fun a => finishFor g parity a c), tryFin t, settle, tryComplete t]

/-! Publication (R324–R326). -/

def vwPlayed (w : Nat) : Bool := bitAt w 16

/-- Surviving members other than this chip: the receivers of a publication (R326). -/
def State.receivers (s : State) (g : Nat) : List Nat :=
  ((s.survivors g).filter fun r => r ≠ s.ownRank g).map (s.rankChip g)

/-- STREAM of a publication message (R327). -/
def pubStream (t num : Nat) : Nat := msgStream t 0 1 0 num

/-- Publication messages of a descriptor, of whatever instance, that some receiver has not released (R326). -/
def State.pubUnreleased (s : State) (t : Nat) : Nat :=
  (s.receivers (s.get (VSY_DESC_GROUP t))).foldl (fun n c =>
    max n ((s.sentCounts.filter fun x => x.stream % 2 ^ 16 = pubStream t 0 && x.chip = c).foldl
      (fun k x => k + seqFwd x.sent x.released) 0)) 0

/-- A PUBLISH alternative is ready: its streams, an instance, a played position where PLAYED = 1, and a free place (R324, R326). -/
def State.publishReady (s : State) (a : Alt) : Bool :=
  let t := vwTag a.op
  let g := s.get (VSY_DESC_GROUP t)
  s.altReady a && !s.held (s.descGraph t) && s.takesPart (s.descGraph t) &&
  match s.inst t with
  | none => false
  | some _ =>
    (!vwPlayed a.op || 1 < (s.actors g).length) &&
    ((s.receivers g).isEmpty || s.pubUnreleased t < s.get (VSY_DESC_SLOTS t) / (groupN (s.sizes g) - 1))

/-- Whether a parameter tile breaks the rule of R324 for tile `j`. -/
def State.badPublication (s : State) (g : Geo) (t : Tile) (j : Nat) : Bool :=
  let rows := g.shard / max 1 (s.get (VSY_DESC_OUT_COLS g.tag))
  !headerValid t.head || hFmt t.head ≠ 0x09 || s.tps g ≤ j || hCols t.head ≠ s.get (VSY_DESC_OUT_COLS g.tag) ||
  hRows t.head ≠ min (s.pubRows g.tag) (rows - j * s.pubRows g.tag)

/-- A parameter tile as it is published: repacked, with the header that R84 sets for a BF16 tile that is not SCALED (R324). -/
def packedTile (t : Tile) (seq step origin : Nat) : Tile :=
  let h := t.head
  let rows := (List.range (hRows h)).map fun r => (List.range (hCols h)).map fun i => elemCode h t.payload 16 r i
  (Tile.of (outHeader h 0x09 false 0) (layRows 16 (rowLen 0x09 (hCols h)) rows [])).stamp seq step origin

/-- A PUBLISH firing (R324, R325). `parity`: an error in the station's slots struck the tile (R296). -/
def publishFire (parity : Bool) (e : Nat) (a : Alt) : Act := .ask fun s =>
  let t := vwTag a.op
  match s.inst t, a.inputs with
  | some x, i :: _ =>
    let g := s.geo t
    let played := vwPlayed a.op
    let j := if played then x.played else x.published
    let tile := s.inputD i
    if s.badPublication g tile j then badHeader i
    else
      let rank := rankOf g.sizes (s.actorDigits g.group (b2n played))
      let bad := hPoison tile.head || parity
      let rec_ := packedTile (tile.withPoison parity) j (s.stepNum (s.descGraph t)) s.chipId
      let stream := pubStream t x.num
      let rc := s.receivers g.group
      let num := s.nextNum stream (rc.headD 0)
      let head := pieceHead (s.get (VSY_DESC_SIG t)) (s.get (VSY_GROUP_EPOCH g.group)) x.num (s.stepNum (s.descGraph t)) s.chipId rank
        0 0 0 0 rec_.recordLen 3 0 j rank
      .all [
        originate (some (s.descGraph t)) (msgCells (s.mcGroup (s.get (VSY_BUCKET_PUB_MC t))) true true false (s.descEndpt t) stream
          (s.get (VSY_DESC_VC t)) num head rec_.raw rec_.recordLen fun _ => bad),
        .each rc (countSent stream),
        modInst t fun y => if played then { y with played := y.played + 1 } else { y with published := y.published + 1 },
        storePublished g rank j rec_.record,
        .when bad (.each a.streams raisePoisoned), vusynParity t parity,
        consume i, advance e 0, tryGather t]
  | _, _ => .skip

/-- A GATHER firing arms the gather (R316, R325). -/
def gatherFire (e : Nat) (a : Alt) : Act :=
  let t := vwTag a.op
  .all [modInst t fun y => { y with armed := true }, advance e 0, settle, tryGather t]

/-! Commands of the stations (R279, R315). -/

/-- Whether an alternative of a Vusyn station is ready. -/
def State.vsyReady (s : State) (a : Alt) : Bool :=
  match vwKind a.op with
  | 1 => (s.vsyNext a).isSome
  | 2 => (s.vsyNext a).isSome
  | 3 => s.publishReady a
  | 4 => !s.held (s.descGraph (vwTag a.op)) && s.takesPart (s.descGraph (vwTag a.op)) && (s.inst (vwTag a.op)).isSome
  | _ => false

/-- A firing of a Vusyn station of one kind. -/
def vsyCommand (v kind : Nat) (f : Nat → Alt → Act) : Act := .ask fun s =>
  fireOn (0x120 + v) 0 s.vsyReady (fun a => vwKind a.op = kind) (f (0x120 + v))

/-- `parity`: an error in the station's slots or datapath strikes the tile of the firing (R296). -/
def execColl (v : Vusyn) (parity : Bool) (s : State) : Host.Outcome State Fault Refusal :=
  live (vsyCommand v.val 1 (vsyFire parity)) s
def execBucket (v : Vusyn) (parity : Bool) (s : State) : Host.Outcome State Fault Refusal :=
  live (vsyCommand v.val 2 (vsyFire parity)) s
def execPublish (v : Vusyn) (parity : Bool) (s : State) : Host.Outcome State Fault Refusal :=
  live (vsyCommand v.val 3 (publishFire parity)) s
def execGather (v : Vusyn) (s : State) : Host.Outcome State Fault Refusal := live (vsyCommand v.val 4 gatherFire) s
def execBucketFinish (t : BitVec 12) (col : BitVec 32) (parity : Bool) (s : State) : Host.Outcome State Fault Refusal :=
  live (bucketFinish t.toNat col.toNat parity) s

/-- A piece is sent, and what it makes possible inside the chip is done. -/
def pieceSend (t : Nat) (k : MsgKey) (struck : List (Fin 512)) : Act := .all [sendPiece t k struck, settle, tryComplete t]

def execPieceSend (t : BitVec 12) (k : MsgKey) (struck : List (Fin 512)) (s : State) : Host.Outcome State Fault Refusal :=
  live (pieceSend t.toNat k struck) s

/-- TYPE of a whole message: 0 and 1 are pieces, and a COLL message has 0 (R327). -/
def isPieceMsg (m : PieceMsg) : Bool := !(m.grad && (phType m.head.toNat = 2 || phType m.head.toNat = 3))

def execPieceMessage (cells : List Cell) (struck : List (Fin 512)) (s : State) : Host.Outcome State Fault Refusal :=
  live (wholeArrives isPieceMsg cells struck) s
def execSampleMessage (cells : List Cell) (struck : List (Fin 512)) (s : State) : Host.Outcome State Fault Refusal :=
  live (wholeArrives (fun m => m.grad && phType m.head.toNat = 2) cells struck) s
def execPublicationMessage (cells : List Cell) (struck : List (Fin 512)) (s : State) : Host.Outcome State Fault Refusal :=
  live (wholeArrives (fun m => m.grad && phType m.head.toNat = 3) cells struck) s
def execCollCredit (c : Cell) (s : State) : Host.Outcome State Fault Refusal := live (collCreditRx c false) s
def execAbortCell (c : Cell) (s : State) : Host.Outcome State Fault Refusal := live (abortCellRx c) s
def execEnterCell (c : Cell) (s : State) : Host.Outcome State Fault Refusal := live (enterCellRx c) s

/-! The collective watchdog and the abort of a station (R295). -/

/-- What holds the watchdog of an instance (R55, R295): frozen on the chip or halted, the station disabled, P1, a stopping fault on a
stream of the step. -/
def State.collWdHeld (s : State) (t : Nat) (x : Inst) : Bool :=
  s.held (s.descGraph t) || s.get (STN_CTRL_ENABLE (s.descEndpt t)) = 0 || s.get PWR_STATE_STATUS_STATE = 1 ||
  (x.ins ++ x.outs).any s.stopped

/-- The collective watchdog fires on an active instance; it counts in SERVICE alone (R295, R310). -/
def collWatchdog (t : Nat) : Act := .ask fun s =>
  match s.inst t with
  | none => .skip
  | some x =>
    .when (s.get VSY_COLL_CFG_COLL_WD ≠ 0 && s.get GLB_MODE_ROLE = 1 && !s.collWdHeld t x) (.all [
      .each (x.ins ++ x.outs) stallStream,
      mlsCode (s.get (VSY_DESC_MLS_DONE t)) codeStalled,
      endInst t x.num, countVsy 3])

def execCollWatchdogFire (t : BitVec 12) (s : State) : Host.Outcome State Fault Refusal := live (collWatchdog t.toNat) s

/-- An abort of a Vusyn station ends the active instances that it serves, with REASON 3 (R295). -/
def abortVusyn (e : Nat) : Act := .ask fun s =>
  .each (s.insts.filter fun x => s.descEndpt x.tag = e) fun x =>
    abortInst x.tag 3 0 (s.ownRank (s.get (VSY_DESC_GROUP x.tag)))

/-- STATION_ABORT (R61, R295). -/
def stationAbort (e : Nat) : Act := .seq (.when (isVusyn e) (abortVusyn e)) (abortStation e)

def execStationAbort (e : Endpt) (s : State) : Host.Outcome State Fault Refusal :=
  live (Act.when (isStation e.toNat) (stationAbort e.toNat)) s

/-! Clears (R313, R340). -/

/-- VSY_LAG_CFG.CLR (R313). -/
def lagClear : Act :=
  .all [
    .each (List.range 1024) (fun i => .seq (countClear (VSY_LAG_LAST_COUNT i) (VSY_LAG_LAST_OVF i))
      (countClear (VSY_LAG_SUM_COUNT i) (VSY_LAG_SUM_OVF i))),
    .set VSY_LAGGARD_RANK 0, .set VSY_LAGGARD_CHIP 0, .set VSY_LAGGARD_VALID 0]

def execLagClear (s : State) : Host.Outcome State Fault Refusal := live lagClear s
def execCollCounterClear (mask : BitVec 5) (s : State) : Host.Outcome State Fault Refusal :=
  live (Act.each ((List.range 5).filter fun i => bitAt mask.toNat i) fun i => countClear (VSY_CNT_COUNT i) (VSY_CNT_OVF i)) s
def execGradCounterClear (mask : BitVec 3) (s : State) : Host.Outcome State Fault Refusal :=
  live (Act.each ((List.range 3).filter fun i => bitAt mask.toNat i) fun i =>
    countClear (VSY_GRAD_CNT_COUNT i) (VSY_GRAD_CNT_OVF i)) s

end Sys2Proof.Machine
end

