-- ==== Sys2Proof/Machine/Commit.lean ====
section
/-!
DEFINITION. The commit collective (R178, R298–R301, R506), rewinds (R484, R485), and the detour switch with its resolution (R306–R308).
-/

namespace Sys2Proof.Machine

open Reg

/-! Commit cells (R298, R299). -/

def passA : Nat := 1
def passB : Nat := 2
def passDetour : Nat := 3

/-- The COMMIT payload (R299). -/
def commitPayload (p : CommitPass) (epoch chip rank : Nat) : Nat :=
  p.pass % 256 + (p.round % 256) <<< 8 + (p.bits % 256) <<< 16 + (p.aOut % 256) <<< 24 + (p.step % 2 ^ 32) <<< 32 +
  (p.sig % 2 ^ 32) <<< 64 + (p.cmin % 2 ^ 32) <<< 96 + (p.cmax % 2 ^ 32) <<< 128 + (epoch % 2 ^ 16) <<< 160 +
  (chip % 2 ^ 24) <<< 192 + (rank % 2 ^ 24) <<< 224

def cpPass (h : Nat) : Nat := bits h 0 8
def cpRound (h : Nat) : Nat := bits h 8 8
def cpBits (h : Nat) : Nat := bits h 16 8
def cpStep (h : Nat) : Nat := bits h 32 32
def cpSig (h : Nat) : Nat := bits h 64 32
def cpMin (h : Nat) : Nat := bits h 96 32
def cpMax (h : Nat) : Nat := bits h 128 32
def cpEpoch (h : Nat) : Nat := bits h 160 16
def cpRank (h : Nat) : Nat := bits h 224 24

/-- The COMMIT cell of a pass's round to the survivor 2^round places on; pass B carries no data (R298–R300). -/
def State.commitCell (s : State) (p : CommitPass) : Option Cell :=
  let c := s.get (GLB_STEP_CFG_GROUP p.graph)
  (s.survivorAt c false (2 ^ p.round)).map fun r =>
    let q := if p.pass = passB then { p with bits := 0, aOut := 0, step := 0, sig := 0 } else p
    { dest := BitVec.ofNat 24 (s.rankChip c r), endpt := 0x1F0#9, stream := BitVec.ofNat 18 p.graph, seq := 0#24,
      vc := BitVec.ofNat 3 (s.get (VSY_GROUP_CTL_VC c)), kind := 6#5, poison := false, sample := false, mcast := false,
      last := true, hops := 63#6, reserved := 0#3,
      payload := BitVec.ofNat 512 (commitPayload q (s.get (VSY_GROUP_EPOCH c)) s.chipId (s.ownRank c)) }

/-- Rounds of a pass of a graph (R298). -/
def State.commitRounds (s : State) (g : Nat) : Nat := ceilLog2 (s.survivors (s.get (GLB_STEP_CFG_GROUP g))).length

/-- Send the cell of a pass's current round, when it has that round. -/
def sendRound (p : CommitPass) : Act := .ask fun s =>
  .when (p.round < s.commitRounds p.graph) (
    match s.commitCell p with
    | some c => originate none [c]
    | none => .skip)

/-- The lesser and the greater of two counts (R27, R298). -/
def seqMin (a b : Nat) : Nat := if seqDiff b a < 0 then b else a
def seqMax (a b : Nat) : Nat := if seqDiff b a > 0 then b else a

/-- Merge a received cell into a pass (R298). -/
def mergeCell (p : CommitPass) (h : Nat) : CommitPass :=
  let b := cpBits h
  let or8 := (p.bits ||| b) % 256
  let diff (i : Nat) (own got : Nat) : Nat := b2n (bitAt p.bits i || bitAt b i || decide (own ≠ got)) <<< i
  { p with
    bits := bits or8 0 4 + diff 4 p.step (cpStep h) + diff 5 p.sig (cpSig h) + (bits p.bits 6 1) <<< 6 + (bits or8 7 1) <<< 7,
    cmin := seqMin p.cmin (cpMin h), cmax := seqMax p.cmax (cpMax h), round := p.round + 1 }

/-- The pass of a graph in progress. -/
def State.passOf (s : State) (g : Nat) : Option CommitPass := s.passes.find? fun p => p.graph = g

/-- Put a pass in place of its graph's. -/
def putPass (p : CommitPass) : Act := .ask fun s => .upd (.passes ((s.passes.filter fun q => q.graph ≠ p.graph) ++ [p]))

/-- End the pass of a graph. -/
def dropPass (g : Nat) : Act := .ask fun s => .upd (.passes (s.passes.filter fun q => q.graph ≠ g))

/-- Begin a pass: its round 0 cell leaves. -/
def beginPass (p : CommitPass) : Act := .seq (putPass p) (sendRound p)

/-! Rewinds (R484, R485). -/

/-- Cancel every instance of a graph's descriptors: waiting messages and WORK are discarded, no milestone changes (R307, R484). -/
def cancelInsts (g : Nat) : Act := .ask fun s =>
  let ds := s.graphDescs g
  let mine (t : Nat) : Bool := ds.contains t
  .all [
    .each (s.waitMsgs.filter fun m => mine (m.stream.toNat % 4096)) releaseMsg,
    .ask fun s' => .upd (.waitMsgs (s'.waitMsgs.filter fun m => !mine (m.stream.toNat % 4096))),
    .upd (.vsyCells (s.vsyCells.filter fun c => !mine (c.stream.toNat % 4096))),
    .upd (.insts (s.insts.filter fun x => !mine x.tag)),
    .upd (.exacts (s.exacts.filter fun e => !mine e.tag)),
    .upd (.earlyAborts (s.earlyAborts.filter fun a => !mine a.1)),
    .each ds fun t => .set (VSY_DESC_STATE t) 0]

/-- Return the stream contexts of a graph to its mark (R484). -/
def rewindStream (m : Nat × Nat × Nat × Nat) : Act := .ask fun s =>
  let n := m.1
  .all [
    .upd (.slots (s.slots.filter fun x => x.stream ≠ n)),
    .set (STR_NEXT_SEQ n) m.2.1, .set (STR_TILES_DONE n) m.2.2.1, .put .rxSeq n m.2.2.2,
    .put .begun n m.2.2.1, .put .consumedSince n m.2.2.1, .put .tilesSince n (seqFwd m.2.2.1 (s.rd .activeBase n)),
    .when (s.get (STR_REMOTE n) = 0 || s.get (STR_SIDE n) = 0) (.set (STR_CREDITS n) (s.get (STR_CREDIT_MAX n))),
    .set (STR_LOST n) 0, .set (STR_STALLED n) 0, .set (STR_SIG_MISMATCH n) 0, .set (STR_ABORTED n) 0, .set (STR_BAD_HEADER n) 0]

/-- Firings of a graph that a switch left part-way end (R307, R485). -/
def dropFirings (g : Nat) : Act := .ask fun s =>
  .all [
    .upd (.vecs (s.vecs.filter fun v => v.graph ≠ g)),
    .each (s.desks.filter fun d => deskGraph d.alt.op = g) (fun d => .set (CLU_DESK_STATE_RUN d.cluster.val) 0),
    .upd (.desks (s.desks.filter fun d => deskGraph d.alt.op ≠ g)),
    .each ((List.range 36).flatMap fun c => [8 * c + 4, 8 * c + 7]) stnRefresh, idleRefresh g]

/-- Return a graph to its attempt mark (R484). -/
def rewindNow (g : Nat) : Act := .ask fun s =>
  .all [
    dropFirings g, cancelInsts g,
    (match s.marks.find? fun m => m.graph = g with
    | none => .skip
    | some m => .all [
        .each m.descs (fun d => .set (VSY_DESC_INST d.1) d.2),
        .each m.streams rewindStream,
        .each m.mls (fun y => .all [.set (MLS_ENTRY_COUNT y.1) y.2.1, .set (MLS_ENTRY_TARGET y.1) y.2.2, .set (MLS_STATUS_CODE y.1) 0,
          mlsRefresh y.1]),
        .each m.steps (fun p => clearLeft p.1),
        .each m.steps (fun p => setStepIdx p.1 p.2.1 p.2.2)]),
    .set (GLB_STEP_STATE_NEXT_DIRTY g) 0, .set (GLB_STEP_FLAGS_LOCAL g) 0, .set (GLB_STEP_FLAGS_SRC g) 0, clearOrdinals g,
    .put .commitDue g 0, .put .draining g 0,
    .modify CNT_RECOV_STATUS_REWINDS (· + 1),
    .ask fun t => .set CNT_RECOV_STATUS_BUSY (b2n ((List.range 8).any fun h => t.rd .draining h ≠ 0))]

/-- Begin a drain: 1 for host software, 2 for a detour switch (R484, R485). -/
def beginDrain (g kind : Nat) : Act := .seq (.put .draining g kind) (.set CNT_RECOV_STATUS_BUSY 1)

/-- A REWIND write (R485); an outcome of the graph that is applied in the same cycle makes it ineligible (R488). -/
def rewindRequest (g : Nat) (outcome : Bool) : Act := .ask fun s =>
  if s.get (GLB_STEP_STATE_HALTED g) = 1 && s.get (GLB_STEP_STATE_IDLE g) = 1 && s.get (GLB_STEP_CFG_ENABLE g) = 1 &&
      s.get CNT_RECOV_STATUS_BUSY = 0 && !outcome then beginDrain g 1
  else .set CNT_RECOV_STATUS_REFUSED 1

/-! Completing a pass (R300, R308). -/

/-- Resolve a completed DETOUR pass (R308). -/
def resolveDetour (p : CommitPass) : Act := .ask fun s =>
  let g := p.graph
  let gap := seqDiff p.cmax p.cmin
  let own := s.get (GLB_STEP_CSEQ_CSEQ g)
  let src := s.get (GLB_STEP_FLAGS_LAST_SRC g)
  .all [
    dropPass g,
    if bitAt p.bits 7 || gap > 1 then applyOutcome g outHalt false haltOutcome src
    else
      .seq
        (.when (gap = 1 && own = p.cmin) (.seq (applyOutcome g (s.rd .aOut g) false haltOutcome src) (.set (GLB_STEP_CSEQ_CSEQ g) (own + 1))))
        (applyOutcome g outRerun true haltOutcome src),
    clearAttempt g, .put .aDone g 0, .set (GLB_STEP_STATE_IN_COMMIT g) 0, mlsAdd (s.get (GLB_STEP_GROUP_DONE_MLS g)) 1 none]

/-- Act on a pass whose rounds are complete (R300, R308): pass A fixes the outcome and begins pass B, pass B applies it, and a DETOUR
pass begins the rewind that its resolution waits for. -/
def completePass (p : CommitPass) : Act := .ask fun s =>
  let g := p.graph
  if p.pass = passA then
    let differs := bitAt p.bits 4 || bitAt p.bits 5
    let cls := bits p.bits 0 4 ||| (if differs then 8 else 0)
    .all [
      .when differs (raiseSource g 11),
      .put .aDone g 1, .put .aOut g (s.outcomeOf g cls), scaleUpdates g,
      beginPass { p with pass := passB, round := 0, bits := cls }]
  else if p.pass = passB then
    .all [
      dropPass g, applyOutcome g (s.rd .aOut g) false haltOutcome (s.get (GLB_STEP_FLAGS_SRC g)), .modify (GLB_STEP_CSEQ_CSEQ g) (· + 1), finishAttempt g (bits p.bits 0 4)]
  else .when (s.rd .draining g = 0) (beginDrain g 2)

/-- The waiting cell that a pass's current round waits for. -/
def State.roundCell (s : State) (p : CommitPass) : Option Cell :=
  let c := s.get (GLB_STEP_CFG_GROUP p.graph)
  match s.survivorAt c true (2 ^ p.round) with
  | none => none
  | some r => s.commitCells.find? fun x =>
      let h := x.payload.toNat
      x.stream.toNat % 8 = p.graph && cpPass h = p.pass && cpRound h = p.round && cpRank h = r &&
      cpEpoch h = s.get (VSY_GROUP_EPOCH c)

/-- Run a graph's pass as far as the cells that have come allow. -/
def passLoop (g : Nat) : Nat → Act
  | 0 => .skip
  | n + 1 => .ask fun s =>
    match s.passOf g with
    | none => .skip
    | some p =>
      if s.commitRounds g ≤ p.round then .seq (completePass p) (.when (p.pass = passA) (passLoop g n))
      else
        match s.roundCell p with
        | none => .skip
        | some c =>
          let q := mergeCell p c.payload.toNat
          .all [.upd (.commitCells (s.commitCells.erase c)), putPass q, sendRound q, passLoop g n]

/-- Enough passes of the loop for two passes of any group. -/
def runPass (g : Nat) : Act := passLoop g 80

/-! Attempts (R178, R181, R506). -/

/-- Start a commit attempt. -/
def startCommit (g : Nat) : Act := .ask fun s =>
  .all [
    .put .commitDue g 0, .set (GLB_STEP_STATE_IN_COMMIT g) 1,
    .when (s.get (MLS_STATUS_CODE (s.get (GLB_STEP_GROUP_COMMIT_MLS g))) ≠ 0) (raiseSource g 10),
    .ask fun t => beginPass ⟨g, passA, 0, t.get (GLB_STEP_FLAGS_LOCAL g), 0, t.stepNum g, t.commitSig g, 0, 0⟩,
    runPass g]

/-- COMMIT_ATTEMPT: a rise of COMMIT_MLS starts an attempt, unless the graph is halted (R506). -/
def commitAttempt (g : Nat) : Act := .ask fun s =>
  .when (s.rd .commitDue g = 1 && s.takesPart g && s.get (GLB_STEP_CFG_ENABLE g) = 1 && s.get (GLB_STEP_STATE_HALTED g) = 0 &&
    s.get (GLB_STEP_STATE_IN_COMMIT g) = 0) (startCommit g)

/-- RESUME (R181, R506). -/
def resume (g : Nat) : Act := .ask fun s =>
  .all [
    .set (GLB_STEP_STATE_HALTED g) 0,
    .when (s.get (GLB_STEP_STATE_HALTED g) = 1 && s.rd .commitDue g = 1)
      (if s.get (MLS_STATUS_REACHED (s.get (GLB_STEP_GROUP_COMMIT_MLS g))) = 1 then commitAttempt g else .put .commitDue g 0)]

/-- COMMIT cells of a graph that wait. -/
def State.waitingCommits (s : State) (g : Nat) : Nat := (s.commitCells.filter fun c => c.stream.toNat % 8 = g).length

/-- A COMMIT cell reaches this chip (R299): one that names no commit is counted and dropped, a stale one too, and one of a newer
epoch waits while fewer than 64 of its graph wait. A chip that has withdrawn from the graph takes none (R305). -/
def commitCellRx (c : Cell) : Act := .ask fun s =>
  let h := c.payload.toNat
  let g := c.stream.toNat % 8
  let d := epochDiff (cpEpoch h) (s.get (VSY_GROUP_EPOCH (s.get (GLB_STEP_CFG_GROUP g))))
  if s.get (GLB_STEP_CFG_ENABLE g) = 0 || 8 ≤ c.stream.toNat || cpPass h = 0 || 3 < cpPass h then countVsy 2
  else if !s.takesPart g then .skip
  else if d < 0 then countVsy 1
  else if d > 0 && 64 ≤ s.waitingCommits g then .skip
  else .seq (.upd (.commitCells (s.commitCells ++ [c]))) (runPass g)

/-- The commit watchdog fires (R301): the attempt is abandoned and the graph halts. It holds as every watchdog of the graph does
(R55, R181). -/
def commitWatchdog (g : Nat) : Act := .ask fun s =>
  match s.passOf g with
  | none => .skip
  | some p =>
    .when (s.get VSY_COLL_CFG_COMMIT_WD ≠ 0 && s.get GLB_MODE_ROLE = 1 && !s.held g && s.get PWR_STATE_STATUS_STATE ≠ 1 &&
        p.round < s.commitRounds g) (.all [
      dropPass g, countVsy 3, applyOutcome g outHalt false haltWatchdog (s.get (GLB_STEP_FLAGS_SRC g)), finishAttempt g (bits p.bits 0 4 ||| 8)])

/-- The drain of a rewind ends (R484, R485). -/
def drainEnd (g : Nat) : Act := .ask fun s =>
  let kind := s.rd .draining g
  .when (kind ≠ 0) (.seq (rewindNow g)
    (if kind = 2 then
      match s.passOf g with
      | some p => resolveDetour p
      | none => .skip
    else .set CNT_RECOV_STATUS_DONE 1))

/-! The detour switch (R305–R307). -/

/-- The position of a chip in a group: defined when it lies within every detour level (R305). -/
def State.chipPosition (s : State) (g f : Nat) : Option Nat :=
  let lv := (List.range (s.levels g)).filter fun l => s.get (VSY_GROUP_DLVL g l) = 1
  let at_ (l : Nat) : Nat := axisOf (s.get (VSY_GROUP_AXIS g l)) f
  if !lv.isEmpty && lv.all (fun l => s.get (VSY_GROUP_BASE g l) ≤ at_ l && at_ l ≤ s.get (VSY_GROUP_BASE g l) + s.get (VSY_GROUP_SIZE g l)) then
    some (rankOf (lv.map fun l => s.get (VSY_GROUP_SIZE g l) + 1) (lv.map fun l => at_ l - s.get (VSY_GROUP_BASE g l)))
  else none

/-- The groups of a graph with detours that give a chip a position, with the position. -/
def State.hitGroups (s : State) (g f : Nat) : List (Nat × Nat) :=
  (s.groups.filter fun c => s.get (VSY_GROUP_GRAPH c) = g && s.get (VSY_GROUP_DETOUR_EN c) = 1).filterMap fun c =>
    (s.chipPosition c f).map fun p => (c, p)

/-- Apply the entry of a group and its withdrawn position (R306); a chip that plays the position shows it in its buckets (R339). -/
def applyEntry (c q : Nat) : Act := .ask fun s =>
  let e := s.detours.find? fun d => d.group = c && d.position = q
  .all [
    .put .takeover c (b2n ((e.map (·.takeover)).getD false)),
    .put .norm c ((e.map (·.norm)).getD (s.get (VSY_GROUP_DETOUR_NORM c))),
    .each ((e.map (·.subst)).getD []) (fun p => .put .subst p.1 (p.2 + 1)),
    .ask fun t => .each (t.descs.filter fun d => t.get (VSY_DESC_GROUP d) = c && t.get (VSY_DESC_OP d) = opBucket) fun d =>
      .set (VSY_BKT_STAT_PLAYING d) (b2n (1 < (t.actors c).length))]

/-- Put a group under a detour (R306, R307): the next epoch, the withdrawn position, its entry, and new signatures. -/
def detourGroup (c q : Nat) : Act := .ask fun s =>
  .all [
    .set (VSY_GROUP_EPOCH c) (s.get (VSY_GROUP_EPOCH c) + 1), .set (VSY_GROUP_DETOURED c) 1, .set (VSY_GROUP_WITHDRAWN c) q,
    applyEntry c q,
    .ask fun t => .each (t.descs.filter fun d => t.get (VSY_DESC_GROUP d) = c) fun d => .set (VSY_DESC_SIG d) (t.descSig d)]

/-- After an epoch change: stale COMMIT cells go, waiting ENTER cells are looked at again, waiting messages settle. -/
def epochChanged (g : Nat) : Act := .ask fun s =>
  let e := s.get (VSY_GROUP_EPOCH (s.get (GLB_STEP_CFG_GROUP g)))
  let old (c : Cell) : Bool := c.stream.toNat % 8 = g && epochDiff (cpEpoch c.payload.toNat) e < 0
  let enter (c : Cell) : Bool := bits c.seq.toNat 10 14 = 0x3FFF
  .all [
    .upd (.commitCells (s.commitCells.filter fun c => !old c)),
    countBy (VSY_CNT_COUNT 1) (VSY_CNT_OVF 1) (s.commitCells.filter old).length,
    .upd (.vsyCells (s.vsyCells.filter fun c => !enter c)),
    .each (s.vsyCells.filter enter) enterCellRx,
    settle]

/-- The detour switch of a graph (R307). -/
def detourSwitch (g : Nat) (hits : List (Nat × Nat)) : Act := .ask fun s =>
  .all [
    dropPass g, cancelInsts g, .each hits (fun h => detourGroup h.1 h.2), .set (GLB_STEP_STATE_IN_COMMIT g) 1, epochChanged g,
    .ask fun t =>
      let q := t.get (GLB_STEP_CSEQ_CSEQ g)
      beginPass ⟨g, passDetour, 0, (t.rd .aDone g) <<< 6 + (s.get (GLB_STEP_STATE_HALTED g)) <<< 7, t.rd .aOut g, 0, 0, q, q⟩,
    runPass g]

def execCommitAttempt (g : Graph) (s : State) : Host.Outcome State Fault Refusal := live (commitAttempt g.val) s
def execCommitCell (c : Cell) (s : State) : Host.Outcome State Fault Refusal := live (commitCellRx c) s
def execCommitWatchdogFire (g : Graph) (s : State) : Host.Outcome State Fault Refusal := live (commitWatchdog g.val) s
def execResume (g : Graph) (s : State) : Host.Outcome State Fault Refusal := live (resume g.val) s
def execRewind (g : Graph) (outcome : Bool) (s : State) : Host.Outcome State Fault Refusal := live (rewindRequest g.val outcome) s
def execRewindDrainEnd (g : Graph) (s : State) : Host.Outcome State Fault Refusal := live (drainEnd g.val) s

end Sys2Proof.Machine
end

