-- ==== Sys2Proof/Machine/Line.lean ====
section
/-!
DEFINITION. The line coding of a Dolte link (R245): the bit stream of frames, the scrambler, the RS(544,514) code over GF(2^10), and
the striping of its symbols on eight lanes. Clauses 49 and 91 of IEEE 802.3, which the spec cites and does not copy, give the field
polynomial, the generator's roots and the order of the bits in a symbol (PRESUMED, log entry 136).
-/

namespace Sys2Proof.Machine

/-! The bit stream. -/

/-- The bits of a byte in reverse: on the line its most significant bit is the first (R245). -/
def revByte (b : Byte) : Nat := (List.range 8).foldl (fun n i => n + b2n (bitAt b.toNat (7 - i)) <<< i) 0

/-- The bits of a frame, the first sent lowest, cut in words of 32. -/
def lineWords (frame : List Byte) : List Nat :=
  let n := packFast 8 (frame.map revByte)
  unpack 32 (frame.length / 4) n

/-! The scrambler x^58 + x^39 + 1 of clause 49. -/

/-- Scramble one word of 32 bits: each bit takes the sum of itself and the scrambled bits 39 and 58 places before it. The register
holds the last 58 scrambled bits, the oldest lowest; the result is the register and the word. -/
def scrambleWord (reg w : Nat) : Nat × Nat :=
  let o := (w ^^^ (reg >>> 19) ^^^ reg) % 2 ^ 32
  (reg >>> 32 + o <<< 26, o)

/-- Scramble words in order: the register after them, and their bits as one run of 32 each. -/
def scramble (reg : Nat) (ws : List Nat) : Nat × List Nat :=
  let r := ws.foldl (fun (a : Nat × List Nat) w =>
    let x := scrambleWord a.1 w
    (x.1, x.2 :: a.2)) (reg, [])
  (r.1, r.2.reverse)

/-- Descramble one word: the receiver's register holds the last 58 bits received (R245). -/
def descrambleWord (reg o : Nat) : Nat × Nat := (reg >>> 32 + o <<< 26, (o ^^^ (reg >>> 19) ^^^ reg) % 2 ^ 32)

/-- Bits that wait for a codeword, with further words after them: a number with a 1 above its bits. -/
def addBits (held : Nat) (ws : List Nat) : Nat × Nat :=
  let n := if held = 0 then 0 else held.log2
  (n + 32 * ws.length, held % 2 ^ n + packFast 32 ws <<< n)

/-- Bits of the message of a codeword: 514 symbols of 10. -/
def messageBits : Nat := 5140

/-- Take the messages of whole codewords off the front of the bits that wait: the messages, and what waits still. -/
def fillCodewords (x : Nat × Nat) : List Nat × Nat :=
  let k := x.1 / messageBits
  ((List.range k).map fun i => bits x.2 (messageBits * i) messageBits,
   2 ^ (x.1 - messageBits * k) + x.2 >>> (messageBits * k))

/-! The code RS(544,514) of clause 91. -/

/-- Twice a field element: the field is that of x^10 + x^3 + 1. -/
def gfTwice (a : Nat) : Nat := if a < 512 then 2 * a else (2 * a) ^^^ 0x409

/-- The product of two field elements. -/
def gfMul (a b : Nat) : Nat :=
  ((List.range 10).foldl (fun (x : Nat × Nat) i => (if bitAt b i then x.1 ^^^ x.2 else x.1, gfTwice x.2)) (0, a)).1

/-- α^k, with α the element x. -/
def gfPow : Nat → Nat
  | 0 => 1
  | k + 1 => gfTwice (gfPow k)

/-- A polynomial times x + c: coefficients from the highest power down. -/
def polyTimes (p : List Nat) (c : Nat) : List Nat := List.zipWith (· ^^^ ·) (p ++ [0]) (0 :: p.map (gfMul c))

/-- The generator: the product of x + α^i for i = 0 to 29, without its leading 1. -/
def rsGenerator : List Nat := ((List.range 30).foldl (fun p i => polyTimes p (gfPow i)) [1]).tail

/-- Divide by the generator: one message symbol enters the remainder. -/
def rsShift (rem : List Nat) (m : Nat) : List Nat :=
  let q := m ^^^ rem.headD 0
  List.zipWith (fun r g => r ^^^ gfMul q g) (rem.tail ++ [0]) rsGenerator

/-- The 544 symbols of the codeword of a message, the message first: symbol i holds bits 10i to 10i + 9. -/
def rsCodeword (m : Nat) : List Nat :=
  let msg := unpack 10 514 m
  msg ++ msg.foldl rsShift (List.replicate 30 0)

/-- Lane striping: symbol s goes to lane s mod 8 (R245). -/
def stripe (cw : List Nat) : List (List Nat) :=
  (List.range 8).map fun lane => (List.range (cw.length / 8)).map fun i => (cw[8 * i + lane]?).getD 0

end Sys2Proof.Machine
end

