-- ==== Sys2Proof/Machine/Links.lean ====
section
/-!
DEFINITION. Dolte links (R244–R271): bring-up states and falls, the credit handshake, frames sent and received with replay,
waymarks and link admission, and the coordinate election.
-/

namespace Sys2Proof.Machine

open Reg

/-! States and falls (R248, R250). -/

/-- DOWN_REASON codes (R270). -/
def downLight : Nat := 1
def downReplay : Nat := 2
def downFec : Nat := 3
def downPeer : Nat := 4
def downRetrain : Nat := 5
def downDark : Nat := 6

/-- The laser unit of a link: 0 FA, 1 FB, 2 FC (R8, R497). -/
def unitOf (l : Nat) : Nat := l / 12

/-- The link's transmitter is lit. -/
def State.txLit (s : State) (l : Nat) : Bool := s.get (LNK_CTRL_DARK l) = 0 && bitAt (s.get PWR_LASER_LIT) (unitOf l)

/-- The payload of a LINK_DOWN or QUARANTINE notice (R265). -/
def State.linkNotice (s : State) (code l why : Nat) : Nat :=
  let v := s.get (LNK_PEER_INFO_VALID l) = 1
  code + (s.get LNK_COORD_ACTIVE) <<< 32 + (0x140 + l) <<< 64 + why <<< 128 +
  (if v then s.get (LNK_PEER_SERIAL_SERIAL l) else 0) <<< 160 + (if v then s.get (LNK_PEER_INFO_CLAIM l) else 0) <<< 224

/-- Count an event of a link (R253, R270). -/
def countLink (l i k : Nat) : Act := countBy (LNK_COUNTER_COUNT l i) (LNK_COUNTER_OVF l i) k

/-- Enter a bring-up state. -/
def enterState (l st : Nat) : Act :=
  .all [.set (LNK_STATE_STATE l) st, .set (LNK_STATE_CAUSE l) 0, .put .crSteps l 0, .put .crinitLeft l 0]

/-- Empty a link's transmit side and replay state. -/
def clearTx (l : Nat) : Act := .ask fun s =>
  .all [unqueue l fun _ => true, .upd (.heldFrames (s.heldFrames.filter fun h => h.link ≠ l)),
    .put .replayLeft l 0, .put .replayAseq l 0, .put .replayFails l 0, .put .nakDue l 0, .put .nakHold l 0]

/-- A link in SERVICE_ONLY or UP falls to `st` (R250): cells awaiting acknowledgement are lost, the peer record is cleared and a
LINK_DOWN notice is sent. -/
def fall (l st why : Nat) : Act := .ask fun s =>
  let lost := (s.heldFrames.filter fun h => h.link = l).foldl (fun n h => n + (h.cells.filter fun c => !isPad c).length) 0
  .all [
    countLink l 5 lost, .set (LNK_STATE_DOWN_REASON l) why, notify (s.linkNotice 0x03 l why), clearTx l, enterState l st,
    .set (LNK_PEER_INFO_VALID l) 0, .set (LNK_STATE_PLAN_DIFF l) 0]

/-- Take a link down to `st`: a fall from SERVICE_ONLY or UP, a plain change of state below. -/
def takeDown (l st why : Nat) : Act := .ask fun s =>
  if 5 ≤ s.get (LNK_STATE_STATE l) then fall l st why else enterState l st

/-- Bring-up begins once the link is not held dark, by DARK or by a dark laser unit, and all eight lanes have light (R248, R497). -/
def tryLock (l : Nat) : Act := .ask fun s =>
  .when (s.get (LNK_STATE_STATE l) = 0 && s.txLit l && s.get (LNK_STATE_LIT l) = 0xFF) (enterState l 1)

/-- Start-up stage 7 is done: every lit link has left CREDIT, or retries (R414). A link is lit while all its receive lanes have light and
it is not held dark; it retries once it has counted a retrain. -/
def State.linksUp (s : State) : Bool :=
  (List.range 36).all fun l =>
    s.get (LNK_STATE_LIT l) ≠ 0xFF || !s.txLit l || 5 ≤ s.get (LNK_STATE_STATE l) || s.get (LNK_COUNTER_COUNT l 4) ≠ 0

/-- Stage 7 gives way to stage 8, and to stage 9 at once where discovery is stable (R414). -/
def stageRefresh : Act := .ask fun s =>
  .when (s.get GLB_BOOT_STATUS_STAGE = 7 && s.linksUp) (.set GLB_BOOT_STATUS_STAGE (if s.get LNK_DISC_STABLE = 1 then 9 else 8))

/-- A bring-up stage ends, or runs out of time (R248). -/
def stageDone (l st : Nat) : Act := .ask fun s => .when (s.get (LNK_STATE_STATE l) = st) (enterState l (st + 1))
def stageTimeout (l : Nat) : Act := .ask fun s =>
  .when (1 ≤ s.get (LNK_STATE_STATE l) && s.get (LNK_STATE_STATE l) ≤ 4) (.all [enterState l 1, countLink l 4 1, stageRefresh])

/-- Receive light: the lanes that have it (R248). -/
def lightLost (l lit : Nat) : Act :=
  .all [.set (LNK_STATE_LIT l) lit,
    .ask fun s => .when (s.get (LNK_STATE_LIT l) ≠ 0xFF && s.get (LNK_STATE_STATE l) ≠ 0) (takeDown l 0 downLight), stageRefresh]

/-- A write of DARK (R248, R271). -/
def darkWrite (l on : Nat) : Act := .ask fun s =>
  .all [.set (LNK_CTRL_DARK l) on,
    if on = 1 then .when (s.get (LNK_STATE_STATE l) ≠ 0) (takeDown l 0 downDark) else tryLock l, stageRefresh]

/-- A write of RETRAIN: a dark link has no light to lock to (R250, R271). -/
def retrain (l : Nat) : Act := .ask fun s => .when (s.get (LNK_STATE_STATE l) ≠ 0) (takeDown l 1 downRetrain)

def execLinkLightLost (l : Link) (lit : BitVec 8) (s : State) : Host.Outcome State Fault Refusal :=
  live (lightLost l.val lit.toNat) s
def execLinkLightPresent (l : Link) (s : State) : Host.Outcome State Fault Refusal :=
  live (Act.seq (.set (LNK_STATE_LIT l.val) 0xFF) (tryLock l.val)) s
def execLinkLockDone (l : Link) (s : State) : Host.Outcome State Fault Refusal := live (stageDone l.val 1) s
def execLinkFecDone (l : Link) (s : State) : Host.Outcome State Fault Refusal := live (stageDone l.val 2) s
def execLinkFrameDone (l : Link) (s : State) : Host.Outcome State Fault Refusal := live (stageDone l.val 3) s
def execLinkStageTimeout (l : Link) (s : State) : Host.Outcome State Fault Refusal := live (stageTimeout l.val) s
def execDark (l : Link) (on : Bool) (s : State) : Host.Outcome State Fault Refusal := live (darkWrite l.val (b2n on)) s
def execRetrain (l : Link) (s : State) : Host.Outcome State Fault Refusal := live (retrain l.val) s
def execLinkCounterClear (l : Link) (mask : BitVec 8) (s : State) : Host.Outcome State Fault Refusal :=
  live (Act.each ((List.range 8).filter fun i => bitAt mask.toNat i) fun i =>
    countClear (LNK_COUNTER_COUNT l.val i) (LNK_COUNTER_OVF l.val i)) s

/-! The credit handshake (R249). -/

/-- The link's receive buffers still hold a cell that arrived on it: one not looked up, a copy that waits, or one queued for a link
and not yet placed (R226, R249). -/
def State.holdsFrom (s : State) (l : Nat) : Bool :=
  (s.rxBuf.any fun r => r.link = l) || (s.copies.any fun c => c.src = some l) || s.txq.any fun t => t.src = some l

/-- Step 2 of the handshake. -/
def creditInit (l : Nat) : Act :=
  .all [
    .each (List.range 8) (fun v =>
      .all [.put .txCred (8 * l + v) 256, .put .lastCr (8 * l + v) 0, .put .rxRel (8 * l + v) 0]),
    .put .fseqNext l 0, .put .fexpect l 0, .put .crinitLeft l 4, .put .crSteps l 1]

/-- The handshake completes: the link enters SERVICE_ONLY with CAUSE PENDING, and the round trip measured is reported (R247,
R249). -/
def creditDone (l ns : Nat) : Act := .ask fun s =>
  .when (s.get (LNK_STATE_STATE l) = 4 && s.rd .crSteps l = 7)
    (.all [enterState l 5, .put .wmSince l 0, .set (LNK_RTT_NS l) ns, .set (LNK_RTT_VALID l) 1, stageRefresh])

def execCreditHandshake (l : Link) (ns : BitVec 16) (s : State) : Host.Outcome State Fault Refusal :=
  live (creditDone l.val ns.toNat) s

/-! Sending frames (R223–R227, R233, R251, R255). -/

/-- Held frames of a link, oldest first. -/
def State.heldOf (s : State) (l : Nat) : List HeldFrame := s.heldFrames.filter fun h => h.link = l

/-- A queued cell may be placed in a frame now: SERVICE_ONLY places waymarks alone, a disabled link places no data cell, and a
counter at 0 stops its VC (R225, R255). -/
def State.placeable (s : State) (t : TxCell) : Bool :=
  let st := s.get (LNK_STATE_STATE t.link)
  let v := t.cell.vc.toNat
  ((st = 6 && (v = 0 || s.get (STN_CTRL_ENABLE (0x140 + t.link)) = 1)) || (st = 5 && t.cell.kind = 8#5)) &&
  0 < s.rd .txCred (8 * t.link + v)

/-- The input of a queued cell: its receiving link, or 36 for the chip's own egress (R233). -/
def inputOf (t : TxCell) : Nat := t.src.getD 36

/-- The cell for the next frame position (R233): VC0 first, then data VCs round robin, and inputs round robin within a VC. -/
def State.pickTx (s : State) (l : Nat) : Option TxCell :=
  let q := s.txq.filter fun t => t.link = l && s.placeable t
  (0 :: (List.range 7).map fun i => (s.rd .rrVc l + i) % 7 + 1).findSome? fun v =>
    ((List.range 37).map fun i => (s.rd .rrIn (8 * l + v) + i) % 37).findSome? fun k =>
      q.find? fun t => t.cell.vc.toNat = v && inputOf t = k

/-- Place a queued cell in a frame: its VC's credit falls, and its buffer releases it (R225, R226). -/
def place (t : TxCell) : Act := .ask fun s =>
  let l := t.link
  let v := t.cell.vc.toNat
  .all [.upd (.txq (s.txq.erase t)), .put .txCred (8 * l + v) (s.rd .txCred (8 * l + v) - 1),
    .when (v ≠ 0) (.put .rrVc l v), .put .rrIn (8 * l + v) (inputOf t + 1),
    release t.src t.id t.orig.vc.toNat]

/-- Fill up to `n` frame positions, then go on with the cells placed. -/
def fillFrame (l : Nat) : Nat → List Cell → (List Cell → Act) → Act
  | 0, acc, k => k acc
  | n + 1, acc, k => .ask fun s =>
    match s.pickTx l with
    | none => k acc
    | some t => .seq (place t) (fillFrame l n (acc ++ [t.cell]) k)

/-- The release counts CR0–CR7 of a link (R224). -/
def State.crs (s : State) (l : Nat) : List Nat := (List.range 8).map fun v => s.rd .rxRel (8 * l + v)

/-- A frame leaves on the fibre (R223): scrambled, and in the codewords that its bits complete (R245). -/
def sendFrame (l : Nat) (cells : List Cell) (t : Trailer) : Act := .ask fun s =>
  let f := frameBytes (cells ++ List.replicate (16 - cells.length) padCell) t
  let x := scramble (s.rd .scram l) (lineWords f)
  let y := fillCodewords (addBits (s.rd .lineBits l) x.2)
  .all [.upd (.wire (s.wire ++ [(l, f)])), .put .scram l x.1, .put .lineBits l y.2,
    .upd (.fibre (s.fibre ++ y.1.map fun m => (l, stripe (rsCodeword m))))]

/-- A trailer with this end's acknowledgement, NAK and releases (R224, R252). -/
def State.trailer (s : State) (l fseq : Nat) (replay idle crinit : Bool) : Trailer :=
  ⟨fseq % 4096, (s.rd .fexpect l + 4095) % 4096, s.rd .nakDue l = 1, replay, idle, crinit, s.crs l⟩

/-- The cells of a held frame after parity errors of the replay buffer: a header error (true) drops the cell, another poisons it
(R241). -/
def struckCells (struck : List (Fin 16 × Bool)) (cells : List Cell) : List Cell :=
  cells.zipIdx.map fun x =>
    if isPad x.1 then x.1
    else if struck.contains (Fin.ofNat 16 x.2, true) then padCell
    else if struck.contains (Fin.ofNat 16 x.2, false) then { x.1 with poison := true }
    else x.1

/-- A held frame is sent again; parity errors that struck its cells in the replay buffer are counted (R241, R251). -/
def resend (l : Nat) (h : HeldFrame) (struck : List (Fin 16 × Bool)) : Act := .ask fun s =>
  let h' := { h with cells := struckCells struck h.cells }
  let n := ((h.cells.zipIdx.filter fun x => !isPad x.1 && struck.any fun k => k.1.val = x.2).length)
  .all [sendFrame l h'.cells (s.trailer l h.fseq true false false), .put .nakDue l 0, .put .replayLeft l (s.rd .replayLeft l - 1),
    .upd (.heldFrames (s.heldFrames.map fun k => if k = h then h' else k)),
    countBy (LNK_RT_COUNTER_COUNT cntParity) (LNK_RT_COUNTER_OVF cntParity) n]

/-- A link sends its next frame (R223, R233, R249, R251). `struck`: positions of a replayed frame that parity errors of the replay
buffer struck. -/
def frameTx (l : Nat) (struck : List (Fin 16 × Bool)) : Act := .ask fun s =>
  let st := s.get (LNK_STATE_STATE l)
  let last := s.rd .fseqNext l + 4095
  if !s.txLit l then .skip
  else if st < 4 || (st = 4 && s.rd .crSteps l = 0) then sendFrame l [] ⟨0xFFF, 0xFFF, false, false, true, true, List.replicate 8 0⟩
  else if st = 4 then
    if 0 < s.rd .crinitLeft l then
      .seq (sendFrame l [] (s.trailer l last false true true)) (.put .crinitLeft l (s.rd .crinitLeft l - 1))
    else .all [sendFrame l [] (s.trailer l last false true false), .put .nakDue l 0, .put .crSteps l (s.rd .crSteps l ||| 2)]
  else if 0 < s.rd .replayLeft l then
    let held := s.heldOf l
    match held[held.length - s.rd .replayLeft l]? with
    | some h => resend l h struck
    | none => .put .replayLeft l 0
  else if 32 ≤ (s.heldOf l).length then .seq (sendFrame l [] (s.trailer l last false true false)) (.put .nakDue l 0)
  else fillFrame l 16 [] fun cells => .ask fun s' =>
    if cells.isEmpty then .seq (sendFrame l [] (s'.trailer l last false true false)) (.put .nakDue l 0)
    else
      .all [
        sendFrame l cells (s'.trailer l (s'.rd .fseqNext l) false false false), .put .nakDue l 0,
        .upd (.heldFrames (s'.heldFrames ++ [⟨l, s'.rd .fseqNext l, cells ++ List.replicate (16 - cells.length) padCell⟩])),
        .put .fseqNext l ((s'.rd .fseqNext l + 1) % 4096)]

def execFrameTx (l : Link) (struck : List (Fin 16 × Bool)) (s : State) : Host.Outcome State Fault Refusal :=
  live (frameTx l.val struck) s

/-! Replay (R251–R254). -/

/-- Start a replay of the last `n` held frames, and count it; once eight in a row have brought no acknowledgement of the oldest held
frame, the link falls instead (R251, R253, R254). -/
def startReplay (l n aseq : Nat) : Act := .ask fun s =>
  .when (0 < n) (
    if 8 ≤ s.rd .replayFails l then fall l 1 downReplay
    else .all [countLink l 3 1, .put .replayFails l (s.rd .replayFails l + 1), .put .replayLeft l n, .put .replayAseq l aseq])

/-- How many held frames a trailer acknowledges: those up to its ASEQ within the 32-frame window (R251). -/
def State.acked (s : State) (l aseq : Nat) : Nat :=
  match s.heldOf l with
  | [] => 0
  | h :: t =>
    let k := (aseq + 4096 + 1 - h.fseq) % 4096
    if k ≤ t.length + 1 then k else 0

/-- Act on a trailer for acknowledgements, NAK and credits (R225, R251, R252). -/
def actTrailer (l : Nat) (t : Trailer) : Act := .ask fun s =>
  let k := s.acked l t.aseq
  let rest := (s.heldOf l).drop k
  .all [
    .each (List.range 8) (fun v =>
      let i := 8 * l + v
      let cr := (t.cr[v]?).getD 0
      .seq (.put .txCred i (s.rd .txCred i + (cr + 256 - s.rd .lastCr i) % 256)) (.put .lastCr i cr)),
    .when (0 < k) (.all [
      .upd (.heldFrames ((s.heldFrames.filter fun h => h.link ≠ l) ++ rest)), .put .replayFails l 0,
      .put .replayLeft l (min (s.rd .replayLeft l) rest.length)]),
    .when (t.nak && !(0 < s.rd .replayLeft l && s.rd .replayAseq l = t.aseq)) (startReplay l rest.length t.aseq)]

/-- The oldest held frame has stayed unacknowledged for 2 µs (R251). -/
def replayTimeout (l : Nat) : Act := .ask fun s =>
  .when (5 ≤ s.get (LNK_STATE_STATE l)) (
    match s.heldOf l with
    | [] => .skip
    | h :: t => startReplay l (t.length + 1) ((h.fseq + 4095) % 4096))

/-- No replayed frame has come within 2 µs of a NAK: it is sent again (R252). -/
def nakRetry (l : Nat) : Act := .ask fun s => .when (s.rd .nakHold l = 1) (.put .nakDue l 1)

def execReplayTimeout (l : Link) (s : State) : Host.Outcome State Fault Refusal := live (replayTimeout l.val) s
def execNakRetryTimeout (l : Link) (s : State) : Host.Outcome State Fault Refusal := live (nakRetry l.val) s

/-! Receiving frames (R252, R255). -/

/-- The cells of an accepted held frame enter the receive buffers; in CREDIT and SERVICE_ONLY all but waymarks are dropped,
counted and released (R252, R255). -/
def takeCells (l : Nat) : List Cell → Act
  | [] => .skip
  | c :: t => .seq
      (if isPad c then .skip
      else .ask fun s =>
        if s.get (LNK_STATE_STATE l) = 6 || c.kind = 8#5 then
          .seq (.upd (.rxBuf (s.rxBuf ++ [⟨s.cellIds, l, c⟩]))) (.upd (.cellIds (s.cellIds + 1)))
        else
          .seq (countLink l 6 1) (.put .rxRel (8 * l + c.vc.toNat) ((s.rd .rxRel (8 * l + c.vc.toNat) + 1) % 256)))
      (takeCells l t)

/-- Judge a frame from step 2 of the handshake on (R252): `intact` when its trailer passes, no byte comes from an uncorrectable
codeword and every cell check value holds. -/
def judgeFrame (l : Nat) (cells : List Cell) (t : Trailer) (intact : Bool) : Act := .ask fun s =>
  let exp := s.rd .fexpect l
  let behind := (exp + 4096 - t.fseq) % 4096
  if intact && (t.crinit || t.idle) then .skip
  else if intact && t.fseq = exp then
    if s.rd .nakHold l = 1 && !t.replay then .skip
    else .all [takeCells l cells, .put .fexpect l ((exp + 1) % 4096), .put .nakHold l 0]
  else if intact && 1 ≤ behind && behind ≤ 32 then .skip
  else .all [countLink l 2 1, .when (s.rd .nakHold l = 0) (.put .nakDue l 1), .put .nakHold l 1]

/-- A frame arrives (R249, R250, R252, R255). `bad`: some byte comes from an uncorrectable codeword; `corr` and `uncorr`: symbols
corrected and codewords uncorrectable; `lossy`: eight consecutive codewords were uncorrectable. -/
def frameRx (l : Nat) (frame : List Byte) (bad : Bool) (corr uncorr : Nat) (lossy : Bool) : Act := .ask fun s =>
  let (t, tcrc) := frameTrailer frame
  let cells := frameCells frame
  let intact := tcrc && !bad && cells.all fun c => isPad c.1 || c.2
  let st := s.get (LNK_STATE_STATE l)
  let steps := s.rd .crSteps l
  .all [
    countLink l 0 corr, countLink l 1 uncorr,
    if st < 4 then .skip
    else if 5 ≤ st && lossy then fall l 1 downFec
    else if 5 ≤ st && tcrc && t.crinit then fall l 1 downPeer
    else if st = 4 && steps = 0 then
      .when (tcrc && t.crinit && !s.holdsFrom l) (creditInit l)
    else
      .all [
        .when (st = 4 && tcrc && !t.crinit) (.put .crSteps l (steps ||| 4)),
        .when (tcrc && !t.crinit) (.seq (actTrailer l t) retryCopies),
        .ask fun s' => .when (4 ≤ s'.get (LNK_STATE_STATE l)) (judgeFrame l (cells.map (·.1)) t intact)]]

def execFrameRx (l : Link) (frame : List Byte) (bad : Bool) (corr uncorr : Nat) (lossy : Bool) (s : State) :
    Host.Outcome State Fault Refusal := live (frameRx l.val frame bad corr uncorr lossy) s

/-! Waymarks (R261–R263). -/

/-- PLAN_HASH of the active plan, zeros without one (R261). -/
def State.planHash (s : State) : Nat :=
  if s.get GLB_PLAN_STATUS_ACTIVE = 1 then pack 32 ((List.range 8).map fun k => s.get (GLB_PLAN_HASH_HASH k)) else 0

/-- The payload of the waymark that link `l` sends (R261). -/
def State.waymark (s : State) (l : Nat) : Nat :=
  let plan := s.get GLB_PLAN_STATUS_ACTIVE
  let xyz := s.get LNK_DISC_COORD
  s.get LNK_SERIAL_SERIAL + (s.get LNK_DISC_ORIGIN_SERIAL) <<< 64 + (bits xyz 16 4) <<< 128 + (bits xyz 8 8) <<< 136 +
  (bits xyz 0 8) <<< 144 + (s.get LNK_DISC_PRIO + plan * 8) <<< 152 + (s.get LNK_DISC_HOPS) <<< 160 + l <<< 176 +
  (s.get (LNK_ROLE_ROLE l)) <<< 184 + 0x10 <<< 192 + (s.get SEC_FW_INFO_RUN_VERSION) <<< 208 +
  (if plan = 1 then s.get LNK_COORD_ACTIVE else xyz) <<< 224 + s.planHash <<< 256

/-- A link sends a waymark (R262). -/
def waymarkSend (l : Nat) : Act := .ask fun s =>
  let c : Cell := {
    dest := BitVec.ofNat 24 (bits (s.waymark l) 224 24), endpt := 0x1F0#9, stream := 0#18, seq := 0#24, vc := 0#3,
    kind := 8#5, poison := false, sample := false, mcast := false, last := true, hops := 63#6, reserved := 0#3,
    payload := BitVec.ofNat 512 (s.waymark l) }
  .when (5 ≤ s.get (LNK_STATE_STATE l)) (.upd (.txq (s.txq ++ [⟨0, l, none, none, c, c⟩])))

/-- Waymark fields (R261). -/
def wmSerial (w : Nat) : Nat := bits w 0 64
def wmOrigin (w : Nat) : Nat := bits w 64 64
def wmDX (w : Nat) : Nat := bits w 128 4
def wmDY (w : Nat) : Nat := bits w 136 8
def wmDZ (w : Nat) : Nat := bits w 144 8
def wmPrio (w : Nat) : Nat := bits w 152 3
def wmHops (w : Nat) : Nat := bits w 160 10
def wmLink (w : Nat) : Nat := bits w 176 8
def wmRole (w : Nat) : Nat := bits w 184 8
def wmProto (w : Nat) : Nat := bits w 192 8
def wmFw (w : Nat) : Nat := bits w 208 16
def wmClaim (w : Nat) : Nat := bits w 224 24
def wmHash (w : Nat) : Nat := bits w 256 256

/-- Whether a waymark is malformed: LINK > 35, a reserved ROLE, or reserved bits (R263). -/
def wmBad (w : Nat) : Bool :=
  35 < wmLink w || 8 < wmRole w || bits w 132 4 ≠ 0 || bits w 156 4 ≠ 0 || bits w 170 6 ≠ 0 || bits w 200 8 ≠ 0 || bits w 248 8 ≠ 0

/-- Two roles are compatible (R264). -/
def compatible (a b : Nat) : Bool :=
  (a = 1 && b = 1) || (a = 8 && b = 8) || (2 ≤ a && a ≤ 7 && 2 ≤ b && b ≤ 7 && a / 2 = b / 2 && a ≠ b)

/-- The state and cause that link admission gives: 6 UP, 5 SERVICE_ONLY (R264). -/
def State.admission (s : State) (l : Nat) : Nat × Nat :=
  let w := s.rd .peerWm l
  let role := s.get (LNK_ROLE_ROLE l)
  if s.rd .wmSince l = 0 then (5, 0)
  else if bits (wmProto w) 4 4 ≠ 1 then (5, 4)
  else if wmSerial w = s.get LNK_SERIAL_SERIAL then (5, 3)
  else if role = 0 || wmRole w = 0 then (5, 1)
  else if !compatible role (wmRole w) then (if wmHash w = s.planHash then (5, 2) else (5, 0))
  else if s.get GLB_PLAN_STATUS_ACTIVE = 1 && s.get (LNK_ROLE_EXP_VALID l) = 1 &&
      (wmSerial w ≠ s.get (LNK_EXP_SERIAL_SERIAL l) || wmLink w ≠ s.get (LNK_ROLE_EXP_LINK l)) then (5, 5)
  else (6, 0)

/-- PLAN_DIFF of a link: its peer's PLAN_HASH differs from this chip's (R265). -/
def planDiff (l : Nat) : Act := .ask fun s =>
  .set (LNK_STATE_PLAN_DIFF l) (b2n (s.get (LNK_PEER_INFO_VALID l) = 1 && wmHash (s.rd .peerWm l) ≠ s.planHash))

/-- Judge a link's admission, on a valid waymark or a change of its role (R264, R265). -/
def judgeLink (l : Nat) : Act := .ask fun s =>
  let st := s.get (LNK_STATE_STATE l)
  .when (5 ≤ st) (
    let (st', cause) := s.admission l
    let quarantine := 2 ≤ cause && !(st = 5 && s.get (LNK_STATE_CAUSE l) = cause)
    .all [
      .when (st = 6 && st' = 5) (unqueue l fun t => t.cell.kind ≠ 8#5),
      .set (LNK_STATE_STATE l) st', .set (LNK_STATE_CAUSE l) cause,
      planDiff l,
      .when (st' = 6) (.set (LNK_STATE_MINOR l) (min 0 (bits (wmProto (s.rd .peerWm l)) 0 4))),
      .when quarantine (notify (s.linkNotice 0x04 l cause))])

/-- The management endpoint consumes the oldest waymark in a link's receive buffer (R263), unless R213 drops it. -/
def waymarkRx (l : Nat) : Act := .ask fun s =>
  match s.rxBuf.find? fun r => r.link = l && r.cell.kind = 8#5 with
  | none => .skip
  | some r =>
    let w := r.cell.payload.toNat
    if badKind r.cell then .seq (takeCell (some l) r.id r.cell) (countDrop cntBadKind (some l) r.cell)
    else .seq (takeCell (some l) r.id r.cell)
      (if wmBad w then countLink l 7 1
      else .all [
        .when (5 ≤ s.get (LNK_STATE_STATE l)) (.put .wmSince l 1),
        .put .peerWm l w, .set (LNK_PEER_SERIAL_SERIAL l) (wmSerial w), .set (LNK_PEER_INFO_LINK l) (wmLink w),
        .set (LNK_PEER_INFO_ROLE l) (wmRole w), .set (LNK_PEER_INFO_PROTO l) (wmProto w), .set (LNK_PEER_INFO_FW l) (wmFw w),
        .set (LNK_PEER_INFO_CLAIM l) (wmClaim w), .set (LNK_PEER_INFO_VALID l) 1, judgeLink l])

def execWaymarkSend (l : Link) (s : State) : Host.Outcome State Fault Refusal := live (waymarkSend l.val) s
def execWaymarkRx (l : Link) (s : State) : Host.Outcome State Fault Refusal := live (waymarkRx l.val) s

/-! Coordinate election (R266–R268). -/

/-- A candidate: the key (PX, PY, PZ, serial), then DX, DY, DZ, HOPS; candidates compare lexicographically (R266). -/
abbrev Candidate := List Nat

/-- Lexicographic order of two candidates of equal length. -/
def candidateLt : Candidate → Candidate → Bool
  | a :: s, b :: t => a < b || (a = b && candidateLt s t)
  | _, _ => false

/-- A link counts for election: state UP (R266). -/
def State.counted (s : State) (l : Nat) : Bool := s.get (LNK_STATE_STATE l) = 6

/-- This chip's priority on an axis: 0 when the axis is open and it has no counted link of role a−, else 1 (R266). -/
def State.prio (s : State) (openBit : Field) (minus : Nat) : Nat :=
  if s.get openBit = 1 && !((List.range 36).any fun l => s.counted l && s.get (LNK_ROLE_ROLE l) = minus) then 0 else 1

/-- The candidate that a counted link carries, if its role carries one (R266). -/
def State.candidate (s : State) (l : Nat) : Option Candidate :=
  let w := s.rd .peerWm l
  let mk (dx dy dz : Nat) : Option Candidate :=
    let p := wmPrio w
    let c := [bits p 0 1, bits p 1 1, bits p 2 1, wmOrigin w, wmDX w + dx, wmDY w + dy, wmDZ w + dz, wmHops w + 1]
    if 15 < wmDX w + dx || 255 < wmDY w + dy || 255 < wmDZ w + dz || 1023 < wmHops w + 1 then none else some c
  match s.get (LNK_ROLE_ROLE l) with
  | 1 => mk 0 0 0
  | 3 => mk 1 0 0
  | 5 => mk 0 1 0
  | 7 => mk 0 0 1
  | _ => none

/-- The elected candidate; `stale` marks links whose peer record is older than 3 ms (R266). -/
def State.elect (s : State) (stale : Nat) : Candidate :=
  let own : Candidate := [s.prio LNK_DISC_CFG_OPEN_X 3, s.prio LNK_DISC_CFG_OPEN_Y 5, s.prio LNK_DISC_CFG_OPEN_Z 7,
    s.get LNK_SERIAL_SERIAL, 0, 0, 0, 0]
  (List.range 36).foldl (fun best l =>
    if s.counted l && s.get (LNK_PEER_INFO_VALID l) = 1 && !bitAt stale l then
      match s.candidate l with
      | some c => if candidateLt c best then c else best
      | none => best
    else best) own

/-- W: how many of the serials of this chip and of its counted W peers lie below its own (R266). -/
def State.wRank (s : State) : Nat :=
  ((((List.range 36).filter fun l => s.counted l && s.get (LNK_ROLE_ROLE l) = 1).map fun l =>
    s.get (LNK_PEER_SERIAL_SERIAL l)).eraseDups.filter fun x => x < s.get LNK_SERIAL_SERIAL).length

/-- DIFF: the discovered coordinate differs from the ID in force; without a plan the ID in force follows discovery (R268,
R270). -/
def coordRefresh : Act := .ask fun s =>
  .seq (.when (s.get LNK_COORD_VALID = 0) (.set LNK_COORD_ACTIVE (s.get LNK_DISC_COORD)))
    (.ask fun t => .set LNK_DISC_DIFF (b2n (t.get LNK_DISC_COORD ≠ t.get LNK_COORD_ACTIVE)))

/-- Desk 0 firmware recomputes the election (R266, R267): any change of coordinate or ORIGIN clears DISC_STABLE. -/
def electionRecompute (stale : Nat) : Act := .ask fun s =>
  let b := s.elect stale
  let at' (i : Nat) : Nat := (b[i]?).getD 0
  let coord := s.wRank % 16 * 2 ^ 20 + at' 4 * 2 ^ 16 + at' 5 * 2 ^ 8 + at' 6
  .all [
    .when (coord ≠ s.get LNK_DISC_COORD || at' 3 ≠ s.get LNK_DISC_ORIGIN_SERIAL) (.set LNK_DISC_STABLE 0),
    .set LNK_DISC_COORD coord, .set LNK_DISC_ORIGIN_SERIAL (at' 3), .set LNK_DISC_PRIO (at' 0 + 2 * at' 1 + 4 * at' 2),
    .set LNK_DISC_HOPS (at' 7), coordRefresh]

def execElectionRecompute (stale : BitVec 36) (s : State) : Host.Outcome State Fault Refusal :=
  live (electionRecompute stale.toNat) s
/-- Discovery has been stable for SETTLE_MS (R267): start-up stage 8 is done, and stage 9 is START_UP (R414). -/
def discSettle : Act := .ask fun s =>
  .all [.set LNK_DISC_STABLE 1, .when (s.get GLB_BOOT_STATUS_STAGE = 8) (.set GLB_BOOT_STATUS_STAGE 9), stageRefresh]

def execDiscSettle (s : State) : Host.Outcome State Fault Refusal := live discSettle s

end Sys2Proof.Machine
end

