-- ==== Sys2Proof/Machine/Fail.lean ====
section
/-!
DEFINITION. Failure of a chip (R303–R305, R309, R240) and the fabric role (R310).
-/

namespace Sys2Proof.Machine

open Reg

/-- A plan is active. -/
def State.planActive (s : State) : Bool := s.get GLB_PLAN_STATUS_ACTIVE = 1

/-- The serial of a chip of the plan. -/
def State.serialOf (s : State) (chip : Nat) : Option Nat := (s.coords.find? fun p => p.2 = chip).map (·.1)

/-- Firmware writes a fence entry: the lowest free one; with none free FULL is set and every graph halts (R240). -/
def fenceChip (f : Nat) : Act := .ask fun s =>
  match (List.range 64).find? fun i => s.get (LNK_FENCE_VALID i) = 0 with
  | some i => fenceWrite i f 1
  | none => .seq (.set LNK_FENCE_STATUS_FULL 1) (.each (List.range 8) fun g => haltFor g haltFenceFull)

/-- The FAIL notice (R237, R304). -/
def State.failNotice (s : State) (f : Nat) : Nat :=
  0x02 + (f % 2 ^ 24) <<< 32 + 0x1F0 <<< 64 + (((s.serialOf f).getD 0) % 2 ^ 64) <<< 160 + (s.chipId % 2 ^ 24) <<< 224 +
  s.activeHash <<< 256

/-- Send a FAIL notice on one UP link to each distinct peer (R304). -/
def floodFail (f : Nat) : Act := .ask fun s =>
  let up := (List.range 36).filter fun l => s.get (LNK_STATE_STATE l) = 6 && s.get (LNK_PEER_INFO_VALID l) = 1
  let first := up.filter fun l => !(up.any fun k => k < l && s.get (LNK_PEER_SERIAL_SERIAL k) = s.get (LNK_PEER_SERIAL_SERIAL l))
  .each first fun l => .ask fun t =>
    let c : Cell := {
      dest := BitVec.ofNat 24 (s.get (LNK_PEER_INFO_CLAIM l)), endpt := 0x1F0#9, stream := 0#18, seq := 0#24, vc := 0#3,
      kind := 9#5, poison := false, sample := false, mcast := false, last := true, hops := 63#6, reserved := 0#3,
      payload := BitVec.ofNat 512 (s.failNotice f) }
    .upd (.txq (t.txq ++ [⟨0, l, none, none, leaving c 0, c⟩]))

/-- What a failure does to one graph: this chip withdraws, the graph halts without cover, it switches to a detour, or nothing
(R305, R309). -/
inductive FailEffect where
  | none
  | withdraw
  /-- NO_COVER in these groups; `own`: the position is this chip's own too. -/
  | noCover (groups : List Nat) (own : Bool)
  | switch (hits : List (Nat × Nat))
  deriving DecidableEq, Repr

/-- The effect of the failure of chip `f` on graph `g`. -/
def State.failEffect (s : State) (g f : Nat) : FailEffect :=
  let c := s.get (GLB_STEP_CFG_GROUP g)
  let hits := s.hitGroups g f
  if s.get (GLB_STEP_CFG_ENABLE g) = 0 || hits.isEmpty then .none
  else
    let p := s.chipPosition c f
    let own : Bool := p = some (s.position c (s.ownDigits c))
    let other := hits.filter fun h => s.get (VSY_GROUP_DETOURED h.1) = 1 && s.get (VSY_GROUP_WITHDRAWN h.1) ≠ h.2
    let fresh := hits.filter fun h => s.get (VSY_GROUP_DETOURED h.1) = 0
    if !other.isEmpty then .noCover (other.map (·.1)) own
    else if own then .withdraw
    else if p = Option.none || fresh.isEmpty || !s.takesPart g then .none
    else .switch fresh

/-- This chip withdraws from a graph: it takes no further part in its collectives and commits, and a commit attempt in progress ends
here (R305). -/
def withdraw (g : Nat) : Act :=
  .all [.put .gone g 1, dropPass g, .set (GLB_STEP_STATE_IN_COMMIT g) 0]

/-- Apply the effect of a failure to a graph. -/
def applyFail (g : Nat) (e : FailEffect) : Act :=
  match e with
  | .none => .skip
  | .withdraw => .seq (withdraw g) (haltFor g haltWithdrawal)
  | .noCover l own => .all [.each l fun c => .set (VSY_GROUP_NO_COVER c) 1, .when own (withdraw g), haltFor g haltNoCover]
  | .switch h => detourSwitch g h

/-- Log a failure in the first free entry of VSY_FAIL_LOG (R313). -/
def logFail (f source : Nat) (switched withdrew : Bool) : Act := .ask fun s =>
  match (List.range 4).find? fun i => s.get (VSY_FAIL_LOG_VALID i) = 0 with
  | none => .skip
  | some i => .all [
      .set (VSY_FAIL_LOG_CHIP i) f, .set (VSY_FAIL_LOG_SOURCE i) source, .set (VSY_FAIL_LOG_SWITCHED i) (b2n switched),
      .set (VSY_FAIL_LOG_WITHDREW i) (b2n withdrew), .set (VSY_FAIL_LOG_VALID i) 1]

/-- The effect is a detour switch; it is a withdrawal. -/
def FailEffect.switches : FailEffect → Bool
  | .switch _ => true
  | _ => false

def FailEffect.withdraws : FailEffect → Bool
  | .withdraw => true
  | .noCover _ own => own
  | _ => false

/-- No fence entry is free (R240). -/
def State.fenceFull (s : State) : Bool := (List.range 64).all fun i => s.get (LNK_FENCE_VALID i) = 1

/-- Record the failure of a chip, the first time under the active plan (R304, R305): an event of class FAIL (R477). -/
def recordFailure (f source : Nat) : Act := .ask fun s =>
  .when (!s.failed.contains f) (
    let es := (List.range 8).map fun g => (g, s.failEffect g f)
    let switched := es.any (·.2.switches)
    let withdrew := es.any (·.2.withdraws)
    .all [
      .upd (.failed (s.failed ++ [f])),
      noteFault 8 0x1F0 f 0 (source + b2n switched <<< 2 + b2n withdrew <<< 3 + b2n s.fenceFull <<< 4),
      fenceChip f, logFail f source switched withdrew, countVsy 4, floodFail f, .each es fun e => applyFail e.1 e.2])

/-- FAIL_HOLD_EXPIRY: every link whose latest waymark named the chip's serial is out of UP (R303). -/
def failHoldExpiry (f : Nat) : Act := .ask fun s =>
  match s.serialOf f with
  | none => .skip
  | some n =>
    let ls := (List.range 36).filter fun l => s.rd .peerWm l ≠ 0 && s.get (LNK_PEER_SERIAL_SERIAL l) = n
    .when (s.get GLB_MODE_ROLE = 1 && s.planActive && !ls.isEmpty && ls.all fun l => s.get (LNK_STATE_STATE l) ≠ 6) (recordFailure f 0)

/-- FAIL_DECLARE: a write of GO in VSY_FAIL_DECLARE (R303, R313). -/
def failDeclare (f : Nat) : Act := .ask fun s =>
  .when (s.get GLB_MODE_ROLE = 1 && s.planActive && (s.serialOf f).isSome) (recordFailure f 2)

/-- FAIL_NOTICE: firmware takes the oldest FAIL notice (R304). Outside SERVICE it is logged and has no other effect. -/
def failNoticeRx : Act := .ask fun s =>
  match s.notices.find? fun n => bits n 0 8 = 0x02 with
  | none => .skip
  | some n =>
    let f := bits n 32 24
    .seq (.upd (.notices (s.notices.erase n)))
      (if s.get GLB_MODE_ROLE ≠ 1 then logFail f 1 false false
      else .when (s.planActive && bits n 256 256 = s.activeHash) (recordFailure f 1))

/-- A write of the fabric role (R310): SERVICE is the last stage of start-up (R414). -/
def roleWrite (r : Nat) : Act := .ask fun s =>
  .seq (.set GLB_MODE_ROLE r) (.when (r = 1 && 9 ≤ s.get GLB_BOOT_STATUS_STAGE) (.set GLB_BOOT_STATUS_STAGE 11))

def execFailHoldExpiry (chip : ChipId) (s : State) : Host.Outcome State Fault Refusal := live (failHoldExpiry chip.toNat) s
def execFailDeclare (chip : ChipId) (s : State) : Host.Outcome State Fault Refusal := live (failDeclare chip.toNat) s
def execFailNotice (s : State) : Host.Outcome State Fault Refusal := live failNoticeRx s
def execFabricRoleWrite (r : BitVec 2) (s : State) : Host.Outcome State Fault Refusal :=
  live (roleWrite r.toNat) s

end Sys2Proof.Machine
end

