-- ==== Sys2Proof/Machine/Deliver.lean ====
section
/-!
DEFINITION. Cells at their destination chip, and the router's two inputs: what each kind of cell does on arrival (R212, R216, R217,
R220, R237, R288–R300, R311), the drain of a rewind (R484), and the CELL_ROUTE and MCAST_CELL commands (R230–R236).
-/

namespace Sys2Proof.Machine

open Reg

/-- The graph whose drain drops an arriving cell (R484): that of the context of a TILE or CREDIT cell, one whose mark holds the
milestone of an MLS_INC cell, or that of the descriptor of a COLL or GRAD cell. -/
def State.drainedBy (s : State) (c : Cell) : Option Nat :=
  let n := c.stream.toNat
  let busy (g : Nat) : Option Nat := if s.rd .draining g ≠ 0 then some g else none
  match c.kind.toNat with
  | 1 => if s.get (STR_VALID n) = 1 then busy (s.get (STR_GRAPH n)) else none
  | 2 => if isVusyn c.endpt.toNat then none
         else if s.get (STR_VALID n) = 1 then busy (s.get (STR_GRAPH n)) else none
  | 3 => (List.range 8).find? fun g => s.rd .draining g ≠ 0 &&
      s.marks.any fun m => m.graph = g && m.mls.any fun y => y.1 = bits c.payload.toNat 0 16
  | 4 | 5 => if s.get (VSY_DESC_VALID (n % 4096)) = 1 then busy (s.descGraph (n % 4096)) else none
  | _ => none

/-- Members that may send messages of one STREAM value and number to a station: one on a ring, in a broadcast, or where the station
does not serve the tag; the other members of a clique stage or of a publication. A data cell does not name its sender (R288). -/
def State.streamSenders (s : State) (stream : Nat) : Nat :=
  let g := s.geo (stream % 4096)
  let l := bits stream 12 2
  if s.get (VSY_DESC_VALID (stream % 4096)) = 0 || g.op = opBroadcast then 1
  else if g.op = opBucket && bitAt stream 14 && s.get (VSY_BUCKET_ALL g.tag) = 0 then max 1 (groupN g.sizes - 1)
  else if s.clique g.group l then max 1 ((g.sizes[l]?).getD 1 - 1)
  else 1

/-- A COLL or GRAD cell reaches a Vusyn station (R290): an ENTER cell acts at once, a cell of a message stands there until its message
is whole. A cell that can be part of no sender's message is dropped as R220 drops it: a duplicate when every sender's cell of its index
stands there, a malformed one when its index is beyond the LAST of every sender, or it is LAST below the highest index of every sender
(log entry 135). -/
def vusynCell (src : Option Nat) (c : Cell) : Act := .ask fun s =>
  let k := s.streamSenders c.stream.toNat
  let j := bits c.seq.toNat 0 10
  let mates := s.vsyCells.filter fun d =>
    d.endpt = c.endpt && d.stream = c.stream && d.kind = c.kind && bits d.seq.toNat 10 14 = bits c.seq.toNat 10 14
  let idx (d : Cell) : Nat := bits d.seq.toNat 0 10
  if c.kind = 4#5 && bits c.seq.toNat 10 14 = 0x3FFF then enterCellRx c
  else if mates.contains c || k ≤ (mates.filter fun d => idx d = j).length then countDrop cntDupCell src c
  else if 512 < j || k ≤ (mates.filter fun d => d.last && idx d < j).length ||
      (c.last && mates.any fun d => j < idx d && k ≤ (mates.filter fun e => idx e = idx d).length) then countDrop cntMalformed src c
  else .upd (.vsyCells (s.vsyCells ++ [c]))

/-- A CREDIT cell reaches this chip: with a Vusyn endpoint it is a collective one (R216, R290). -/
def creditArrives (src : Option Nat) (c : Cell) (parity : Bool) : Act :=
  if isVusyn c.endpt.toNat then collCreditRx c parity else creditCellRx src c parity

/-- What a cell does at its destination chip, by kind (R212). -/
def deliver (src : Option Nat) (c : Cell) (parity : Bool) : Act := .ask fun s =>
  if (s.drainedBy c).isSome then count CNT_DRAIN_DROP_COUNT CNT_DRAIN_DROP_OVF
  else
    match c.kind.toNat with
    | 1 => tileCellRx src c parity
    | 2 => creditArrives src c parity
    | 3 => mlsIncCell c
    | 4 | 5 => vusynCell src c
    | 6 => commitCellRx c
    | 7 => abortCellRx c
    | 9 => notify c.payload.toNat
    | _ => .skip

/-- A cell of one kind reaches its destination chip; one that comes on a link during ACTIVATING is held in the link's receive buffer
(R357). -/
def arrive (k : Nat) (src : Option Link) (c : Cell) (parity : Bool) : Act := .ask fun s =>
  .when (c.kind.toNat = k) (
    match src with
    | some l =>
      if s.get GLB_PLAN_STATUS_LOAD_STATE = 3 then
        .seq (.upd (.rxBuf (s.rxBuf ++ [⟨s.cellIds, l.val, { c with poison := c.poison || parity }⟩]))) (.upd (.cellIds (s.cellIds + 1)))
      else deliver (some l.val) c parity
    | none => deliver none c parity)

def execTileCellRx (src : Option Link) (c : Cell) (parity : Bool) (s : State) : Host.Outcome State Fault Refusal :=
  live (arrive 1 src c parity) s
def execCreditCellRx (src : Option Link) (c : Cell) (parity : Bool) (s : State) : Host.Outcome State Fault Refusal :=
  live (arrive 2 src c parity) s
def execMlsIncCell (src : Option Link) (c : Cell) (s : State) : Host.Outcome State Fault Refusal :=
  live (arrive 3 src c false) s
def execNoticeCell (src : Option Link) (c : Cell) (s : State) : Host.Outcome State Fault Refusal :=
  live (arrive 9 src c false) s

def execCellRoute (src : Option Link) (vc : BitVec 3) (parity : Option Bool) (s : State) : Host.Outcome State Fault Refusal :=
  live (Act.seq retryCopies (withHead (src.map (·.val)) vc.toNat false (routeUnicast deliver (src.map (·.val)) parity))) s
def execMcastCell (src : Option Link) (vc : BitVec 3) (parity : Option Bool) (s : State) : Host.Outcome State Fault Refusal :=
  live (Act.seq retryCopies (withHead (src.map (·.val)) vc.toNat true (routeMcast deliver (src.map (·.val)) parity))) s

end Sys2Proof.Machine
end

