-- ==== Sys2Proof/Machine/Bench.lean ====
section
/-!
DEFINITION. The matrix benches: LOAD and STREAM firings, dot products (R150–R157), checksums (R108–R111), split mode and the
clears of the bench counters (R97–R118).
-/

namespace Sys2Proof.Machine

open Reg

/-! Operation words (R98). -/

def bwKind (w : Nat) : Nat := bits w 0 4
def bwPart (w : Nat) : Nat := bits w 4 2
def bwFmt (w : Nat) : Nat := bits w 6 8
def bwLoadK (w : Nat) : Nat := bits w 14 9
def bwLoadN (w : Nat) : Nat := bits w 23 8
def bwAccBase (w : Nat) : Nat := bits w 14 10
def bwInit (w : Nat) : Nat := bits w 24 2
def bwKeep (w : Nat) : Bool := bitAt w 26
def bwDrain (w : Nat) : Bool := bitAt w 27
def bwM (w : Nat) : Nat := bits w 32 32

/-- Endpoint of bench `b` of cluster `c` (R28). -/
def benchEp (c b : Nat) : Nat := c * 8 + b

/-- Index of a bench part in the banks: 2 × bench + half. -/
def partIx (c b part : Nat) : Nat := 2 * (c * 4 + b) + (if part = 2 then 1 else 0)

/-- The PART of a command for half `half`: 0 in whole mode, 1 or 2 in split mode (R112). A whole bench has no half H. -/
def State.benchPart (s : State) (c b : Nat) (half : Bool) : Option Nat :=
  if s.get (CLU_BENCH_CFG_SPLIT c b) = 1 then some (if half then 2 else 1) else if half then none else some 0

/-! The loaded stationary (R99, R117). -/

def State.loadedK (s : State) (c b part : Nat) : Nat :=
  if part = 2 then s.get (CLU_BENCH_LOADED_H_K c b) else s.get (CLU_BENCH_LOADED_L_K c b)
def State.loadedN (s : State) (c b part : Nat) : Nat :=
  if part = 2 then s.get (CLU_BENCH_LOADED_H_N c b) else s.get (CLU_BENCH_LOADED_L_N c b)
def State.loadedFmt (s : State) (c b part : Nat) : Nat :=
  if part = 2 then s.get (CLU_BENCH_LOADED_H_W_FMT c b) else s.get (CLU_BENCH_LOADED_L_W_FMT c b)
def State.loaded (s : State) (c b part : Nat) : Bool :=
  if part = 2 then s.get (CLU_BENCH_LOADED_H_VALID c b) = 1 else s.get (CLU_BENCH_LOADED_L_VALID c b) = 1

/-- Record what is loaded in a part. -/
def setLoaded (c b part k n fmt : Nat) : Act :=
  if part = 2 then
    .all [.set (CLU_BENCH_LOADED_H_K c b) k, .set (CLU_BENCH_LOADED_H_N c b) n, .set (CLU_BENCH_LOADED_H_W_FMT c b) fmt,
      .set (CLU_BENCH_LOADED_H_VALID c b) 1]
  else
    .all [.set (CLU_BENCH_LOADED_L_K c b) k, .set (CLU_BENCH_LOADED_L_N c b) n, .set (CLU_BENCH_LOADED_L_W_FMT c b) fmt,
      .set (CLU_BENCH_LOADED_L_VALID c b) 1]

/-- Readiness of a bench alternative: R37, and the allowance of the part (R107). A STREAM without streams is not ready while its part has
no loaded stationary with K = 0 (R100). -/
def State.benchReady (s : State) (c b part : Nat) (a : Alt) : Bool :=
  s.altReady a && s.altFunded .bench (benchEp c b) part a &&
    (bwKind a.op ≠ 2 || a.streams ≠ [] || (s.loaded c b part && s.loadedK c b part = 0))

/-! Charges (R40, R107). -/

/-- The firing of a part that was admitted last, as its length and its graph, 8 where it has none. -/
def fireCode (len g : Nat) : Nat := 16 * len + g

/-- Charge a firing of `len` CCLK cycles from its admission and the `stall` cycles in which an accumulator read waited inside it (R40,
R102). The `overlap` cycles of the part's preceding firing that fall after this one's admission are charged once, to this one (R107): they
go back to the graph that was charged them, unless a period has begun since (DESIGN CHOICE, log entry 32). -/
def chargeBench (c b part : Nat) (a : Alt) (len overlap stall : Nat) : Act := .ask fun s =>
  let ep := benchEp c b
  let old := s.rd .lastFire (partIx c b part)
  let back := min overlap (old / 16)
  let g := if a.streams = [] then 8 else s.altGraph a
  .all [
    .when (old ≠ 0 && old % 16 < 8) (refund (allowKey ep part (old % 16)) back),
    .when (g < 8) (charge (allowKey ep part g) (len + stall)),
    .put .lastFire (partIx c b part) (fireCode (len + stall) g)]

/-- Whether the stationary tile is SCALED, with its exponent: the bank holds 256 + E (R99). -/
def statExpCode (s : State) (h : Nat) : Nat :=
  if hScaled h && scalable (hFmt h) then (s.slotExp (hSlot h) + 512).toNat else 0

def expOfCode (k : Nat) : Int := if k = 0 then 0 else (k : Int) - 512

/-- A LOAD firing (R99, R114). -/
def loadFire (overlap c b part : Nat) (a : Alt) : Act := .ask fun s =>
  let w := a.op
  let k := bwLoadK w
  let n := bwLoadN w
  let ep := benchEp c b
  match k, a.inputs with
  | 0, _ =>
    .all [setLoaded c b part 0 n (bwFmt w), .put .stationary (partIx c b part) 0, .put .statExp (partIx c b part) 0,
      chargeBench c b part a 1 overlap 0, advance ep part]
  | _, i :: _ =>
    let t := s.inputD i
    let h := t.head
    if headerValid h && hFmt h = bwFmt w && hRows h = n && hCols h = k then
      .all [setLoaded c b part k n (bwFmt w), .put .stationary (partIx c b part) t.raw,
        .put .statExp (partIx c b part) (statExpCode s h), chargeBench c b part a 128 overlap 0,
        finishFiring ep part a []]
    else badHeader i
  | _, [] => .skip

/-! Dot products. -/

/-- The integer formats of the bench. -/
def intFmt (f : Nat) : Bool := f = 1 || f = 2

/-- K-group size of a float pair: 32 for KF8, KF8W, BQ8 and BQ4, 8 for FP16 and BF16 (R152, R153). -/
def groupSize (f : Nat) : Nat := if f = 8 || f = 9 then 8 else 32

/-- Row interval in CCLK cycles (R103). -/
def rowInterval (f : Nat) (flush : Bool) : Nat := if f = 8 then 4 else if f = 9 then (if flush then 4 else 8) else if f = 0x0A then 16 else 1

/-- The class of a product of a float group (R156): its value, an infinity when it reaches the FP32 overflow threshold, and its
flags. -/
def classify (a w : Val) : Val × Nat :=
  let r := a.mul w
  match r.1 with
  | .fin s m e =>
    if (Val.fin false m e).cmp (.fin false (2 ^ 25 - 1) 103) ≥ 0 ∧ m ≠ 0 then (.inf s, fOverflow) else (.fin s m e, r.2)
  | v => (v, r.2)

/-- The group sum of finite products: exact for G = 32 (R152); for FP16 and BF16 each product truncated to a multiple of
2^(q − 48), q the exponent of the largest (R153). -/
def groupSum (f : Nat) (ps : List Val) : Val :=
  if f = 8 || f = 9 then
    let a := ps.foldl (fun a v => match v with
      | .fin _ m e => maxMag a (m, e)
      | _ => a) (0, 0)
    if a.1 = 0 then Val.zero
    else
      let u : Int := (Nat.log2 a.1 : Int) + a.2 - 48
      Val.sumFin (ps.map fun v => match v with
        | .fin s m e => .fin s (if e ≥ u then m <<< (e - u).toNat else m >>> (u - e).toNat) u
        | v => v)
  else Val.sumFin ps

/-- The kind of a group with its sum, as a value: NaN, an infinity or the finite sum; and its flags (R156). -/
def groupKind (f : Nat) (ps : List (Val × Nat)) : Val × Nat :=
  let fl := ps.foldl (fun x p => x ||| p.2) 0
  let pinf := ps.any fun p => p.1 = .inf false
  let ninf := ps.any fun p => p.1 = .inf true
  if ps.any fun p => p.1.isNan then (.nan, fl)
  else if pinf && ninf then (.nan, fl ||| fInvalid)
  else if pinf then (.inf false, fl)
  else if ninf then (.inf true, fl)
  else (groupSum f (ps.map (·.1)), fl)

/-- One step of R154: the accumulator as an FP32 code, a group, and 2^−(E_a + E_w) already applied to its sum. -/
def accStep (flush : Bool) (acc : Nat × Nat) (g : Val × Nat) : Nat × Nat :=
  let v := fp32.decode acc.1
  let fl := acc.2 ||| g.2
  match g.1, v with
  | .nan, _ => (0x7FC00000, fl)
  | _, .nan => (0x7FC00000, fl)
  | .inf s, .inf t => if s = t then (fp32.infCode s, fl) else (0x7FC00000, fl ||| fInvalid)
  | .inf s, .fin _ _ _ => (fp32.infCode s, fl)
  | .fin _ _ _, .inf _ => (acc.1, fl)
  | .fin s m e, .fin t n f =>
    if m = 0 then (acc.1, fl)
    else
      let r := fp32.round .rne flush false ((Val.fin s m e).add (.fin t n f)).1
      (r.1, fl ||| r.2)

/-- The initial value as the accumulator reads it (R154). -/
def accInit (flush : Bool) (c : Nat) : Nat × Nat :=
  match fp32.read flush c with
  | (.nan, _) => (0x7FC00000, fNanIn)
  | (.fin s 0 _, fl) => (b2n s <<< 31, fl)
  | (_, fl) => (c, fl)

/-- The step of the FP32 chain (R155): every event of the product and of the sum raises its own flag (R157). -/
def fmaStep (flush : Bool) (acc : Nat × Nat) (aw : (Val × Nat) × (Val × Nat)) : Nat × Nat :=
  let x := fp32.read flush acc.1
  let p := aw.1.1.mul aw.2.1
  let r := p.1.add x.1
  let fl := acc.2 ||| aw.1.2 ||| aw.2.2 ||| p.2 ||| (if p.1.isNan || x.1.isNan then 0 else r.2)
  if r.1.isNan then (0x7FC00000, fl)
  else
    let q := fp32.round .rne flush false r.1
    (q.1, fl ||| q.2)

/-- The float value of one output element: accumulation from an initial FP32 code over the K-groups of a row and a column
(R151–R156), with its flags. `e` is E_a + E_w. -/
def dotFloat (f : Nat) (flush : Bool) (e : Int) (init : Nat) (a w : List (Val × Nat)) : Nat × Nat :=
  let start := accInit flush init
  if f = 0x0A then (a.zip w).foldl (fmaStep flush) start
  else if intFmt f then
    let v := Val.sumFin ((a.zip w).map fun p => (p.1.1.mul p.2.1).1)
    accStep flush start (v.scale (-e), 0)
  else
    (chunks (groupSize f) (a.zip w)).foldl (fun acc ps =>
      let g := groupKind f (ps.map fun p => classify p.1.1 p.2.1)
      accStep flush acc (g.1.scale (-e), g.2)) start

/-- The exact integer dot product (R151). -/
def dotInt (a w : List (Val × Nat)) : Int := (Val.sumFin ((a.zip w).map fun p => (p.1.1.mul p.2.1).1)).mant 0

/-! Checksums (R108–R110). -/

/-- The exact sum of values that may be special. -/
def sumAll (l : List Val) : Val :=
  if l.any Val.isNan then .nan
  else if l.contains (.inf false) && l.contains (.inf true) then .nan
  else if l.contains (.inf false) then .inf false
  else if l.contains (.inf true) then .inf true
  else Val.sumFin l

/-- The outcome of one comparison: made and passed, made and failed, or not made. -/
inductive Check where
  | pass | fail | skip
  deriving DecidableEq, Repr

/-- An FP32 comparison with tolerance 2^−T × magnitude (R109). FLUSH governs the check value and the magnitude as it does the main sum
(R76, log entry 29). -/
def checkFloat (tol : Nat) (flush : Bool) (main : Nat) (chk mag : Val) : Check :=
  let m := fp32.decode main
  let c := fp32.decode (fp32.round .rne flush false chk).1
  let g := fp32.decode (fp32.round .rne flush false mag).1
  if !m.isFinite || !c.isFinite || !g.isFinite then .skip
  else if ((m.add c.neg).1.abs).cmp (g.scale (-(tol : Int))) > 0 then .fail else .pass

/-- The FP32 sum, by RNE in ascending index, of a list of codes (R109). -/
def mainSum (flush : Bool) (l : List Nat) : Nat :=
  l.foldl (fun acc c => (fp32.round .rne flush false ((fp32.decode acc).add (fp32.decode c)).1).1) 0

/-- The checks of one half: a row check for each row, a column check for each column. `a` and `w` hold the rows and columns of
true values, `c` the pass results by row. -/
def halfChecks (int : Bool) (flush : Bool) (tol : Nat) (a w : List (List Val)) (c : List (List Nat)) : List Check × List Check :=
  let ks := List.range ((a.head?.map List.length).getD 0)
  let col (m : List (List Val)) (k : Nat) : List Val := m.map fun r => (r[k]?).getD Val.zero
  let sigma := ks.map fun k => sumAll (col w k)
  let rho := ks.map fun k => sumAll ((col w k).map Val.abs)
  let alpha := ks.map fun k => sumAll (col a k)
  let beta := ks.map fun k => sumAll ((col a k).map Val.abs)
  let dot (x y : List Val) : Val := sumAll ((x.zip y).map fun p => (p.1.mul p.2).1)
  let rowChk := (a.zip c).map fun ac =>
    if int then (if (ac.2.map (fun x => signed 64 x)).sum = (dot ac.1 sigma).mant 0 then Check.pass else .fail)
    else checkFloat tol flush (mainSum flush ac.2) (dot ac.1 sigma) (dot (ac.1.map Val.abs) rho)
  let colChk := (w.zip (List.range w.length)).map fun wn =>
    let cs := c.map fun r => (r[wn.2]?).getD 0
    if int then (if (cs.map (fun x => signed 64 x)).sum = (dot alpha wn.1).mant 0 then Check.pass else .fail)
    else checkFloat tol flush (mainSum flush cs) (dot alpha wn.1) (dot beta (wn.1.map Val.abs))
  (rowChk, colChk)

/-- The first failing index of a list of checks. -/
def firstFail (l : List Check) : Option Nat := l.findIdx? (· = .fail)

/-- Record the checks of a half (R109, R110): counters, and FAIL_INFO when it holds no record. -/
def recordChecks (c b seq : Nat) (half : Nat) (r : List Check × List Check) : Act := .ask fun s =>
  let all := r.1 ++ r.2
  let fails := (all.filter (· = .fail)).length
  let skips := (all.filter (· = .skip)).length
  .all [
    if half = 0 then countBy (CLU_BENCH_CHKFAIL_L_COUNT c b) (CLU_BENCH_CHKFAIL_L_OVF c b) fails
    else countBy (CLU_BENCH_CHKFAIL_H_COUNT c b) (CLU_BENCH_CHKFAIL_H_OVF c b) fails,
    countBy (CLU_BENCH_CHKSKIP_COUNT c b) (CLU_BENCH_CHKSKIP_OVF c b) skips,
    .when (fails ≠ 0 && s.get (CLU_BENCH_FAIL_INFO_VALID c b) = 0) (.all [
      .set (CLU_BENCH_FAIL_INFO_SEQ c b) seq, .set (CLU_BENCH_FAIL_INFO_HALF c b) half,
      .set (CLU_BENCH_FAIL_INFO_ROW_CHK c b) (b2n (firstFail r.1).isSome),
      .set (CLU_BENCH_FAIL_INFO_COL_CHK c b) (b2n (firstFail r.2).isSome),
      .set (CLU_BENCH_FAIL_INFO_ROW c b) ((firstFail r.1).getD 0),
      .set (CLU_BENCH_FAIL_INFO_COL c b) ((firstFail r.2).getD 0),
      .set (CLU_BENCH_FAIL_INFO_VALID c b) 1])]

/-! STREAM. -/

/-- First physical column of a part: half H begins at column 64 (R112). -/
def partCol (part : Nat) : Nat := if part = 2 then 64 else 0

/-- Poison bits of the halves in which `n` columns of a part lie (R97, R109). -/
def partPoison (part n : Nat) : Nat := if part = 1 then 1 else if part = 2 then 2 else if n ≤ 64 then 1 else 3

/-- Residual rows of the current STREAM step (R100). CLU_BENCH_LEFT reads 0 until the step's first firing, which takes M (R117; DESIGN
CHOICE, log entry 55); from then on the run belongs to the alternative that began it (the same entry). -/
def State.benchLeft (s : State) (c b part m : Nat) : Nat :=
  let l := if part = 2 then s.get (CLU_BENCH_LEFT_H_ROWS c b) else s.get (CLU_BENCH_LEFT_L_ROWS c b)
  if l = 0 then m else l

def setBenchLeft (c b part v : Nat) : Act :=
  if part = 2 then .set (CLU_BENCH_LEFT_H_ROWS c b) v else .set (CLU_BENCH_LEFT_L_ROWS c b) v

/-- The A stream of a STREAM alternative and its bias stream, from the K of the stationary (R100). -/
def streamBinds (k : Nat) (a : Alt) : Option Nat × Option Nat :=
  let i0 := (a.ins[0]?).join
  let i1 := (a.ins[1]?).join
  let bias := if bwInit a.op = 2 then (if k = 0 then i0 else i1) else none
  (if k = 0 then none else i0, bias)

/-- Output streams that DRAIN and N require (R104). -/
def drainOuts (part n w : Nat) : Nat := if bwDrain w then (if part = 0 ∧ n > 64 then 2 else 1) else 0

/-- The first bound stream in the order A, bias, output 0, output 1: where a STREAM firing that does not start reports (R100). -/
def streamReport (a : Alt) : Option Nat := a.streams.head?

/-- Output format of a firing: INT32 for an integer pair with neither tile SCALED, FP32 otherwise (R103). -/
def outFmtOf (aFmt : Nat) (scaled : Bool) : Nat := if intFmt aFmt && !scaled then 3 else 0x0A

/-- A tile's rows of read elements. -/
def readRows (flush : Bool) (t : Tile) (rows cols : Nat) : List (List (Val × Nat)) :=
  let h := t.head
  let p := t.payload
  (List.range rows).map fun r => (List.range cols).map fun k => readElem flush h p r k

/-- True values of rows: element values times 2^−E (R108). -/
def trueRows (e : Int) (m : List (List (Val × Nat))) : List (List Val) := m.map fun r => r.map fun x => x.1.scale (-e)

/-- The initial values of row `j` of the step, one for each column of the part (R101). -/
def State.initRow (s : State) (c b part w n j : Nat) (bias : List Nat) : List Nat :=
  match bwInit w with
  | 0 => (List.range n).map fun x => bits (s.rd .accRow ((c * 4 + b) * 1024 + (bwAccBase w + j) % 1024)) (32 * (partCol part + x)) 32
  | 2 => bias
  | _ => List.replicate n 0

/-- Write a row of a part to the accumulator, with its poison bits (R101, R110). Columns of the part from N on keep their words, and a
whole-mode row of at most 64 columns leaves the poison bit of half H (DESIGN CHOICE, log entry 124). -/
def keepRow (c b part row : Nat) (vals : List Nat) (acc : Bool) (poison : Nat) : Act := .ask fun s =>
  let k := (c * 4 + b) * 1024 + row % 1024
  let old := s.rd .accPoison k
  .all [.put .accRow k (setBits (s.rd .accRow k) (32 * partCol part) (32 * vals.length) (packFast 32 vals)),
    .put .accPoison k (if acc then old ||| poison else (old &&& (3 - partPoison part vals.length)) ||| poison)]

/-- The output tile of columns `lo` to `lo + n − 1` of a firing's rows (R104). -/
def drainTile (fmt : Nat) (poison last : Bool) (rows : List (List Nat)) (lo n : Nat) : Tile :=
  let cols := rows.map fun r => (r.drop lo).take n
  Tile.of (mkHeader fmt poison last false rows.length n (4 * n) 0 0 0 0 0 0 (4 * n * rows.length))
    (packFast (32 * n) (cols.map (packFast 32)))

/-- A STREAM firing that starts: `at` is the A tile, `bias` the bias row (R100–R110). A firing with K = 0 and DRAIN = 0, which writes no
header and no rows, is charged 8 + r as a draining one is (R105; DESIGN CHOICE, log entry 124). -/
def streamGo (overlap stall c b part : Nat) (a : Alt) (at_ : Option (Nat × Tile)) (biasIn : Option (Nat × Tile)) : Act := .ask fun s =>
  let w := a.op
  let ep := benchEp c b
  let g := s.altGraph a
  let k := s.loadedK c b part
  let n := s.loadedN c b part
  let flush := s.flushOf a
  let left := s.benchLeft c b part (bwM w)
  let j0 := s.rd .streamRow (partIx c b part)
  let st : Tile := ⟨s.rd .stationary (partIx c b part)⟩
  let ah := (at_.map fun x => x.2.head).getD 0
  let r := match at_ with
    | some x => hRows x.2.head
    | none => min 128 left
  let fmt := bwFmt w
  let ea := s.tileExp ah
  let ewc := s.rd .statExp (partIx c b part)
  let scaled := (hScaled ah && scalable (hFmt ah)) || ewc ≠ 0
  let e := ea + expOfCode ewc
  let outFmt := outFmtOf fmt (k ≠ 0 && scaled)
  let aRows := match at_ with
    | some x => readRows flush x.2 r k
    | none => List.replicate r []
  let wCols := if k = 0 then List.replicate n [] else readRows flush st n k
  let biasRow := match biasIn with
    | some x => (List.range n).map fun i => elemCode x.2.head x.2.payload 32 0 i
    | none => []
  let inits := (List.range r).map fun i => s.initRow c b part w n (j0 + i) biasRow
  -- values of the rows, their flags, and the pass results
  let vals : List (List (Nat × Nat)) := (aRows.zip inits).map fun x => (wCols.zip x.2).map fun y =>
    if outFmt = 3 then satInt 32 (signed 32 y.2 + dotInt x.1 y.1) else dotFloat fmt flush e y.2 x.1 y.1
  let pass : List (List Nat) := aRows.map fun x => wCols.map fun y =>
    if outFmt = 3 then unsigned 64 (dotInt x y) else (dotFloat fmt flush e 0 x y).1
  let readFl := (aRows ++ wCols).foldl (fun f x => x.foldl (fun f y => f ||| (y.2 &&& fDenorm)) f) 0
  let fl := vals.foldl (fun f x => x.foldl (fun f y => f ||| y.2) f) readFl
  -- checks
  let tol := s.get (CLU_BENCH_CFG_CHECK_TOL c b)
  let at' := trueRows ea aRows
  let wt := trueRows (expOfCode ewc) wCols
  let half (lo m : Nat) : List Check × List Check :=
    halfChecks (outFmt = 3) flush tol at' ((wt.drop lo).take m) (pass.map fun x => (x.drop lo).take m)
  let none2 : List Check × List Check := ([], [])
  let ck0 := if k = 0 then none2 else half 0 (if part = 0 then min n 64 else n)
  let ck1 := if k = 0 ∨ part ≠ 0 ∨ n ≤ 64 then none2 else half 64 (n - 64)
  let bad (x : List Check × List Check) : Bool := x.1.contains .fail || x.2.contains .fail
  let firstHalf := if part = 2 then 1 else 0
  -- poison (R104, R110)
  let accPois := bwInit w = 0 && (List.range r).any fun i =>
    s.rd .accPoison ((c * 4 + b) * 1024 + (bwAccBase w + j0 + i) % 1024) &&& partPoison part n ≠ 0
  let pois : Bool := hPoison ah || hPoison st.head || ((biasIn.map fun x => hPoison x.2.head).getD false) || accPois
  let failed := bad ck0 || bad ck1
  let pBits := if pois || failed then partPoison part n else 0
  let codes := vals.map fun x => x.map (·.1)
  let last := match at_ with
    | some _ => hLast ah
    | none => r = left
  let v := rowInterval fmt flush
  let cycles := if k = 0 then 8 + r else if bwDrain w then r * v + 271 + r else r * v + 263
  let outs := a.outputs
  let tiles : List (Nat × Tile) :=
    if !bwDrain w then []
    else match outs with
      | [o] => [(o, drainTile outFmt (pois || failed) last codes 0 n)]
      | [o, o'] => [(o, drainTile outFmt (pois || failed) last codes 0 64),
          (o', drainTile outFmt (pois || failed) last codes 64 (n - 64))]
      | _ => []
  .all [
    recordChecks c b (hSeq ah) firstHalf ck0, recordChecks c b (hSeq ah) 1 ck1,
    .each a.streams (fun i => raiseFlags i fl),
    .when pois (.each a.streams raisePoisoned),
    .when failed (.seq (.each a.streams raiseCheckFail) (noteHere 2 ep g (hSeq ah))),
    .when (bwKeep w) (.each (codes.zip (List.range r)) fun x =>
      keepRow c b part (bwAccBase w + j0 + x.2) x.1 (bwInit w = 0) pBits),
    chargeBench c b part a cycles overlap stall,
    .each tiles (fun o => .ask fun s' => emit o.1 (o.2.stamp (s'.get (STR_NEXT_SEQ o.1)) (s.stepNum g) s.chipId)),
    .each a.inputs consume,
    setBenchLeft c b part (left - r),
    if left = r then .seq (.put .streamRow (partIx c b part) 0) (advance ep part)
    else .seq (.put .streamRow (partIx c b part) (j0 + r)) (holdRun ep part a)]

/-- The pair of a stationary and a streamed format, and its K limit (R103). -/
def pairLimit (w a : Nat) : Option Nat :=
  match w, a with
  | 0x02, 0x02 => some 128
  | 0x02, 0x01 => some 128
  | 0x01, 0x02 => some 128
  | 0x01, 0x01 => some 256
  | 0x05, 0x05 => some 128
  | 0x05, 0x04 => some 128
  | 0x04, 0x05 => some 128
  | 0x04, 0x04 => some 256
  | 0x06, 0x06 => some 128
  | 0x06, 0x07 => some 128
  | 0x07, 0x06 => some 128
  | 0x07, 0x07 => some 128
  | 0x08, 0x08 => some 128
  | 0x09, 0x09 => some 128
  | 0x0A, 0x0A => some 128
  | _, _ => none

/-- The conditions of R100 and R101 under which a STREAM firing does not start, but for the bias tile's. -/
def State.streamBlocked (s : State) (c b part : Nat) (a : Alt) (i : Option Nat) : Bool :=
  let w := a.op
  let k := s.loadedK c b part
  let n := s.loadedN c b part
  let left := s.benchLeft c b part (bwM w)
  let tileBad := match i with
    | some x =>
      let h := (s.inputD x).head
      !headerValid h || hFmt h ≠ bwFmt w || hCols h ≠ k || hRows h > left
    | none => k ≠ 0
  let want := (if k = 0 then 0 else 1) + (if bwInit w = 2 then 1 else 0)
  !s.loaded c b part || tileBad || (pairLimit (s.loadedFmt c b part) (bwFmt w)).isNone ||
    a.inputs.length ≠ want || a.outputs.length ≠ drainOuts part n w

/-- A STREAM firing (R100, R101). -/
def streamFire (overlap stall c b part : Nat) (a : Alt) : Act := .ask fun s =>
  let k := s.loadedK c b part
  let binds := streamBinds k a
  if s.streamBlocked c b part a binds.1 then
    match streamReport a with
    | some n => badHeader n
    | none => .skip
  else
    let withTile (i : Option Nat) : Option (Nat × Tile) := i.map fun n => (n, s.inputD n)
    let ah := (binds.1.map fun n => (s.inputD n).head).getD 0
    let scaled := (hScaled ah && scalable (hFmt ah)) || s.rd .statExp (partIx c b part) ≠ 0
    match binds.2 with
    | some bi =>
      let h := (s.inputD bi).head
      if headerValid h && hRows h = 1 && hCols h = s.loadedN c b part && hFmt h = outFmtOf (bwFmt a.op) (k ≠ 0 && scaled) then
        streamGo overlap stall c b part a (withTile binds.1) (withTile binds.2)
      else badHeader bi
    | none => streamGo overlap stall c b part a (withTile binds.1) none

/-- A bench firing of kind 1 (LOAD) or 2 (STREAM) in the whole array or a half. -/
def benchFire (c b : Nat) (half : Bool) (kind : Nat) (f : Nat → Alt → Act) : Act := .ask fun s =>
  match s.benchPart c b half with
  | some part => fireOn (benchEp c b) part (s.benchReady c b part) (fun a => bwKind a.op = kind) (f part)
  | none => .skip

/-- `overlap`: cycles of the part's preceding firing after this one's admission (R106, R107). -/
def execBenchLoad (c : Cluster) (b : BenchIx) (half : Bool) (overlap : BitVec 16) (s : State) : Host.Outcome State Fault Refusal :=
  live (benchFire c b half 1 (loadFire overlap.toNat c b)) s
/-- `overlap` as for LOAD; `stall`: cycles in which a read of the accumulator waited for an earlier write (R102). -/
def execBenchStream (c : Cluster) (b : BenchIx) (half : Bool) (overlap stall : BitVec 16) (s : State) :
    Host.Outcome State Fault Refusal :=
  live (benchFire c b half 2 (streamFire overlap.toNat stall.toNat c b)) s

/-! Clears (R117). -/

def clrChkfailL (c b : Nat) : Act := countClear (CLU_BENCH_CHKFAIL_L_COUNT c b) (CLU_BENCH_CHKFAIL_L_OVF c b)
def clrChkfailH (c b : Nat) : Act := countClear (CLU_BENCH_CHKFAIL_H_COUNT c b) (CLU_BENCH_CHKFAIL_H_OVF c b)
def clrChkskip (c b : Nat) : Act := countClear (CLU_BENCH_CHKSKIP_COUNT c b) (CLU_BENCH_CHKSKIP_OVF c b)

/-- Zero every accumulator row and poison bit of a bench. -/
def zeroAcc (c b : Nat) : Act :=
  .each (List.range 1024) fun i => .seq (.put .accRow ((c * 4 + b) * 1024 + i) 0) (.put .accPoison ((c * 4 + b) * 1024 + i) 0)

/-- CLR_ACC: discarded unless the bench is QUIESCED. -/
def clrAcc (c b : Nat) : Act := .ask fun s => .when (s.get (STN_STATUS_QUIESCED (benchEp c b)) = 1) (zeroAcc c b)

def execClrChkfailL (c : Cluster) (b : BenchIx) (s : State) : Host.Outcome State Fault Refusal := live (clrChkfailL c b) s
def execClrChkfailH (c : Cluster) (b : BenchIx) (s : State) : Host.Outcome State Fault Refusal := live (clrChkfailH c b) s
def execClrChkskip (c : Cluster) (b : BenchIx) (s : State) : Host.Outcome State Fault Refusal := live (clrChkskip c b) s
def execClrAcc (c : Cluster) (b : BenchIx) (s : State) : Host.Outcome State Fault Refusal := live (clrAcc c b) s

end Sys2Proof.Machine
end

