-- ==== Sys2Proof/Machine/Desk.lean ====
section
/-!
DEFINITION. The cluster desk (R138–R149): DESK firings, the script instructions but for LDX and STX (RegCmds.lean), desk faults
and the memory window.
-/

namespace Sys2Proof.Machine

open Reg

/-- Endpoint of cluster `c`'s DESK (R28). -/
def deskEp (c : Nat) : Nat := c * 8 + 7

/-- The DESK firing in progress in a cluster. -/
def State.desk (s : State) (c : Nat) : Option DeskFiring := s.desks.find? fun d => d.cluster.val = c

/-- Change the DESK firing in progress. -/
def modDesk (c : Nat) (f : DeskFiring → DeskFiring) : Act := .ask fun s =>
  .upd (.desks (s.desks.map fun d => if d.cluster.val = c then f d else d))

/-! The script word (R142, R143). -/

/-- Bits of a script word that its OP uses besides OP itself; none where the OP is reserved (R142, R143). -/
def deskUsed (op : Nat) : Option Nat :=
  let rd := 0x3F <<< 20
  let ra := 0x3F <<< 14
  let rb := 0x3F <<< 8
  let imm14 := 0x3FFF
  let imm20 := 0xFFFFF
  if (0x01 ≤ op && op ≤ 0x0D) || (0x28 ≤ op && op ≤ 0x2B) then some (rd + ra + rb)
  else if (0x10 ≤ op && op ≤ 0x12) || (0x18 ≤ op && op ≤ 0x1B) || (0x20 ≤ op && op ≤ 0x25) || op = 0x27 || op = 0x36 || op = 0x37 ||
      op = 0x38 then some (rd + ra + imm14)
  else if 0x13 ≤ op && op ≤ 0x15 then some (rd + ra + 0x1F)
  else if op = 0x16 || op = 0x26 then some (rd + imm20)
  else if op = 0x2C || op = 0x2D || op = 0x30 || op = 0x33 then some (rd + ra)
  else if op = 0x31 || op = 0x32 then some (ra + rb)
  else if op = 0x34 || op = 0x35 then some (rd + imm14)
  else if op = 0x39 then some (ra + imm14)
  else if op = 0x3F then some 0
  else none

/-- A script word. -/
def deskWordOk (w : Nat) : Bool :=
  match deskUsed (bits w 26 6) with
  | none => false
  | some m => (w % 2 ^ 26) ||| m = m

/-- The fields of a script word: [25:20], [19:14], [13:8] and IMM14. -/
def dkHi (w : Nat) : BitVec 6 := BitVec.ofNat 6 (bits w 20 6)
def dkMid (w : Nat) : BitVec 6 := BitVec.ofNat 6 (bits w 14 6)
def dkLow (w : Nat) : BitVec 6 := BitVec.ofNat 6 (bits w 8 6)
def dkImm (w : Nat) : BitVec 14 := BitVec.ofNat 14 w

/-- The script commands by OP: integers (R143). -/
def deskInts : List (Nat × (Cluster → Nat → Instr)) := [
  (0x01, fun c w => Instr.deskAdd c (dkHi w) (dkMid w) (dkLow w)),
  (0x02, fun c w => Instr.deskSub c (dkHi w) (dkMid w) (dkLow w)),
  (0x03, fun c w => Instr.deskAnd c (dkHi w) (dkMid w) (dkLow w)),
  (0x04, fun c w => Instr.deskOr c (dkHi w) (dkMid w) (dkLow w)),
  (0x05, fun c w => Instr.deskXor c (dkHi w) (dkMid w) (dkLow w)),
  (0x06, fun c w => Instr.deskSll c (dkHi w) (dkMid w) (dkLow w)),
  (0x07, fun c w => Instr.deskSrl c (dkHi w) (dkMid w) (dkLow w)),
  (0x08, fun c w => Instr.deskSra c (dkHi w) (dkMid w) (dkLow w)),
  (0x09, fun c w => Instr.deskSlt c (dkHi w) (dkMid w) (dkLow w)),
  (0x0A, fun c w => Instr.deskSltu c (dkHi w) (dkMid w) (dkLow w)),
  (0x0B, fun c w => Instr.deskMul c (dkHi w) (dkMid w) (dkLow w)),
  (0x0C, fun c w => Instr.deskMulhu c (dkHi w) (dkMid w) (dkLow w)),
  (0x0D, fun c w => Instr.deskDivu c (dkHi w) (dkMid w) (dkLow w)),
  (0x10, fun c w => Instr.deskAddi c (dkHi w) (dkMid w) (dkImm w)),
  (0x11, fun c w => Instr.deskAndi c (dkHi w) (dkMid w) (dkImm w)),
  (0x12, fun c w => Instr.deskOri c (dkHi w) (dkMid w) (dkImm w)),
  (0x13, fun c w => Instr.deskSlli c (dkHi w) (dkMid w) (BitVec.ofNat 5 w)),
  (0x14, fun c w => Instr.deskSrli c (dkHi w) (dkMid w) (BitVec.ofNat 5 w)),
  (0x15, fun c w => Instr.deskSrai c (dkHi w) (dkMid w) (BitVec.ofNat 5 w)),
  (0x16, fun c w => Instr.deskLui c (dkHi w) (BitVec.ofNat 20 w))]

/-- Memory, branches and floats. -/
def deskMids : List (Nat × (Cluster → Nat → Instr)) := [
  (0x18, fun c w => Instr.deskLw c (dkHi w) (dkMid w) (dkImm w)),
  (0x19, fun c w => Instr.deskSw c (dkHi w) (dkMid w) (dkImm w)),
  (0x1A, fun c w => Instr.deskLbu c (dkHi w) (dkMid w) (dkImm w)),
  (0x1B, fun c w => Instr.deskSb c (dkHi w) (dkMid w) (dkImm w)),
  (0x20, fun c w => Instr.deskBeq c (dkHi w) (dkMid w) (dkImm w)),
  (0x21, fun c w => Instr.deskBne c (dkHi w) (dkMid w) (dkImm w)),
  (0x22, fun c w => Instr.deskBlt c (dkHi w) (dkMid w) (dkImm w)),
  (0x23, fun c w => Instr.deskBge c (dkHi w) (dkMid w) (dkImm w)),
  (0x24, fun c w => Instr.deskBltu c (dkHi w) (dkMid w) (dkImm w)),
  (0x25, fun c w => Instr.deskBgeu c (dkHi w) (dkMid w) (dkImm w)),
  (0x26, fun c w => Instr.deskJal c (dkHi w) (BitVec.ofNat 20 w)),
  (0x27, fun c w => Instr.deskJalr c (dkHi w) (dkMid w) (dkImm w)),
  (0x28, fun c w => Instr.deskFadd c (dkHi w) (dkMid w) (dkLow w)),
  (0x29, fun c w => Instr.deskFsub c (dkHi w) (dkMid w) (dkLow w)),
  (0x2A, fun c w => Instr.deskFmul c (dkHi w) (dkMid w) (dkLow w)),
  (0x2B, fun c w => Instr.deskFlt c (dkHi w) (dkMid w) (dkLow w)),
  (0x2C, fun c w => Instr.deskFcvtws c (dkHi w) (dkMid w)),
  (0x2D, fun c w => Instr.deskFcvtsw c (dkHi w) (dkMid w))]

/-- Milestones, registers and tiles. -/
def deskTails : List (Nat × (Cluster → Nat → Instr)) := [
  (0x30, fun c w => Instr.deskMwait c (dkHi w) (dkMid w)),
  (0x31, fun c w => Instr.deskMinc c (dkMid w) (dkLow w)),
  (0x32, fun c w => Instr.deskMtgt c (dkMid w) (dkLow w)),
  (0x33, fun c w => Instr.deskMrd c (dkHi w) (dkMid w)),
  (0x34, fun c w => Instr.deskCsrr c (dkHi w) (BitVec.ofNat 12 w)),
  (0x35, fun c w => Instr.deskCsrw c (dkHi w) (BitVec.ofNat 12 w)),
  (0x36, fun c w => Instr.deskLdx c (dkHi w) (dkMid w) (dkImm w)),
  (0x37, fun c w => Instr.deskStx c (dkHi w) (dkMid w) (dkImm w)),
  (0x38, fun c w => Instr.deskTin c (dkHi w) (dkMid w) (BitVec.ofNat 2 w)),
  (0x39, fun c w => Instr.deskTout c (dkMid w) (BitVec.ofNat 1 w)),
  (0x3F, fun c _ => Instr.deskHalt c)]

/-- The command that a 32-bit script word spells at cluster `c`; none where OP is reserved or a field that the format leaves unused is
not 0 (R142). -/
def deskDecode (c : Cluster) (w : Nat) : Option Instr :=
  if deskWordOk w then ((deskInts ++ deskMids ++ deskTails).find? fun x => x.1 = bits w 26 6).map fun x => x.2 c w else none

/-- The word that the script context issues next: instruction memory at PC (R139). -/
def State.deskWord (s : State) (c : Nat) : Nat := s.rd .dimem (16384 * c + s.get (CLU_DESK_STATE_PC c))

/-- Whether a command is the script's next instruction: the word at PC spells it. A fetch past word 0x3FFF spells nothing, and faults
whatever the command (R147). A command that is not the next instruction names an event that does not occur (log entry 127). -/
def State.deskIssues (s : State) (c : Cluster) (cmd : Option Instr) : Bool :=
  s.get (CLU_DESK_STATE_PC c.val) < 0x1000 || deskDecode c (s.deskWord c.val) = cmd

/-- A script command: it acts where it is the next instruction. -/
def deskMeaning (c : Cluster) (cmd : Instr) (a : Act) (s : State) : Host.Outcome State Fault Refusal :=
  live (.when (s.deskIssues c (some cmd)) a) s

/-! Faults (R147). -/

def causeMisalign : Nat := 1
def causeDmemRange : Nat := 2
def causeJumpRange : Nat := 3
def causeRegRange : Nat := 4
def causeBinding : Nat := 5
def causeTinSize : Nat := 6
def causeIllegal : Nat := 7

/-- A desk fault: recorded unless one is held, which is an event of class DESK_FAULT (R477), and the script context stops as under an
abort (R147). -/
def deskFault (c cause pc : Nat) : Act := .ask fun s =>
  .all [
    .when (s.get (CLU_DESK_FAULT_VALID c) = 0)
      (.all [.set (CLU_DESK_FAULT_CAUSE c) cause, .set (CLU_DESK_FAULT_PC c) pc, .set (CLU_DESK_FAULT_VALID c) 1,
        noteHere 12 (deskEp c) (((s.desk c).map fun d => deskGraph d.alt.op).getD 0) (cause + pc <<< 4)]),
    abortStation (deskEp c), .set (CLU_DESK_STATE_RUN c) 4]

/-- One script instruction of cluster `c`: nothing issues without a firing, while the station is disabled, in P1 or during a
milestone wait (R141, R145, R428). A fetch past word 0x3FFF is a fault (R147). The instruction gets the firing and its own word
address. -/
def deskOp (c : Nat) (f : DeskFiring → Nat → Act) : Act := .ask fun s =>
  match s.desk c with
  | some d =>
    let pc := s.get (CLU_DESK_STATE_PC c)
    .when (s.get (STN_CTRL_ENABLE (deskEp c)) = 1 && d.wait.isNone && s.get PWR_STATE_STATUS_STATE = 0)
      (if pc < 0x1000 then deskFault c causeJumpRange 0x3FFF else f d pc)
  | none => .skip

/-- Go on at the next word. -/
def deskNext (c pc : Nat) : Act := .set (CLU_DESK_STATE_PC c) (pc + 1)

/-- Go to a target word, which must lie in script memory (R147). -/
def deskJump (c pc : Nat) (t : Int) (a : Act) : Act :=
  if 0x1000 ≤ t ∧ t ≤ 0x3FFF then .seq a (.set (CLU_DESK_STATE_PC c) t.toNat) else deskFault c causeJumpRange pc

/-- Write `v`, a function of the state, to RD and go on. -/
def deskResult (c : Nat) (rd : BitVec 6) (v : State → Nat) : Act := deskOp c fun _ pc => .ask fun s =>
  .seq (deskSet c rd.toNat (v s % 2 ^ 32)) (deskNext c pc)

/-- The sign-extended 14-bit immediate as a 32-bit word (R142). -/
def imm14 (i : BitVec 14) : Nat := unsigned 32 i.toInt

/-! Integer operations (R143, R144). -/

/-- An operation on two registers. -/
def deskAlu (c : Nat) (rd ra rb : BitVec 6) (f : Nat → Nat → Nat) : Act :=
  deskResult c rd fun s => f (s.sreg c ra.toNat) (s.sreg c rb.toNat)

/-- An operation on a register and a constant. -/
def deskAluI (c : Nat) (rd ra : BitVec 6) (k : Nat) (f : Nat → Nat → Nat) : Act :=
  deskResult c rd fun s => f (s.sreg c ra.toNat) k

def opAdd (a b : Nat) : Nat := a + b
def opSub (a b : Nat) : Nat := a + 2 ^ 32 - b
def opSll (a b : Nat) : Nat := a <<< (b % 32)
def opSrl (a b : Nat) : Nat := a >>> (b % 32)
def opSra (a b : Nat) : Nat := unsigned 32 (signed 32 a >>> (b % 32))
def opSlt (a b : Nat) : Nat := b2n (signed 32 a < signed 32 b)
def opSltu (a b : Nat) : Nat := b2n (a < b)
def opDivu (a b : Nat) : Nat := if b = 0 then 0xFFFFFFFF else a / b

def execDeskAdd (c : Cluster) (rd ra rb : BitVec 6) (s : State) : Host.Outcome State Fault Refusal :=
  deskMeaning c (.deskAdd c rd ra rb) (deskAlu c rd ra rb opAdd) s
def execDeskSub (c : Cluster) (rd ra rb : BitVec 6) (s : State) : Host.Outcome State Fault Refusal :=
  deskMeaning c (.deskSub c rd ra rb) (deskAlu c rd ra rb opSub) s
def execDeskAnd (c : Cluster) (rd ra rb : BitVec 6) (s : State) : Host.Outcome State Fault Refusal :=
  deskMeaning c (.deskAnd c rd ra rb) (deskAlu c rd ra rb (· &&& ·)) s
def execDeskOr (c : Cluster) (rd ra rb : BitVec 6) (s : State) : Host.Outcome State Fault Refusal :=
  deskMeaning c (.deskOr c rd ra rb) (deskAlu c rd ra rb (· ||| ·)) s
def execDeskXor (c : Cluster) (rd ra rb : BitVec 6) (s : State) : Host.Outcome State Fault Refusal :=
  deskMeaning c (.deskXor c rd ra rb) (deskAlu c rd ra rb (· ^^^ ·)) s
def execDeskSll (c : Cluster) (rd ra rb : BitVec 6) (s : State) : Host.Outcome State Fault Refusal :=
  deskMeaning c (.deskSll c rd ra rb) (deskAlu c rd ra rb opSll) s
def execDeskSrl (c : Cluster) (rd ra rb : BitVec 6) (s : State) : Host.Outcome State Fault Refusal :=
  deskMeaning c (.deskSrl c rd ra rb) (deskAlu c rd ra rb opSrl) s
def execDeskSra (c : Cluster) (rd ra rb : BitVec 6) (s : State) : Host.Outcome State Fault Refusal :=
  deskMeaning c (.deskSra c rd ra rb) (deskAlu c rd ra rb opSra) s
def execDeskSlt (c : Cluster) (rd ra rb : BitVec 6) (s : State) : Host.Outcome State Fault Refusal :=
  deskMeaning c (.deskSlt c rd ra rb) (deskAlu c rd ra rb opSlt) s
def execDeskSltu (c : Cluster) (rd ra rb : BitVec 6) (s : State) : Host.Outcome State Fault Refusal :=
  deskMeaning c (.deskSltu c rd ra rb) (deskAlu c rd ra rb opSltu) s
def execDeskMul (c : Cluster) (rd ra rb : BitVec 6) (s : State) : Host.Outcome State Fault Refusal :=
  deskMeaning c (.deskMul c rd ra rb) (deskAlu c rd ra rb (· * ·)) s
def execDeskMulhu (c : Cluster) (rd ra rb : BitVec 6) (s : State) : Host.Outcome State Fault Refusal :=
  deskMeaning c (.deskMulhu c rd ra rb) (deskAlu c rd ra rb fun a b => (a * b) / 2 ^ 32) s
def execDeskDivu (c : Cluster) (rd ra rb : BitVec 6) (s : State) : Host.Outcome State Fault Refusal :=
  deskMeaning c (.deskDivu c rd ra rb) (deskAlu c rd ra rb opDivu) s
def execDeskAddi (c : Cluster) (rd ra : BitVec 6) (imm : BitVec 14) (s : State) : Host.Outcome State Fault Refusal :=
  deskMeaning c (.deskAddi c rd ra imm) (deskAluI c rd ra (imm14 imm) opAdd) s
def execDeskAndi (c : Cluster) (rd ra : BitVec 6) (imm : BitVec 14) (s : State) : Host.Outcome State Fault Refusal :=
  deskMeaning c (.deskAndi c rd ra imm) (deskAluI c rd ra (imm14 imm) (· &&& ·)) s
def execDeskOri (c : Cluster) (rd ra : BitVec 6) (imm : BitVec 14) (s : State) : Host.Outcome State Fault Refusal :=
  deskMeaning c (.deskOri c rd ra imm) (deskAluI c rd ra (imm14 imm) (· ||| ·)) s
def execDeskSlli (c : Cluster) (rd ra : BitVec 6) (sh : BitVec 5) (s : State) : Host.Outcome State Fault Refusal :=
  deskMeaning c (.deskSlli c rd ra sh) (deskAluI c rd ra sh.toNat opSll) s
def execDeskSrli (c : Cluster) (rd ra : BitVec 6) (sh : BitVec 5) (s : State) : Host.Outcome State Fault Refusal :=
  deskMeaning c (.deskSrli c rd ra sh) (deskAluI c rd ra sh.toNat opSrl) s
def execDeskSrai (c : Cluster) (rd ra : BitVec 6) (sh : BitVec 5) (s : State) : Host.Outcome State Fault Refusal :=
  deskMeaning c (.deskSrai c rd ra sh) (deskAluI c rd ra sh.toNat opSra) s
def execDeskLui (c : Cluster) (rd : BitVec 6) (imm : BitVec 20) (s : State) : Host.Outcome State Fault Refusal :=
  deskMeaning c (.deskLui c rd imm) (deskResult c rd fun _ => imm.toNat <<< 12) s

/-! Data memory (R139, R143, R144, R147). -/

/-- A byte of data memory. -/
def State.dbyte (s : State) (c a : Nat) : Nat := s.rd .ddmem (65536 * c + a)

/-- A little-endian word of data memory. -/
def State.dword (s : State) (c a : Nat) : Nat :=
  s.dbyte c a + 256 * s.dbyte c (a + 1) + 65536 * s.dbyte c (a + 2) + 16777216 * s.dbyte c (a + 3)

/-- Store bytes into data memory. -/
def dstore (c a : Nat) : List Nat → Act
  | [] => .skip
  | b :: t => .seq (.put .ddmem (65536 * c + a) (b % 256)) (dstore c (a + 1) t)

/-- The cause of a data access of a word or byte at `a`, if it faults: the range is judged before alignment. -/
def dataCause (word : Bool) (a : Nat) : Option Nat :=
  if a < 0x4000 || 0xFFFF < a then some causeDmemRange
  else if word && a % 4 ≠ 0 then some causeMisalign else none

/-- An access at RA + IMM14, which faults with the instruction's effect undone or does `f` with the address. -/
def deskData (c : Nat) (ra : BitVec 6) (imm : BitVec 14) (word : Bool) (f : Nat → Act) : Act := deskOp c fun _ pc => .ask fun s =>
  let a := (s.sreg c ra.toNat + imm14 imm) % 2 ^ 32
  match dataCause word a with
  | some k => deskFault c k pc
  | none => .seq (f a) (deskNext c pc)

def execDeskLw (c : Cluster) (rd ra : BitVec 6) (imm : BitVec 14) (s : State) : Host.Outcome State Fault Refusal :=
  deskMeaning c (.deskLw c rd ra imm) (deskData c ra imm true fun a => .ask fun t => deskSet c rd.toNat (t.dword c a)) s
def execDeskSw (c : Cluster) (rb ra : BitVec 6) (imm : BitVec 14) (s : State) : Host.Outcome State Fault Refusal :=
  deskMeaning c (.deskSw c rb ra imm) (deskData c ra imm true fun a => .ask fun t => dstore c a (unpack 8 4 (t.sreg c rb.toNat))) s
def execDeskLbu (c : Cluster) (rd ra : BitVec 6) (imm : BitVec 14) (s : State) : Host.Outcome State Fault Refusal :=
  deskMeaning c (.deskLbu c rd ra imm) (deskData c ra imm false fun a => .ask fun t => deskSet c rd.toNat (t.dbyte c a)) s
def execDeskSb (c : Cluster) (rb ra : BitVec 6) (imm : BitVec 14) (s : State) : Host.Outcome State Fault Refusal :=
  deskMeaning c (.deskSb c rb ra imm) (deskData c ra imm false fun a => .ask fun t => dstore c a [t.sreg c rb.toNat]) s

/-! Branches and jumps (R142, R143, R147). -/

/-- A branch: the offset counts words from the branch. -/
def deskBranch (c : Nat) (ra rb : BitVec 6) (off : BitVec 14) (cond : Nat → Nat → Bool) : Act := deskOp c fun _ pc => .ask fun s =>
  if cond (s.sreg c ra.toNat) (s.sreg c rb.toNat) then deskJump c pc ((pc : Int) + off.toInt) .skip else deskNext c pc

def execDeskBeq (c : Cluster) (ra rb : BitVec 6) (imm : BitVec 14) (s : State) : Host.Outcome State Fault Refusal :=
  deskMeaning c (.deskBeq c ra rb imm) (deskBranch c ra rb imm fun a b => a = b) s
def execDeskBne (c : Cluster) (ra rb : BitVec 6) (imm : BitVec 14) (s : State) : Host.Outcome State Fault Refusal :=
  deskMeaning c (.deskBne c ra rb imm) (deskBranch c ra rb imm fun a b => a ≠ b) s
def execDeskBlt (c : Cluster) (ra rb : BitVec 6) (imm : BitVec 14) (s : State) : Host.Outcome State Fault Refusal :=
  deskMeaning c (.deskBlt c ra rb imm) (deskBranch c ra rb imm fun a b => signed 32 a < signed 32 b) s
def execDeskBge (c : Cluster) (ra rb : BitVec 6) (imm : BitVec 14) (s : State) : Host.Outcome State Fault Refusal :=
  deskMeaning c (.deskBge c ra rb imm) (deskBranch c ra rb imm fun a b => signed 32 b ≤ signed 32 a) s
def execDeskBltu (c : Cluster) (ra rb : BitVec 6) (imm : BitVec 14) (s : State) : Host.Outcome State Fault Refusal :=
  deskMeaning c (.deskBltu c ra rb imm) (deskBranch c ra rb imm fun a b => a < b) s
def execDeskBgeu (c : Cluster) (ra rb : BitVec 6) (imm : BitVec 14) (s : State) : Host.Outcome State Fault Refusal :=
  deskMeaning c (.deskBgeu c ra rb imm) (deskBranch c ra rb imm fun a b => b ≤ a) s

/-- JAL. -/
def deskJal (c : Nat) (rd : BitVec 6) (off : BitVec 20) : Act := deskOp c fun _ pc =>
  deskJump c pc ((pc : Int) + off.toInt) (deskSet c rd.toNat (pc + 1))

/-- JALR: the target is the word RA + IMM14, with RA read before RD is written. -/
def deskJalr (c : Nat) (rd ra : BitVec 6) (imm : BitVec 14) : Act := deskOp c fun _ pc => .ask fun s =>
  deskJump c pc (((s.sreg c ra.toNat + imm14 imm) % 2 ^ 32 : Nat) : Int) (deskSet c rd.toNat (pc + 1))

def execDeskJal (c : Cluster) (rd : BitVec 6) (imm : BitVec 20) (s : State) : Host.Outcome State Fault Refusal :=
  deskMeaning c (.deskJal c rd imm) (deskJal c rd imm) s
def execDeskJalr (c : Cluster) (rd ra : BitVec 6) (imm : BitVec 14) (s : State) : Host.Outcome State Fault Refusal :=
  deskMeaning c (.deskJalr c rd ra imm) (deskJalr c rd ra imm) s

/-! Floats (R144, R159). -/

/-- The FFLAGS bits of sticky flags: invalid, overflow, flushed. -/
def fflagsOf (fl : Nat) : Nat := b2n (bitAt fl 1) + 2 * b2n (bitAt fl 2) + 4 * b2n (bitAt fl 3)

/-- Accumulate FFLAGS. -/
def deskFlags (c fl : Nat) : Act := .ask fun s => .put .dcsr (4096 * c + 8) (s.rd .dcsr (4096 * c + 8) ||| fflagsOf fl)

/-- A float instruction: `f` gives the result word and the flags from the two operand values under FLUSH. -/
def deskFloat (c : Nat) (rd ra rb : BitVec 6) (f : Bool → Val → Val → Nat × Nat) : Act := deskOp c fun _ pc => .ask fun s =>
  let flush := s.get GLB_NUMCTL_FLUSH = 1
  let x := fp32.read flush (s.sreg c ra.toNat)
  let y := fp32.read flush (s.sreg c rb.toNat)
  let r := f flush x.1 y.1
  .all [deskSet c rd.toNat r.1, deskFlags c (x.2 ||| y.2 ||| r.2), deskNext c pc]

/-- One IEEE 754 operation: a NaN operand gives the canonical NaN without invalid (R159). -/
def ieeeOp (g : Val → Val → Val × Nat) (flush : Bool) (x y : Val) : Nat × Nat :=
  if x.isNan || y.isNan then (fp32.nanCode, 0)
  else
    let r := g x y
    let q := fp32.round .rne flush false r.1
    (q.1, r.2 ||| q.2)

def execDeskFadd (c : Cluster) (rd ra rb : BitVec 6) (s : State) : Host.Outcome State Fault Refusal :=
  deskMeaning c (.deskFadd c rd ra rb) (deskFloat c rd ra rb (ieeeOp Val.add)) s
def execDeskFsub (c : Cluster) (rd ra rb : BitVec 6) (s : State) : Host.Outcome State Fault Refusal :=
  deskMeaning c (.deskFsub c rd ra rb) (deskFloat c rd ra rb (ieeeOp fun a b => a.add b.neg)) s
def execDeskFmul (c : Cluster) (rd ra rb : BitVec 6) (s : State) : Host.Outcome State Fault Refusal :=
  deskMeaning c (.deskFmul c rd ra rb) (deskFloat c rd ra rb (ieeeOp Val.mul)) s
def execDeskFlt (c : Cluster) (rd ra rb : BitVec 6) (s : State) : Host.Outcome State Fault Refusal :=
  deskMeaning c (.deskFlt c rd ra rb) (deskFloat c rd ra rb fun _ x y => (b2n (!x.isNan && !y.isNan && x.cmp y < 0), 0)) s

/-- FCVTWS: a NaN gives 0; a NaN and a saturated result set invalid, and no other bit is set (R144). -/
def deskFcvtws (c : Nat) (rd ra : BitVec 6) : Act := deskOp c fun _ pc => .ask fun s =>
  let x := fp32.read (s.get GLB_NUMCTL_FLUSH = 1) (s.sreg c ra.toNat)
  let r := roundInt 32 .rne x.1
  .all [deskSet c rd.toNat r.1, deskFlags c (if r.2 = 0 then 0 else fInvalid), deskNext c pc]

/-- FCVTSW. -/
def deskFcvtsw (c : Nat) (rd ra : BitVec 6) : Act := deskResult c rd fun s => fp32Code (Val.ofInt (signed 32 (s.sreg c ra.toNat)))

def execDeskFcvtws (c : Cluster) (rd ra : BitVec 6) (s : State) : Host.Outcome State Fault Refusal :=
  deskMeaning c (.deskFcvtws c rd ra) (deskFcvtws c rd ra) s
def execDeskFcvtsw (c : Cluster) (rd ra : BitVec 6) (s : State) : Host.Outcome State Fault Refusal :=
  deskMeaning c (.deskFcvtsw c rd ra) (deskFcvtsw c rd ra) s

/-! Milestones (R145). -/

/-- MWAIT: a milestone already reached does not wait. -/
def deskMwait (c : Nat) (rd ra : BitVec 6) : Act := deskOp c fun _ _ => .ask fun s =>
  let m := s.sreg c ra.toNat % 2 ^ 16
  if s.reached m then deskRelease c rd.toNat (s.get (MLS_STATUS_CODE m))
  else .seq (modDesk c fun d => { d with wait := some (rd, m) }) (.set (CLU_DESK_STATE_RUN c) 2)

/-- WAIT_LIMIT passes: RD takes 0xFF and the milestone is untouched. -/
def mwaitTimeout (c : Nat) : Act := .ask fun s =>
  match (s.desk c).bind (·.wait) with
  | some w => .when (s.rd .dcsr (4096 * c + 0x100) ≠ 0)
      (.seq (modDesk c fun d => { d with wait := none }) (deskRelease c w.1.toNat 0xFF))
  | none => .skip

def execDeskMwait (c : Cluster) (rd ra : BitVec 6) (s : State) : Host.Outcome State Fault Refusal :=
  deskMeaning c (.deskMwait c rd ra) (deskMwait c rd ra) s
def execMwaitTimeout (c : Cluster) (s : State) : Host.Outcome State Fault Refusal := live (mwaitTimeout c) s

/-- MINC: a desk increment marks no stream (R50). -/
def execDeskMinc (c : Cluster) (ra rb : BitVec 6) (s : State) : Host.Outcome State Fault Refusal :=
  deskMeaning c (.deskMinc c ra rb) (deskOp c fun _ pc => .ask fun t =>
    .seq (mlsAdd (t.sreg c ra.toNat % 2 ^ 16) (t.sreg c rb.toNat) none) (deskNext c pc)) s
def execDeskMtgt (c : Cluster) (ra rb : BitVec 6) (s : State) : Host.Outcome State Fault Refusal :=
  deskMeaning c (.deskMtgt c ra rb) (deskOp c fun _ pc => .ask fun t =>
    .seq (mlsWrite (t.sreg c ra.toNat % 2 ^ 16) none (some (t.sreg c rb.toNat))) (deskNext c pc)) s
def execDeskMrd (c : Cluster) (rd ra : BitVec 6) (s : State) : Host.Outcome State Fault Refusal :=
  deskMeaning c (.deskMrd c rd ra) (deskResult c rd fun t => t.get (MLS_ENTRY_COUNT (t.sreg c ra.toNat % 2 ^ 16))) s

/-! Control and status registers (R145, R146). -/

/-- The value of a CSR; KCYCLE_LO is a free value, since the model has no KCLK (log entry 11), and an unlisted CSR reads 0. -/
def State.csr (s : State) (c : Nat) (d : DeskFiring) (n : Nat) : Nat :=
  match n with
  | 0x000 => c
  | 0x001 => s.chipId
  | 0x002 => s.stepNum (deskGraph d.alt.op)
  | 0x003 => s.period % 2 ^ 32
  | 0x004 => (Config.freeWord s.free).toNat
  | 0x005 => s.rd .dcsr (4096 * c + 5)
  | 0x006 => s.get GLB_BUDGET_SET_CUR
  | 0x007 => s.get GLB_MODE_ROLE
  | 0x008 => s.rd .dcsr (4096 * c + 8)
  | 0x100 => s.rd .dcsr (4096 * c + 0x100)
  | _ => 0

/-- CSRR: a read of KCYCLE_LO latches the high word. -/
def deskCsrr (c : Nat) (rd : BitVec 6) (n : BitVec 12) : Act := deskOp c fun d pc => .ask fun s =>
  .all [deskSet c rd.toNat (s.csr c d n.toNat),
    .when (n.toNat = 4) (.seq (.put .dcsr (4096 * c + 5) (Config.freeWord (s.free + 1)).toNat) (.upd (.free (s.free + 2)))),
    deskNext c pc]

/-- CSRW: FFLAGS and WAIT_LIMIT; a write to any other CSR is ignored. -/
def deskCsrw (c : Nat) (rb : BitVec 6) (n : BitVec 12) : Act := deskOp c fun _ pc => .ask fun s =>
  let v := s.sreg c rb.toNat
  .seq
    (if n.toNat = 8 then .put .dcsr (4096 * c + 8) (v % 8)
    else if n.toNat = 0x100 then .put .dcsr (4096 * c + 0x100) v else .skip)
    (deskNext c pc)

def execDeskCsrr (c : Cluster) (rd : BitVec 6) (csr : BitVec 12) (s : State) : Host.Outcome State Fault Refusal :=
  deskMeaning c (.deskCsrr c rd csr) (deskCsrr c rd csr) s
def execDeskCsrw (c : Cluster) (rb : BitVec 6) (csr : BitVec 12) (s : State) : Host.Outcome State Fault Refusal :=
  deskMeaning c (.deskCsrw c rb csr) (deskCsrw c rb csr) s

/-! Tiles (R141, R143, R144, R146). -/

/-- TIN: header and payload of an input binding go to data memory, and RD takes PAYLOAD_LEN. -/
def deskTin (c : Nat) (rd ra : BitVec 6) (b : Nat) : Act := deskOp c fun d pc => .ask fun s =>
  let a := s.sreg c ra.toNat
  match (d.alt.ins[b]?).join with
  | none => deskFault c causeBinding pc
  | some n =>
    let t := s.inputD n
    if a < 0x4000 || 0xFFFF < a then deskFault c causeDmemRange pc
    else if 0x10000 < a + t.recordLen then deskFault c causeTinSize pc
    else .all [dstore c a (t.record.map fun x => x.toNat), deskSet c rd.toNat (hPayloadLen t.head), deskNext c pc]

/-- The tile in data memory at `a`. -/
def State.dtile (s : State) (c a : Nat) : Tile :=
  let head := packFast 8 ((List.range 32).map fun i => s.dbyte c (a + i))
  ⟨packFast 8 ((List.range (32 + hPayloadLen head)).map fun i => s.dbyte c (a + i))⟩

/-- TOUT: a tile from data memory is emitted; a second one to the same binding is discarded with BAD_HEADER, and so is one that
fails R24. -/
def deskTout (c : Nat) (ra : BitVec 6) (b : Nat) : Act := deskOp c fun d pc => .ask fun s =>
  let a := s.sreg c ra.toNat
  match (d.alt.outs[b]?).join with
  | none => deskFault c causeBinding pc
  | some n =>
    if a < 0x4000 || 0xFFFF < a then deskFault c causeDmemRange pc
    else if 0x10000 < a + 32 || 0x10000 < a + (s.dtile c a).recordLen then deskFault c causeTinSize pc
    else
      let k := (d.touts[b]?).getD 0
      let t := s.dtile c a
      let poisoned := d.alt.inputs.any fun i => hPoison (s.inputD i).head
      let t' := (t.withPoison poisoned).stamp (s.get (STR_NEXT_SEQ n)) (s.stepNum (deskGraph d.alt.op)) s.chipId
      .all [
        if k ≠ 0 || !headerValid t.head then badHeader n else emit n t',
        modDesk c (fun d => { d with touts := (d.touts.take b) ++ [k + 1] ++ (d.touts.drop (b + 1)) }),
        deskNext c pc]

def execDeskTin (c : Cluster) (rd ra : BitVec 6) (bind : BitVec 2) (s : State) : Host.Outcome State Fault Refusal :=
  deskMeaning c (.deskTin c rd ra bind) (deskTin c rd ra bind.toNat) s
def execDeskTout (c : Cluster) (ra : BitVec 6) (bind : BitVec 1) (s : State) : Host.Outcome State Fault Refusal :=
  deskMeaning c (.deskTout c ra bind) (deskTout c ra bind.toNat) s

/-! Firing (R140, R141). -/

/-- Admission of a DESK firing: it executes from ENTRY. -/
def deskAdmit (c : Nat) (a : Alt) : Act :=
  .all [.ask fun s => .upd (.desks (s.desks ++ [{ cluster := Fin.ofNat 36 c, alt := a, touts := [0, 0], wait := none }])),
    .set (CLU_DESK_STATE_PC c) (bits a.op 8 14), .set (CLU_DESK_STATE_RUN c) 1, stnRefresh (deskEp c),
    idleRefresh (deskGraph a.op)]

/-- Readiness of a DESK alternative (R37, R140). -/
def State.deskReady (s : State) (a : Alt) : Bool := s.altReady a && !s.held (deskGraph a.op)

/-- DESK_RUN: the DESK has no resource class; its graph must not be frozen or halted (R140). -/
def deskRun (c : Nat) : Act := .ask fun s =>
  .when (s.desk c).isNone
    (fireOn (deskEp c) 0 s.deskReady (fun a => bits a.op 0 4 = 1) fun a =>
      if s.badInputs a ≠ [] then .each (s.badInputs a) badHeader else deskAdmit c a)

def execDeskRun (c : Cluster) (s : State) : Host.Outcome State Fault Refusal := live (deskRun c) s

/-- HALT: the tile boundary. A bound output without a TOUT sets BAD_HEADER and keeps its credit and NEXT_SEQ (R141). -/
def deskHalt (c : Nat) : Act := deskOp c fun d pc =>
  let missing := (d.alt.outs.zip d.touts).filterMap fun p => if p.2 = 0 then p.1 else none
  .all [deskNext c pc, .each missing badHeader, finishFiring (deskEp c) 0 d.alt [],
    .ask fun s => .upd (.desks (s.desks.filter fun x => x.cluster.val ≠ c)), .set (CLU_DESK_STATE_RUN c) 0,
    boundary (deskEp c), idleRefresh (deskGraph d.alt.op)]

def execDeskHalt (c : Cluster) (s : State) : Host.Outcome State Fault Refusal := deskMeaning c (.deskHalt c) (deskHalt c) s

/-- ILLEGAL_INSTRUCTION (R147): the word at PC spells no command; no effect but the fault. -/
def execIllegalInstruction (c : Cluster) (s : State) : Host.Outcome State Fault Refusal :=
  live (.when (s.deskIssues c none) (deskOp c fun _ pc => deskFault c causeIllegal pc)) s

/-! The memory window (R139, R148). -/

/-- The word that CLU_DESK_MEM_ADDR names: firmware regions read 0. -/
def State.deskMemWord (s : State) (c : Nat) : Nat :=
  let a := s.get (CLU_DESK_MEM_ADDR_ADDR c) / 4 * 4
  if a < 0x4000 then 0
  else if s.get (CLU_DESK_MEM_ADDR_SPACE c) = 1 then s.rd .dimem (16384 * c + a / 4) else s.dword c a

/-- A read (none) or a write of CLU_DESK_MEM_DATA: writes are discarded unless the desk is quiesced, and in firmware regions. -/
def deskMemAccess (c : Nat) (v : Option Nat) : Act := .ask fun s =>
  let a := s.get (CLU_DESK_MEM_ADDR_ADDR c) / 4 * 4
  .seq
    (match v with
    | some x => .when (s.get (STN_STATUS_QUIESCED (deskEp c)) = 1 && 0x4000 ≤ a)
        (if s.get (CLU_DESK_MEM_ADDR_SPACE c) = 1 then .put .dimem (16384 * c + a / 4) (x % 2 ^ 32) else dstore c a (unpack 8 4 x))
    | none => .upd (.readOut (s.deskMemWord c)))
    (.when (s.get (CLU_DESK_MEM_ADDR_AUTOINC c) = 1) (.set (CLU_DESK_MEM_ADDR_ADDR c) (s.get (CLU_DESK_MEM_ADDR_ADDR c) + 4)))

def execDeskMemDataAccess (c : Cluster) (val : Option (BitVec 32)) (s : State) : Host.Outcome State Fault Refusal :=
  live (deskMemAccess c (val.map (·.toNat))) s

end Sys2Proof.Machine
end

