-- ==== Sys2Proof/Machine/Sha.lean ====
section
/-!
DEFINITION. SHAKE256 (R345, R349, R399, R407): the extendable-output function of FIPS 202, over byte strings. The spec names the
function and gives no algorithm (PRESUMED, log entry 13).
-/

namespace Sys2Proof.Machine

/-- Rotate a 64-bit lane left. -/
def rotl64 (x r : Nat) : Nat := ((x <<< (r % 64)) % 2 ^ 64) ||| (x >>> (64 - r % 64))

/-- One step of the register that the round constants are read from, over x^8 + x^6 + x^5 + x^4 + 1. -/
def keccakStep (r : Nat) : Nat := if 2 * r < 256 then 2 * r else (2 * r) ^^^ 0x171

/-- Round constants, from a state of that register: bit 2^j − 1 of each is the low bit of the j-th of seven states. -/
def keccakConstants : Nat → Nat → List Nat
  | 0, _ => []
  | n + 1, r =>
    let c := (List.range 7).foldl (fun x j => (x.1 + x.2 % 2 * 2 ^ (2 ^ j - 1), keccakStep x.2)) (0, r)
    c.1 :: keccakConstants n c.2

/-- A lane of a state of 25 lanes. -/
def lane (a : List Nat) (i : Nat) : Nat := (a[i]?).getD 0

/-- Step θ. -/
def keccakTheta (a : List Nat) : List Nat :=
  let c := (List.range 5).map fun x => lane a x ^^^ lane a (x + 5) ^^^ lane a (x + 10) ^^^ lane a (x + 15) ^^^ lane a (x + 20)
  let d := (List.range 5).map fun x => lane c ((x + 4) % 5) ^^^ rotl64 (lane c ((x + 1) % 5)) 1
  (List.range 25).map fun i => lane a i ^^^ lane d (i % 5)

/-- The lane to which π moves lane i = x + 5y: lane (y, 2x + 3y). -/
def keccakMove (i : Nat) : Nat := i / 5 + 5 * ((2 * (i % 5) + 3 * (i / 5)) % 5)

/-- How far ρ turns lane `i`: lane 0 not at all, and the `t`-th lane of the cycle that π makes of the others, from lane `j`, by the
(t + 1)-th triangular number. -/
def keccakTurn (i : Nat) : Nat → Nat → Nat → Nat
  | 0, _, _ => 0
  | n + 1, t, j => if i = j then (t + 1) * (t + 2) / 2 % 64 else keccakTurn i n (t + 1) (keccakMove j)

/-- Steps ρ and π: the lane that π moves to lane (x, y) is lane (x + 3y, x). -/
def keccakRhoPi (a : List Nat) : List Nat :=
  (List.range 25).map fun i =>
    let j := (i % 5 + 3 * (i / 5)) % 5 + 5 * (i % 5)
    rotl64 (lane a j) (keccakTurn j 24 0 1)

/-- Step χ. -/
def keccakChi (a : List Nat) : List Nat :=
  (List.range 25).map fun i =>
    let y := 5 * (i / 5)
    lane a i ^^^ ((lane a (y + (i + 1) % 5) ^^^ (2 ^ 64 - 1)) &&& lane a (y + (i + 2) % 5))

/-- One round. -/
def keccakRound (a : List Nat) (rc : Nat) : List Nat :=
  match keccakChi (keccakRhoPi (keccakTheta a)) with
  | [] => []
  | h :: t => (h ^^^ rc) :: t

/-- Keccak-f[1600]. -/
def keccakF (a : List Nat) : List Nat := (keccakConstants 24 1).foldl keccakRound a

/-- Bytes of a SHAKE256 block. -/
def shakeRate : Nat := 136

/-- Absorb a block of 136 bytes. -/
def absorb (a : List Nat) (block : List Byte) : List Nat :=
  let n := leNat block
  keccakF (a.zipIdx.map fun p => if p.2 < 17 then p.1 ^^^ bits n (64 * p.2) 64 else p.1)

/-- The padded message: domain bits 1111, then 10*1. -/
def shakePad (m : List Byte) : List Byte :=
  let k := shakeRate - m.length % shakeRate
  if k = 1 then m ++ [0x9F#8] else m ++ [0x1F#8] ++ List.replicate (k - 2) 0#8 ++ [0x80#8]

/-- Absorb `n` blocks. -/
def absorbAll : Nat → List Nat → List Byte → List Nat
  | 0, a, _ => a
  | n + 1, a, m => absorbAll n (absorb a (m.take shakeRate)) (m.drop shakeRate)

/-- The first `n` output bytes of SHAKE256, for n up to 136. -/
def shake256 (n : Nat) (m : List Byte) : List Byte :=
  let p := shakePad m
  leBytes n (packFast 64 (absorbAll (p.length / shakeRate) (List.replicate 25 0) p))

end Sys2Proof.Machine
end

