-- ==== Sys2Proof/Machine/Image.lean ====
section
/-!
DEFINITION. The plan image (R342–R348): container header, section table, sections and their items, read from device memory.
-/

namespace Sys2Proof.Machine

open Reg

/-- The image at GLB_PLAN_ADDR: its device address, and its bytes as a little-endian number. -/
structure Image where
  addr : Nat
  raw : Nat
  deriving DecidableEq, Repr

/-- `n` bytes of an image at offset `o`, little-endian (R342). -/
def Image.u (m : Image) (o n : Nat) : Nat := bits m.raw (8 * o) (8 * n)

/-- Bytes of an image. -/
def Image.bytes (m : Image) (o n : Nat) : List Byte := leBytes n (m.u o n)

/-! The container header (R342). -/

def Image.length (m : Image) : Nat := m.u 8 8
def Image.signed (m : Image) : Bool := m.u 6 2 % 2 = 1
def Image.planHash (m : Image) : Nat := m.u 16 32
def Image.targetSerial (m : Image) : Nat := m.u 48 8
def Image.targetCoord (m : Image) : Nat := m.u 56 3
def Image.sectionCount (m : Image) : Nat := m.u 60 2
def Image.tableOffset (m : Image) : Nat := m.u 64 4

/-- The image that GLB_PLAN_ADDR names; a LENGTH out of range is read no further than 2^31 bytes (R342, R351). -/
def State.image (s : State) : Image :=
  let a := s.get GLB_PLAN_ADDR_ADDR * 64
  let n := Mem.nat s.mem (a + 8) 8
  ⟨a, Mem.nat s.mem a (max 128 (min n (2 ^ 31)))⟩

/-- Bytes from an address to the end of its channel's trained capacity; 0 outside the shelves (R351, R360). -/
def State.roomAt (s : State) (a : Nat) : Nat :=
  if a < shelfBase || shelfBase + 16 * shelfSpan ≤ a then 0
  else s.shelfCap ((a - shelfBase) / shelfSpan) - (a - shelfBase) % shelfSpan

/-! Sections (R343, R344). -/

/-- A section: its index in the table, TYPE, the offset of its header, and its body. -/
structure Section where
  index : Nat
  type : Nat
  off : Nat
  len : Nat
  body : Nat
  deriving DecidableEq, Repr

/-- `n` bytes of a body at offset `o`. -/
def Section.u (x : Section) (o n : Nat) : Nat := bits x.body (8 * o) (8 * n)

/-- The sections of an image, in table order. -/
def Image.sections (m : Image) : List Section :=
  (List.range m.sectionCount).map fun i =>
    let e := m.tableOffset + 8 * i
    let o := m.u (e + 4) 4
    let n := m.u (o + 4) 4
    ⟨i, m.u e 2, o, n, m.u (o + 12) n⟩

/-- The section of a type; an absent one is empty (R344). -/
def Image.section (m : Image) (t : Nat) : Section := (m.sections.find? fun x => x.type = t).getD ⟨0, t, 0, 0, 0⟩

/-- The `count` items of `size` bytes of a body from offset `o`. -/
def Section.items (x : Section) (o count size : Nat) : List Nat := (List.range count).map fun i => x.u (o + i * size) size

/-- Items after a 4-byte count; an empty section has none. -/
def Section.counted (x : Section) (size : Nat) : List Nat := x.items 4 (x.u 0 4) size

/-! Station records (R347). -/

/-- A station record: its program, what the checks need besides, and its image. -/
structure Rec where
  endpt : Nat
  part : Nat
  /-- STEPS as the record gives it. -/
  count : Nat
  /-- ALT_COUNT of each step. -/
  altCounts : List Nat
  steps : List Step
  imageLen : Nat
  image : Nat
  deriving DecidableEq, Repr

/-- An alternative at offset `o` of a body (R347). -/
def Section.alt (x : Section) (o : Nat) : Alt :=
  let b (k : Nat) : Option Nat :=
    let w := x.u (o + 8 + 4 * k) 4
    if bitAt w 31 then some (w % 2 ^ 18) else none
  ⟨x.u o 8, [b 0, b 1, b 2], [b 3, b 4]⟩

/-- `n` steps from offset `o`, with their ALT_COUNTs and the offset past them. -/
def Section.readSteps (x : Section) : Nat → Nat → List (Nat × Step) × Nat
  | 0, o => ([], o)
  | n + 1, o =>
    let k := x.u (o + 2) 1
    let st : Step := ⟨x.u o 2, (List.range k).map fun i => x.alt (o + 8 + 32 * i)⟩
    let r := x.readSteps n (o + 8 + 32 * k)
    ((k, st) :: r.1, r.2)

/-- `n` station records from offset `o`, and the offset past them. -/
def Section.readRecs (x : Section) : Nat → Nat → List Rec × Nat
  | 0, o => ([], o)
  | n + 1, o =>
    let c := x.u (o + 4) 2
    let st := x.readSteps c (o + 16)
    let k := x.u (o + 8) 4
    let r : Rec := ⟨x.u o 2 % 512, x.u (o + 2) 1, c, st.1.map (·.1), st.1.map (·.2), k, x.u st.2 k⟩
    let t := x.readRecs n (st.2 + k)
    (r :: t.1, t.2)

/-! The plan as the checks and the activation read it. -/

/-- The items of an image, by section. -/
structure Plan where
  recs : List Rec
  /-- Stream number and STR_ENTRY image (R346). -/
  streams : List (Nat × Nat)
  mls : List (Nat × Nat)
  regions : List Region
  /-- The fixed part of ROUTES, and multicast group and LNK_MCAST image. -/
  routes : Nat
  mcasts : List (Nat × Nat)
  detours : List Detour
  /-- The substitution counts of the detour items. -/
  substCounts : List Nat
  sampleL : Nat
  groups : List (Nat × Nat)
  descs : List (Nat × Nat)
  buckets : List (Nat × Nat)
  budgets : Nat
  scales : List (Nat × Nat)
  seed : Nat
  ports : Nat
  coords : List (Nat × Nat)
  struct : Nat
  step : Nat
  checks : List Nat
  deriving DecidableEq, Repr

/-- An item whose key is its first two bytes, with the `w`-bit image at bit `lo`. -/
def keyed (lo w n : Nat) : Nat × Nat := (n % 2 ^ 16, bits n lo w)

/-- A MEMORY_MAP item (R198, R346). -/
def regionOf (n : Nat) : Region :=
  ⟨n % 2 ^ 16, bits n 16 8, bits n 64 64, bits n 128 16, bits n 160 32, bitAt n 24, bits n 25 3⟩

/-- A DETOURS item (R306, R346). -/
def detourOf (n : Nat) : Detour :=
  ⟨n % 2 ^ 16, bits n 16 16, bitAt n 32, bits n 64 32,
   (List.range (min 4 (bits n 96 8))).map fun i => (bits n (128 + 32 * i) 12, bits n (144 + 32 * i) 12)⟩

/-- Read the items of an image (R346). -/
def Image.plan (m : Image) : Plan :=
  let pr := m.section 1
  let ro := m.section 5
  let gr := m.section 7
  let n1 := gr.u 0 2
  let n2 := gr.u 2 2
  let n3 := gr.u 4 2
  let dt := (m.section 6).counted 32
  { recs := (pr.readRecs (pr.u 0 4) 4).1
    streams := ((m.section 2).counted 72).map fun n => (n % 2 ^ 32, bits n 64 512)
    mls := ((m.section 3).counted 16).map (keyed 32 96)
    regions := ((m.section 4).counted 32).map regionOf
    routes := ro.u 0 2184
    mcasts := (ro.items 2188 (ro.u 2184 4) 12).map (keyed 32 64)
    detours := dt.map detourOf
    substCounts := dt.map fun n => bits n 96 8
    sampleL := gr.u 6 1
    groups := (gr.items 16 n1 72).map (keyed 64 512)
    descs := (gr.items (16 + 72 * n1) n2 72).map (keyed 64 512)
    buckets := (gr.items (16 + 72 * (n1 + n2)) n3 40).map (keyed 64 256)
    budgets := (m.section 8).body
    scales := ((m.section 9).counted 24).map (keyed 64 128)
    seed := (m.section 10).u 0 8
    ports := (m.section 11).body
    coords := ((m.section 12).counted 16).map fun n => (n % 2 ^ 64, bits n 64 24)
    struct := (m.section 13).body
    step := (m.section 14).body
    checks := if (m.section 15).len = 0 then List.replicate 16 0 else (m.section 15).items 0 16 64 }

/-- Body bytes that the layout of a section gives, from what the body itself counts (R346). -/
def Section.expected (x : Section) : Nat :=
  let counted (size : Nat) : Nat := 4 + size * x.u 0 4
  match x.type with
  | 1 => (x.readRecs (x.u 0 4) 4).2
  | 2 => counted 72
  | 3 => counted 16
  | 4 => counted 32
  | 5 => 2188 + 12 * x.u 2184 4
  | 6 => counted 32
  | 7 => 16 + 72 * (x.u 0 2 + x.u 2 2) + 40 * x.u 4 2
  | 8 => 2576
  | 9 => counted 24
  | 10 => 16
  | 11 => 832
  | 12 => counted 16
  | 13 => 256
  | 14 => 256
  | 15 => 1024
  | _ => 0

/-! Fields of the sections without items (R346). -/

/-- Whether ENABLE names an endpoint. -/
def Plan.enable (p : Plan) (e : Nat) : Bool := e < 0x1F0 && bitAt p.struct e

/-- SPLIT of bench `b` of cluster `c`. -/
def Plan.split (p : Plan) (c b : Nat) : Bool := bitAt p.struct (8 * 64 + c * 4 + b)

/-- CHECK_TOL of a bench. -/
def Plan.tol (p : Plan) (c b : Nat) : Nat := bits p.struct (8 * (96 + c * 4 + b)) 8

/-- FLUSH. -/
def Plan.flush (p : Plan) : Nat := bits p.struct (8 * 240) 1

/-- Whether a graph is in use. -/
def Plan.graph (p : Plan) (g : Nat) : Bool := bitAt p.struct (8 * 241 + g)

/-- MEMBERS, ROLE and VALID of a port. -/
def Plan.members (p : Plan) (i : Nat) : Nat := bits p.ports (128 * i) 64
def Plan.portRole (p : Plan) (i : Nat) : Nat := bits p.ports (128 * i + 64) 8
def Plan.portValid (p : Plan) (i : Nat) : Bool := bitAt p.ports (128 * i + 72)

/-- EXP_SERIAL, EXP_LINK and EXP_VALID of a link. -/
def Plan.expSerial (p : Plan) (l : Nat) : Nat := bits p.ports (8 * (256 + 16 * l)) 64
def Plan.expLink (p : Plan) (l : Nat) : Nat := bits p.ports (8 * (256 + 16 * l + 8)) 8
def Plan.expValid (p : Plan) (l : Nat) : Bool := bitAt p.ports (8 * (256 + 16 * l + 9))

/-- The valid port a link belongs to. -/
def Plan.portOf (p : Plan) (l : Nat) : Option Nat :=
  (List.range 16).find? fun i => p.portValid i && bitAt (p.members i) l

/-- A 32-bit word of a graph's STEP record: 0 the step number, 1 POLICY, 2 GROUP, 3 CFG. -/
def Plan.stepWord (p : Plan) (g w : Nat) : Nat := bits p.step (256 * g + 32 * w) 32

/-- Step transactions in use for a graph. -/
def Plan.stepEnabled (p : Plan) (g : Nat) : Bool := bitAt (p.stepWord g 3) 31

/-- A share: set, graph, field index (R364, R370). -/
def Plan.share (p : Plan) (set g f : Nat) : Nat := bits p.budgets (8 * (16 + set * 640 + g * 80) + 16 * f) 16

/-- INITIAL. -/
def Plan.initial (p : Plan) : Nat := bits p.budgets 0 8

/-- The STR_ENTRY image of a stream. -/
def Plan.stream (p : Plan) (n : Nat) : Option Nat := (p.streams.find? fun x => x.1 = n).map (·.2)

/-- Fields of a STR_ENTRY image (R30). -/
def seRemote (e : Nat) : Bool := bitAt e 1
def seSide (e : Nat) : Bool := bitAt e 2
def seGraph (e : Nat) : Nat := bits e 3 3
def seSrc (e : Nat) : Nat := bits e 6 9
def seDst (e : Nat) : Nat := bits e 15 9
def seVc (e : Nat) : Nat := bits e 24 3
def seWaitEn (e : Nat) : Bool := bitAt e 27
def seCreditMax (e : Nat) : Nat := bits e 144 16
def seMlsDone (e : Nat) : Nat := bits e 160 16
def seMlsWait (e : Nat) : Nat := bits e 176 16
def seDoneTiles (e : Nat) : Nat := bits e 192 32
def seWdLimit (e : Nat) : Nat := bits e 224 24

/-- A region by number. -/
def Plan.region (p : Plan) (n : Nat) : Option Region := p.regions.find? fun r => r.num = n

/-- A VSY_GROUP image by group, when this chip holds it. -/
def Plan.group (p : Plan) (g : Nat) : Option Nat := (p.groups.find? fun x => x.1 = g && bitAt x.2 0).map (·.2)

/-- Fields of a VSY_GROUP image (R276). -/
def vgGraph (e : Nat) : Nat := bits e 1 3
def vgDetourEn (e : Nat) : Bool := bitAt e 4
def vgLevels (e : Nat) : Nat := bits e 23 2 + 1
def vgAxis (e l : Nat) : Nat := bits e (128 + 32 * l) 2
def vgDlvl (e l : Nat) : Bool := bitAt e (130 + 32 * l)
def vgBase (e l : Nat) : Nat := bits e (132 + 32 * l) 8
def vgSize (e l : Nat) : Nat := bits e (140 + 32 * l) 8 + 1
def vgDigit (e l : Nat) : Nat := bits e (148 + 32 * l) 8
def vgSizes (e : Nat) : List Nat := (List.range (vgLevels e)).map (vgSize e)
def vgDetourLevels (e : Nat) : List Nat := (List.range (vgLevels e)).filter (vgDlvl e)

/-- A chip's coordinate on an axis: 0 W, 1 X, 2 Y, 3 Z (R230). -/
def coordAt (id a : Nat) : Nat := if a = 0 then bits id 20 4 else if a = 1 then bits id 16 4 else if a = 2 then bits id 8 8 else bits id 0 8

/-- A VSY_DESC image by tag. -/
def Plan.desc (p : Plan) (t : Nat) : Option Nat := (p.descs.find? fun x => x.1 = t && bitAt x.2 0).map (·.2)

/-- A VSY_BUCKET image by tag. -/
def Plan.bucket (p : Plan) (t : Nat) : Option Nat := (p.buckets.find? fun x => x.1 = t).map (·.2)

/-- A GLB_SCALE_SLOT image by slot. -/
def Plan.scale (p : Plan) (n : Nat) : Option Nat := (p.scales.find? fun x => x.1 = n && bitAt x.2 63).map (·.2)

/-- Whether MILESTONES holds a milestone. -/
def Plan.hasMls (p : Plan) (m : Nat) : Bool := p.mls.any fun x => x.1 = m

end Sys2Proof.Machine
end

