-- ==== Sys2Proof/Machine/Vec.lean ====
section
/-!
DEFINITION. The vector engine (R119–R137): admission of a VEC firing, each vector instruction as one command, and VEND.
-/

namespace Sys2Proof.Machine

open Reg

/-! Element types (R120) and operand forms (R127, R128). -/

/-- Element width in bits. -/
def etWidth (et : Nat) : Nat := if et = 0 ∨ et = 5 ∨ et = 6 then 8 else if et = 2 ∨ et = 3 then 16 else 32

/-- The tile format code of an element type (R23). -/
def etFmt (et : Nat) : Nat :=
  match et with
  | 0 => 0x02
  | 1 => 0x03
  | 2 => 0x08
  | 3 => 0x09
  | 4 => 0x0A
  | 5 => 0x06
  | _ => 0x07

/-- Whether an element type is an integer type. -/
def etInt (et : Nat) : Bool := et = 0 || et = 1

/-- The float format of a float element type. -/
def etFloat (et : Nat) : FFmt := if et = 2 then fp16 else if et = 3 then bf16 else if et = 4 then fp32 else if et = 5 then kf8 else kf8w

/-- Endpoint of cluster `c`'s VEC (R28). -/
def vecEp (c : Nat) : Nat := c * 8 + 4

/-- The VEC firing in progress in a cluster. -/
def State.vec (s : State) (c : Nat) : Option VecFiring := s.vecs.find? fun v => v.cluster.val = c

/-- Change the VEC firing in progress. -/
def modVec (c : Nat) (f : VecFiring → VecFiring) : Act := .ask fun s =>
  .upd (.vecs (s.vecs.map fun v => if v.cluster.val = c then f v else v))

/-- Set the sticky flags of an instruction on every stream of the firing (R131). -/
def vecFlags (v : VecFiring) (fl : Nat) : Act := .when (fl ≠ 0) (.each v.alt.streams fun n => raiseFlags n fl)

def State.vreg1 (s : State) (c r : Nat) : Nat := s.rd .vreg (32 * c + r)
def State.vmask1 (s : State) (c m : Nat) : Nat := s.rd .vmask (8 * c + m)
def State.vaddr1 (s : State) (c a : Nat) : Nat := s.rd .vaddr (4 * c + a)
def setVreg (c r v : Nat) : Act := .put .vreg (32 * c + r) (v % 2 ^ 8192)
def setVmask (c m v : Nat) : Act := .put .vmask (8 * c + m) (v % 2 ^ 1024)
def setVaddr (c a v : Nat) : Act := .put .vaddr (4 * c + a) (v % 2 ^ 32)

/-- A register of the desk snapshot (R125). -/
def VecFiring.sreg (v : VecFiring) (r : Nat) : Nat := (v.snap[r]?).getD 0

/-- The active elements below `n`, as bits (R120, R128). -/
def State.activeBits (s : State) (c : Nat) (i : VInsn) (n : Nat) : Nat :=
  if i.men then s.vmask1 c i.msk.toNat % 2 ^ n else 2 ^ n - 1

/-- Element `e` of width `w` of source A, B and C; B is a broadcast scalar when SB = 1 (R127, R128). -/
def State.elemA (s : State) (c : Nat) (i : VInsn) (w e : Nat) : Nat := bits (s.vreg1 c i.va.toNat) (e * w) w
def State.elemB (s : State) (v : VecFiring) (i : VInsn) (w e : Nat) : Nat :=
  if i.sb then v.sreg i.sa.toNat % 2 ^ w else bits (s.vreg1 v.cluster.val i.vb.toNat) (e * w) w
def State.elemC (s : State) (c : Nat) (i : VInsn) (w e : Nat) : Nat := bits (s.vreg1 c i.vc.toNat) (e * w) w

/-- Write VD element by element (R120, R127, R128): a masked-off element becomes 0 when MZ = 1 and keeps its value otherwise; an
element outside `named` keeps its value. `f` gives an element's code and flags. -/
def writeElems (v : VecFiring) (i : VInsn) (w : Nat) (named : Nat → Bool) (f : Nat → Nat × Nat) : Act := .ask fun s =>
  let n := 8192 / w
  let act := s.activeBits v.cluster.val i n
  let old := s.vreg1 v.cluster.val i.vd.toNat
  let r := (List.range n).map fun e =>
    if !named e then (bits old (e * w) w, 0)
    else if bitAt act e then f e
    else (if i.mz then 0 else bits old (e * w) w, 0)
  .seq (setVreg v.cluster.val i.vd.toNat (packFast w (r.map (·.1)))) (vecFlags v (r.foldl (fun x y => x ||| y.2) 0))

/-- The stream that R78 selects as c2; of an alternative that binds none, the spec names none, and the value is free (log entry 37). -/
def VecFiring.c2 (v : VecFiring) : Nat :=
  match v.alt.outputs ++ v.alt.inputs with
  | n :: _ => n
  | [] => (Config.noStream v.cluster.val).toNat

/-- The rounding of destination element `e` (R135): RNE, or SR at position t × 2^22 + pc × 2^10 + 8⌊e/8⌋. -/
def State.vecRnd (s : State) (v : VecFiring) (i : VInsn) (pc e : Nat) : Rnd :=
  if i.rnd then
    .sr (groupHalf (cgAt s.seed (v.ord * 2 ^ 22 + pc * 2 ^ 10 + 8 * (e / 8)) v.c2 (s.stepNum v.graph)) (e % 8))
  else .rne

/-! Issue (R129, R130) and loops (R134). -/

/-- Issue an instruction: it takes the first cycle in which its sources are ready and its unit accepts it. `gap` is the number of
cycles before the unit accepts the operation again. -/
def VecFiring.issue (v : VecFiring) (op : Nat) (srcs : List Nat) (dst : Option Nat) (lat gap : Nat) : VecFiring :=
  let find (l : List (Nat × Nat)) (k : Nat) : Nat := ((l.find? fun p => p.1 = k).map (·.2)).getD 0
  let t := srcs.foldl (fun t r => max t (find v.ready r)) (max v.clock (find v.units op))
  { v with
    clock := t + 1
    ready := match dst with
      | some d => (d, t + lat) :: v.ready.filter fun p => p.1 ≠ d
      | none => v.ready
    units := if gap ≤ 1 then v.units else (op, t + gap) :: v.units.filter fun p => p.1 ≠ op }

/-- The counter of a loop at a nesting depth, 1 the outer. -/
def setLoopCnt (c depth v : Nat) : Act := if depth = 1 then .set (CLU_VEC_LOOP_CNT0 c) v else .set (CLU_VEC_LOOP_CNT1 c) v
def State.loopCnt (s : State) (c depth : Nat) : Nat :=
  if depth = 1 then s.get (CLU_VEC_LOOP_CNT0 c) else s.get (CLU_VEC_LOOP_CNT1 c)

/-- Go on after the instruction at `p`: back to the start of a loop that ends there and has repetitions left, or past it. The
first argument bounds the loops that can end at one instruction. -/
def vecGoOn : Nat → Nat → Nat → Act
  | 0, c, p => .set (CLU_VEC_STATE_PC c) (p + 1)
  | k + 1, c, p => .ask fun s =>
    match (s.vec c).map (·.loops) with
    | some ((first, last) :: rest) =>
      let d := rest.length + 1
      if p ≠ last then .set (CLU_VEC_STATE_PC c) (p + 1)
      else if 1 < s.loopCnt c d then
        .all [setLoopCnt c d (s.loopCnt c d - 1), .set (CLU_VEC_STATE_PC c) first, modVec c fun v => { v with clock := v.clock + 1 }]
      else .all [setLoopCnt c d 0, modVec c (fun v => { v with loops := rest }), .set (CLU_VEC_STATE_LOOP_DEPTH c) rest.length,
        vecGoOn k c p]
    | _ => .set (CLU_VEC_STATE_PC c) (p + 1)

/-- Timing of an operation: OP, source registers (v0–v31, m0–m7 from 32, a0–a3 from 40), destination, latency and gap. -/
structure VecTime where
  op : Nat
  srcs : List Nat
  dst : Option Nat
  lat : Nat
  gap : Nat

/-- Charge the cycles that the firing has run and not been charged yet (R40, R122): a time class is charged as the firing proceeds. -/
def vecPay (c : Nat) : Act := .ask fun s =>
  match s.vec c with
  | some v => .seq (.when (v.alt.streams ≠ []) (chargeFor (allowKey (vecEp c) 0 v.graph) (v.clock - v.paid) v.clock))
      (modVec c fun v => { v with paid := v.clock })
  | none => .skip

/-- One vector instruction of the firing in progress in cluster `c`; without one nothing issues. -/
def vecOp (c : Nat) (t : VecTime) (f : VecFiring → Nat → Act) : Act := .ask fun s =>
  match s.vec c with
  | some v =>
    let p := s.get (CLU_VEC_STATE_PC c)
    .all [f v p, modVec c fun v => v.issue t.op t.srcs t.dst t.lat t.gap, vecGoOn 2 c p, vecPay c]
  | none => .skip

/-! The instruction word (R121, R127). -/

/-- The fields of a vector instruction word but OP. -/
def VInsn.ofWord (w : Nat) : VInsn where
  et := BitVec.ofNat 3 (bits w 8 3)
  vd := BitVec.ofNat 5 (bits w 11 5)
  va := BitVec.ofNat 5 (bits w 16 5)
  vb := BitVec.ofNat 5 (bits w 21 5)
  vc := BitVec.ofNat 5 (bits w 26 5)
  msk := BitVec.ofNat 3 (bits w 31 3)
  men := bitAt w 34
  mz := bitAt w 35
  sa := BitVec.ofNat 6 (bits w 36 6)
  sb := bitAt w 42
  rnd := bitAt w 43
  imm := BitVec.ofNat 16 (bits w 48 16)

/-- The vector commands by OP (R130). -/
def vecTable : List (Nat × (Cluster → VInsn → Instr)) := [
  (0x01, Instr.vadd), (0x02, Instr.vsub), (0x03, Instr.vmul), (0x04, Instr.vfma), (0x05, Instr.vmax), (0x06, Instr.vmin),
  (0x07, Instr.vabs), (0x08, Instr.vneg), (0x09, Instr.vdot4), (0x0A, Instr.vdot2), (0x10, Instr.vrcp), (0x11, Instr.vrsqrt),
  (0x12, Instr.vexp2), (0x13, Instr.vlog2), (0x14, Instr.vdiv), (0x15, Instr.vsqrt), (0x20, Instr.vcmp), (0x21, Instr.vsel),
  (0x22, Instr.mand), (0x23, Instr.mor), (0x24, Instr.mnot), (0x25, Instr.mpop), (0x28, Instr.vand), (0x29, Instr.vor),
  (0x2A, Instr.vxor), (0x2B, Instr.vshl), (0x2C, Instr.vshr), (0x2D, Instr.vsar), (0x30, Instr.vcvt), (0x38, Instr.vmov),
  (0x39, Instr.vbrd), (0x3A, Instr.vxb), (0x3B, Instr.vrot), (0x3C, Instr.vbcl), (0x3D, Instr.vidx), (0x40, Instr.vrsum),
  (0x41, Instr.vrprod), (0x42, Instr.vrmax), (0x43, Instr.vrmin), (0x44, Instr.vramax), (0x45, Instr.vramin), (0x50, Instr.vld),
  (0x51, Instr.vst), (0x52, Instr.vldh), (0x53, Instr.vseth), (0x54, Instr.vrng), (0x55, Instr.vout), (0x58, Instr.vseta),
  (0x59, Instr.vadda), (0x5A, Instr.vloop), (0x5F, fun c _ => Instr.vend c)]

/-- The command that a 64-bit instruction word spells at cluster `c` (R127); none where OP is reserved or bits [47:44] are not 0. -/
def vecDecode (c : Cluster) (w : Nat) : Option Instr :=
  if bits w 44 4 = 0 then (vecTable.find? fun x => x.1 = w % 256).map fun x => x.2 c (VInsn.ofWord w) else none

/-- The command that the VEC firing in progress issues next: the instruction memory's word at PC. -/
def State.vecNext (s : State) (c : Cluster) : Option Instr :=
  if (s.vec c.val).isSome then vecDecode c (s.rd .vimem (2048 * c.val + s.get (CLU_VEC_STATE_PC c.val))) else none

/-- A vector command is the firing's next instruction, and has the effect that the spec gives its form or is refused. A command that is
not the next instruction names an event that does not occur: nothing changes (log entry 127). -/
def vecMeaning (c : Cluster) (cmd : Instr) (ok : Bool) (a : Act) (s : State) : Host.Outcome State Fault Refusal :=
  if s.running && s.vecNext c = some cmd then (if ok then .next (a.run s) else .refused .reservedVectorForm) else .next s

/-- Whether an element type lies between `lo` and `hi` (R130). -/
def etIn (i : VInsn) (lo hi : Nat) : Bool := lo ≤ i.et.toNat && i.et.toNat ≤ hi

/-- Source registers of an operation on A, B and C, and its mask. -/
def maskSrc (i : VInsn) : List Nat := if i.men then [32 + i.msk.toNat] else []
def srcA (i : VInsn) : List Nat := i.va.toNat :: maskSrc i
def srcAB (i : VInsn) : List Nat := if i.sb then srcA i else i.vb.toNat :: srcA i
def srcABC (i : VInsn) : List Nat := i.vc.toNat :: srcAB i

/-! Arithmetic on elements (R131). -/

/-- A float operand, with the flags of reading it (R76, R158). -/
def vecRead (v : VecFiring) (et c : Nat) : Val × Nat :=
  let x := readCode v.flush (etFmt et) c
  (x.1, x.2 ||| (if x.1.isNan then fNanIn else 0))

/-- Round a float result into the format of an element type (R131). -/
def vecRound (v : VecFiring) (et : Nat) (rnd : Rnd) (x : Val) : Nat × Nat := (etFloat et).round rnd v.flush false x

/-- A float operation on operands: a NaN operand gives the canonical NaN; otherwise one exact operation and one rounding (R131). -/
def floatOp (v : VecFiring) (et det : Nat) (rnd : Rnd) (args : List Nat) (f : List Val → Val × Nat) : Nat × Nat :=
  let xs := args.map (vecRead v et)
  let fl := xs.foldl (fun x y => x ||| y.2) 0
  if xs.any fun x => x.1.isNan then ((etFloat det).nanCode, fl)
  else
    let r := f (xs.map (·.1))
    let q := vecRound v det rnd r.1
    (q.1, fl ||| r.2 ||| q.2)

/-- A binary float operation from its operation on values. -/
def bin (f : Val → Val → Val × Nat) : List Val → Val × Nat
  | [a, b] => f a b
  | _ => (.nan, 0)

/-- a × b + c with one rounding left to do; INVALID only from operands that are not NaN. -/
def fusedMul (a b c : Val) : Val × Nat :=
  let p := a.mul b
  if p.1.isNan then p else p.1.add c

/-- A binary arithmetic operation, on integers and on floats (R131). -/
def arith (c : Nat) (i : VInsn) (op intLat fltLat : Nat) (fi : Int → Int → Int) (ff : Val → Val → Val × Nat) : Act :=
  let et := i.et.toNat
  let w := etWidth et
  vecOp c ⟨op, srcAB i, some i.vd.toNat, if etInt et then intLat else fltLat, 1⟩ fun v p => .ask fun s =>
    writeElems v i w (fun _ => true) fun e =>
      if etInt et then satInt w (fi (signed w (s.elemA c i w e)) (signed w (s.elemB v i w e)))
      else floatOp v et et (s.vecRnd v i p e) [s.elemA c i w e, s.elemB v i w e] (bin ff)

def execVadd (c : Cluster) (i : VInsn) (s : State) : Host.Outcome State Fault Refusal :=
  vecMeaning c (.vadd c i) (etIn i 0 4) (arith c i 0x01 2 4 (· + ·) Val.add) s
def execVsub (c : Cluster) (i : VInsn) (s : State) : Host.Outcome State Fault Refusal :=
  vecMeaning c (.vsub c i) (etIn i 0 4) (arith c i 0x02 2 4 (· - ·) fun a b => a.add b.neg) s
def execVmul (c : Cluster) (i : VInsn) (s : State) : Host.Outcome State Fault Refusal :=
  vecMeaning c (.vmul c i) (etIn i 0 4) (arith c i 0x03 2 4 (· * ·) Val.mul) s

/-- VFMA (R130): one rounding of a × b + c. -/
def vfma (c : Nat) (i : VInsn) : Act :=
  let et := i.et.toNat
  let w := etWidth et
  vecOp c ⟨0x04, srcABC i, some i.vd.toNat, 4, 1⟩ fun v p => .ask fun s =>
    writeElems v i w (fun _ => true) fun e =>
      floatOp v et et (s.vecRnd v i p e) [s.elemA c i w e, s.elemB v i w e, s.elemC c i w e] fun l =>
        match l with
        | [a, b, d] => fusedMul a b d
        | _ => (.nan, 0)

def execVfma (c : Cluster) (i : VInsn) (s : State) : Host.Outcome State Fault Refusal :=
  vecMeaning c (.vfma c i) (etIn i 2 4) (vfma c i) s

/-- VMAX and VMIN (R131). -/
def extreme (c : Nat) (i : VInsn) (op : Nat) (max : Bool) : Act :=
  let et := i.et.toNat
  let w := etWidth et
  vecOp c ⟨op, srcAB i, some i.vd.toNat, 2, 1⟩ fun v _ => .ask fun s =>
    writeElems v i w (fun _ => true) fun e =>
      let a := s.elemA c i w e
      let b := s.elemB v i w e
      if etInt et then ((if (signed w a < signed w b) = max then b else a), 0)
      else floatOp v et et .rne [a, b] (bin fun x y => (if x.below y = max then y else x, 0))

def execVmax (c : Cluster) (i : VInsn) (s : State) : Host.Outcome State Fault Refusal :=
  vecMeaning c (.vmax c i) (etIn i 0 6) (extreme c i 0x05 true) s
def execVmin (c : Cluster) (i : VInsn) (s : State) : Host.Outcome State Fault Refusal :=
  vecMeaning c (.vmin c i) (etIn i 0 6) (extreme c i 0x06 false) s

/-- A unary operation on integers and floats. -/
def unary (c : Nat) (i : VInsn) (op lat gap : Nat) (fi : Int → Int) (ff : Val → Val × Nat) : Act :=
  let et := i.et.toNat
  let w := etWidth et
  vecOp c ⟨op, srcA i, some i.vd.toNat, lat, gap⟩ fun v p => .ask fun s =>
    writeElems v i w (fun _ => true) fun e =>
      let a := s.elemA c i w e
      if etInt et then satInt w (fi (signed w a))
      else floatOp v et et (s.vecRnd v i p e) [a] fun l =>
        match l with
        | [x] => ff x
        | _ => (.nan, 0)

def execVabs (c : Cluster) (i : VInsn) (s : State) : Host.Outcome State Fault Refusal :=
  vecMeaning c (.vabs c i) (etIn i 0 6) (unary c i 0x07 2 1 (fun x => x.natAbs) fun x => (x.abs, 0)) s
def execVneg (c : Cluster) (i : VInsn) (s : State) : Host.Outcome State Fault Refusal :=
  vecMeaning c (.vneg c i) (etIn i 0 6) (unary c i 0x08 2 1 (fun x => -x) fun x => (x.neg, 0)) s

/-- VDOT4 (R130, R131). -/
def vdot4 (c : Nat) (i : VInsn) : Act :=
  vecOp c ⟨0x09, srcABC i, some i.vd.toNat, 4, 1⟩ fun v _ => .ask fun s =>
    writeElems v i 32 (fun _ => true) fun e =>
      let t (j : Nat) : Int := signed 8 (s.elemA c i 8 (4 * e + j)) * signed 8 (s.elemB v i 8 (4 * e + j))
      satInt 32 (signed 32 (s.elemC c i 32 e) + t 0 + t 1 + t 2 + t 3)

/-- The exact sum of three values that are not NaN; INVALID for infinities of opposite sign. -/
def add3 (a b c : Val) : Val × Nat :=
  let l := [a, b, c]
  if l.contains (.inf false) && l.contains (.inf true) then (.nan, fInvalid)
  else ((((a.add b).1).add c).1, 0)

/-- VDOT2 (R130, R131): the sum of its terms is exact before the single rounding to FP32. -/
def vdot2 (c : Nat) (i : VInsn) : Act :=
  let et := i.et.toNat
  vecOp c ⟨0x0A, srcABC i, some i.vd.toNat, 5, 1⟩ fun v p => .ask fun s =>
    writeElems v i 32 (fun _ => true) fun e =>
      let xs := [s.elemA c i 16 (2 * e), s.elemB v i 16 (2 * e), s.elemA c i 16 (2 * e + 1), s.elemB v i 16 (2 * e + 1)].map
        (vecRead v et)
      let z := vecRead v 4 (s.elemC c i 32 e)
      let fl := xs.foldl (fun x y => x ||| y.2) z.2
      match xs.map (·.1) with
      | [a, b, a', b'] =>
        if (z.1 :: xs.map (·.1)).any Val.isNan then (fp32.nanCode, fl)
        else
          let p1 := a.mul b
          let p2 := a'.mul b'
          if p1.1.isNan || p2.1.isNan then (fp32.nanCode, fl ||| fInvalid)
          else
            let r := add3 z.1 p1.1 p2.1
            let q := vecRound v 4 (s.vecRnd v i p e) r.1
            (q.1, fl ||| r.2 ||| q.2)
      | _ => (0, 0)

def execVdot4 (c : Cluster) (i : VInsn) (s : State) : Host.Outcome State Fault Refusal :=
  vecMeaning c (.vdot4 c i) (etIn i 0 0) (vdot4 c i) s
def execVdot2 (c : Cluster) (i : VInsn) (s : State) : Host.Outcome State Fault Refusal :=
  vecMeaning c (.vdot2 c i) (etIn i 2 3) (vdot2 c i) s

/-- The exact value 1. -/
def Val.one : Val := .fin false 1 0

/-- A function of FP32 whose rounding is made inside it (VEXP2, VLOG2). -/
def transcend (c : Nat) (i : VInsn) (op : Nat) (g : (Val → Nat × Nat) → Val → Nat × Nat) : Act :=
  vecOp c ⟨op, srcA i, some i.vd.toNat, 12, 4⟩ fun v p => .ask fun s =>
    writeElems v i 32 (fun _ => true) fun e =>
      let x := vecRead v 4 (s.elemA c i 32 e)
      if x.1.isNan then (fp32.nanCode, x.2)
      else
        let r := g (vecRound v 4 (s.vecRnd v i p e)) x.1
        (r.1, x.2 ||| r.2)

def execVrcp (c : Cluster) (i : VInsn) (s : State) : Host.Outcome State Fault Refusal :=
  vecMeaning c (.vrcp c i) (etIn i 4 4) (unary c i 0x10 12 4 (fun x => x) fun x => Val.one.div x) s
def execVrsqrt (c : Cluster) (i : VInsn) (s : State) : Host.Outcome State Fault Refusal :=
  vecMeaning c (.vrsqrt c i) (etIn i 4 4) (unary c i 0x11 12 4 (fun x => x) Val.rsqrt) s
def execVexp2 (c : Cluster) (i : VInsn) (s : State) : Host.Outcome State Fault Refusal :=
  vecMeaning c (.vexp2 c i) (etIn i 4 4) (transcend c i 0x12 Val.exp2) s
def execVlog2 (c : Cluster) (i : VInsn) (s : State) : Host.Outcome State Fault Refusal :=
  vecMeaning c (.vlog2 c i) (etIn i 4 4) (transcend c i 0x13 Val.log2) s

/-- VDIV (R131). -/
def vdiv (c : Nat) (i : VInsn) : Act :=
  vecOp c ⟨0x14, srcAB i, some i.vd.toNat, 20, 8⟩ fun v p => .ask fun s =>
    writeElems v i 32 (fun _ => true) fun e =>
      floatOp v 4 4 (s.vecRnd v i p e) [s.elemA c i 32 e, s.elemB v i 32 e] (bin Val.div)

def execVdiv (c : Cluster) (i : VInsn) (s : State) : Host.Outcome State Fault Refusal := vecMeaning c (.vdiv c i) (etIn i 4 4) (vdiv c i) s
def execVsqrt (c : Cluster) (i : VInsn) (s : State) : Host.Outcome State Fault Refusal :=
  vecMeaning c (.vsqrt c i) (etIn i 4 4) (unary c i 0x15 20 8 (fun x => x) Val.sqrt) s

/-! Comparison, selection and masks. -/

/-- A condition on integers (R130). -/
def condInt (k w a b : Nat) : Bool :=
  let x := signed w a
  let y := signed w b
  match k with
  | 0 => a = b
  | 1 => a ≠ b
  | 2 => x < y
  | 3 => x ≤ y
  | 4 => x > y
  | 5 => x ≥ y
  | _ => a < b

/-- A condition on floats: with a NaN every condition but NE and UN is false (R130). -/
def condFloat (k : Nat) (a b : Val) : Bool :=
  if a.isNan || b.isNan then k = 1 || k = 6
  else
    let o := a.cmp b
    match k with
    | 0 => o = 0
    | 1 => o ≠ 0
    | 2 => o < 0
    | 3 => o ≤ 0
    | 4 => o > 0
    | 5 => o ≥ 0
    | _ => false

/-- VCMP (R130): the destination is mask VD[2:0], which keeps its bits at or above the element count. -/
def vcmp (c : Nat) (i : VInsn) : Act :=
  let et := i.et.toNat
  let w := etWidth et
  let k := i.imm.toNat % 8
  let md := i.vd.toNat % 8
  vecOp c ⟨0x20, srcAB i, some (32 + md), 2, 1⟩ fun v _ => .ask fun s =>
    let n := 8192 / w
    let act := s.activeBits c i n
    let old := s.vmask1 c md
    let r := (List.range n).map fun e =>
      if bitAt act e then
        let a := s.elemA c i w e
        let b := s.elemB v i w e
        if etInt et then (b2n (condInt k w a b), 0)
        else
          let x := vecRead v et a
          let y := vecRead v et b
          (b2n (condFloat k x.1 y.1), x.2 ||| y.2)
      else (if i.mz then 0 else bits old e 1, 0)
    .seq (setVmask c md (setBits old 0 n (packFast 1 (r.map (·.1))))) (vecFlags v (r.foldl (fun x y => x ||| y.2) 0))

def execVcmp (c : Cluster) (i : VInsn) (s : State) : Host.Outcome State Fault Refusal :=
  vecMeaning c (.vcmp c i) (etIn i 0 6 && (i.imm.toNat % 8 ≠ (if etInt i.et.toNat then 6 else 7))) (vcmp c i) s

/-- VSEL (R130): VA where the mask bit is 1, B elsewhere. -/
def vsel (c : Nat) (i : VInsn) : Act :=
  let w := etWidth i.et.toNat
  vecOp c ⟨0x21, srcAB i, some i.vd.toNat, 2, 1⟩ fun v _ => .ask fun s =>
    let m := s.vmask1 c i.msk.toNat
    setVreg c i.vd.toNat (packFast w ((List.range (8192 / w)).map fun e => if bitAt m e then s.elemA c i w e else s.elemB v i w e))

def execVsel (c : Cluster) (i : VInsn) (s : State) : Host.Outcome State Fault Refusal :=
  vecMeaning c (.vsel c i) (etIn i 0 6 && i.men && !i.mz) (vsel c i) s

/-- MAND, MOR and MNOT (R130). -/
def maskOp (c : Nat) (i : VInsn) (op : Nat) (srcs : List Nat) (f : Nat → Nat → Nat) : Act :=
  vecOp c ⟨op, srcs, some (32 + i.vd.toNat % 8), 1, 1⟩ fun _ _ => .ask fun s =>
    setVmask c (i.vd.toNat % 8) (f (s.vmask1 c (i.va.toNat % 8)) (s.vmask1 c (i.vb.toNat % 8)))

def execMand (c : Cluster) (i : VInsn) (s : State) : Host.Outcome State Fault Refusal :=
  vecMeaning c (.mand c i) true (maskOp c i 0x22 [32 + i.va.toNat % 8, 32 + i.vb.toNat % 8] (· &&& ·)) s
def execMor (c : Cluster) (i : VInsn) (s : State) : Host.Outcome State Fault Refusal :=
  vecMeaning c (.mor c i) true (maskOp c i 0x23 [32 + i.va.toNat % 8, 32 + i.vb.toNat % 8] (· ||| ·)) s
def execMnot (c : Cluster) (i : VInsn) (s : State) : Host.Outcome State Fault Refusal :=
  vecMeaning c (.mnot c i) true (maskOp c i 0x24 [32 + i.va.toNat % 8] fun a _ => 2 ^ 1024 - 1 - a) s

/-- Number of bits set among the `n` low bits. -/
def popCount (n m : Nat) : Nat := (List.range n).foldl (fun k i => k + m >>> i % 2) 0

/-- MPOP (R130). -/
def mpop (c : Nat) (i : VInsn) : Act :=
  vecOp c ⟨0x25, (32 + i.va.toNat % 8) :: maskSrc i, some i.vd.toNat, 2, 1⟩ fun v _ => .ask fun s =>
    let k := popCount (8192 / etWidth i.et.toNat) (s.vmask1 c (i.va.toNat % 8))
    writeElems v i 32 (fun _ => true) fun _ => (k, 0)

def execMpop (c : Cluster) (i : VInsn) (s : State) : Host.Outcome State Fault Refusal := vecMeaning c (.mpop c i) (etIn i 0 6) (mpop c i) s

/-! Bitwise operations and shifts. -/

/-- An operation on the codes of A and B. -/
def codeOp (c : Nat) (i : VInsn) (op : Nat) (f : Nat → Nat → Nat → Nat) : Act :=
  let w := etWidth i.et.toNat
  vecOp c ⟨op, srcAB i, some i.vd.toNat, 2, 1⟩ fun v _ => .ask fun s =>
    writeElems v i w (fun _ => true) fun e => (f w (s.elemA c i w e) (s.elemB v i w e) % 2 ^ w, 0)

def execVand (c : Cluster) (i : VInsn) (s : State) : Host.Outcome State Fault Refusal :=
  vecMeaning c (.vand c i) (etIn i 0 1) (codeOp c i 0x28 fun _ a b => a &&& b) s
def execVor (c : Cluster) (i : VInsn) (s : State) : Host.Outcome State Fault Refusal :=
  vecMeaning c (.vor c i) (etIn i 0 1) (codeOp c i 0x29 fun _ a b => a ||| b) s
def execVxor (c : Cluster) (i : VInsn) (s : State) : Host.Outcome State Fault Refusal :=
  vecMeaning c (.vxor c i) (etIn i 0 1) (codeOp c i 0x2A fun _ a b => a ^^^ b) s
def execVshl (c : Cluster) (i : VInsn) (s : State) : Host.Outcome State Fault Refusal :=
  vecMeaning c (.vshl c i) (etIn i 0 1) (codeOp c i 0x2B fun w a b => a <<< (b % w)) s
def execVshr (c : Cluster) (i : VInsn) (s : State) : Host.Outcome State Fault Refusal :=
  vecMeaning c (.vshr c i) (etIn i 0 1) (codeOp c i 0x2C fun w a b => a >>> (b % w)) s
def execVsar (c : Cluster) (i : VInsn) (s : State) : Host.Outcome State Fault Refusal :=
  vecMeaning c (.vsar c i) (etIn i 0 1) (codeOp c i 0x2D fun w a b => unsigned w (signed w a >>> (b % w))) s

/-! Conversion (R132). -/

/-- The binding of a VCVT, VLD or VLDH is one that the alternative binds (R121). -/
def State.inBound (s : State) (c b : Nat) : Bool :=
  match s.vec c with
  | some v => ((v.alt.ins[b]?).join).isSome
  | none => true

def State.outBound (s : State) (c b : Nat) : Bool :=
  match s.vec c with
  | some v => ((v.alt.outs[b]?).join).isSome
  | none => true

/-- The source element of destination element `e` of a VCVT (R132), none where the parts rule names no source. -/
def cvtSource (ws wd q e : Nat) : Option Nat :=
  let ns := 8192 / ws
  let nd := 8192 / wd
  if wd > ws then (if e + q * nd < ns then some (e + q * nd) else none)
  else if wd < ws then (if q * ns ≤ e && e < (q + 1) * ns then some (e - q * ns) else none)
  else some e

/-- VCVT (R132). -/
def vcvt (c : Nat) (i : VInsn) : Act :=
  let et := i.et.toNat
  let imm := i.imm.toNat
  let dt := imm % 8
  let ws := etWidth et
  let wd := etWidth dt
  let q := bits imm 3 2
  vecOp c ⟨0x30, srcA i, some i.vd.toNat, 3, 1⟩ fun v p => .ask fun s =>
    let ex := if bitAt imm 5 then (v.exps[bits imm 6 2]?).getD 0 else 0
    writeElems v i wd (fun e => (cvtSource ws wd q e).isSome) fun e =>
      let x := vecRead v et (s.elemA c i ws ((cvtSource ws wd q e).getD 0))
      let r := convertElem (etFmt dt) v.flush v.satEn (s.vecRnd v i p e) (x.1.scale (-ex))
      (r.1, x.2 ||| r.2)

def execVcvt (c : Cluster) (i : VInsn) (s : State) : Host.Outcome State Fault Refusal :=
  let imm := i.imm.toNat
  vecMeaning c (.vcvt c i) (etIn i 0 6 && imm % 8 ≠ 7 && (etWidth i.et.toNat ≠ etWidth (imm % 8) || bits imm 3 2 = 0) &&
    (!bitAt imm 5 || s.inBound c (bits imm 6 2))) (vcvt c i) s

/-! Moves and shuffles. -/

def execVmov (c : Cluster) (i : VInsn) (s : State) : Host.Outcome State Fault Refusal :=
  vecMeaning c (.vmov c i) (etIn i 0 6) (
    let w := etWidth i.et.toNat
    vecOp c ⟨0x38, srcA i, some i.vd.toNat, 2, 1⟩ fun v _ => .ask fun s =>
      writeElems v i w (fun _ => true) fun e => (s.elemA c i w e, 0)) s

def execVbrd (c : Cluster) (i : VInsn) (s : State) : Host.Outcome State Fault Refusal :=
  vecMeaning c (.vbrd c i) (etIn i 0 6) (
    let w := etWidth i.et.toNat
    vecOp c ⟨0x39, maskSrc i, some i.vd.toNat, 2, 1⟩ fun v _ =>
      writeElems v i w (fun _ => true) fun _ => (v.sreg i.sa.toNat % 2 ^ w, 0)) s

/-- A movement of lanes: `f` gives the source lane from the parameter and the destination lane (R130). -/
def lanes (c : Nat) (i : VInsn) (op : Nat) (f : Nat → Nat → Nat) : Act :=
  vecOp c ⟨op, srcA i, some i.vd.toNat, 3, 1⟩ fun v _ => .ask fun s =>
    let d := if i.sb then v.sreg i.sa.toNat % 256 else i.imm.toNat % 256
    writeElems v i 32 (fun _ => true) fun e => (s.elemA c i 32 (f d e % 256), 0)

def execVxb (c : Cluster) (i : VInsn) (s : State) : Host.Outcome State Fault Refusal :=
  vecMeaning c (.vxb c i) (etIn i 1 1) (lanes c i 0x3A fun d e => d ^^^ e) s
def execVrot (c : Cluster) (i : VInsn) (s : State) : Host.Outcome State Fault Refusal :=
  vecMeaning c (.vrot c i) (etIn i 1 1) (lanes c i 0x3B fun d e => e + d) s
def execVbcl (c : Cluster) (i : VInsn) (s : State) : Host.Outcome State Fault Refusal :=
  vecMeaning c (.vbcl c i) (etIn i 1 1) (lanes c i 0x3C fun d _ => d) s

def execVidx (c : Cluster) (i : VInsn) (s : State) : Host.Outcome State Fault Refusal :=
  vecMeaning c (.vidx c i) (etIn i 0 6) (
    let w := etWidth i.et.toNat
    vecOp c ⟨0x3D, maskSrc i, some i.vd.toNat, 2, 1⟩ fun v _ =>
      writeElems v i w (fun _ => true) fun e => (e % 2 ^ w, 0)) s

/-! Reductions (R136, R137). -/

/-- Combine a list pairwise: first half with second half. -/
def halve {α : Type} (op : α → α → α) (l : List α) : List α :=
  List.zipWith op (l.take (l.length / 2)) (l.drop (l.length / 2))

/-- The fold of R136 down to lane 0: the in-lane fold of 1, 2 or 4 elements, then the butterfly with distances 128 to 1. Lanes
i and i xor d compute the same value, so that the lower half of the lanes is enough at each distance. -/
def reduceFold {α : Type} (op : α → α → α) (per : Nat) (l : List α) : Option α :=
  let lanes := (chunks per l).filterMap fun x =>
    match x with
    | [a] => some a
    | [a, b] => some (op a b)
    | [a, b, c, d] => some (op (op a b) (op c d))
    | _ => none
  ((List.range 8).foldl (fun t _ => halve op t) lanes).head?

/-- A reduction: the elements of VA as `elem` reads them, inactive ones replaced by `none`; `fin` turns the result into a code of
width `rw`. -/
def reduction {α : Type} (c : Nat) (i : VInsn) (op lat rw : Nat) (elem : VecFiring → Nat → Nat → α) (idElem : α) (f : α → α → α)
    (flagsOf : α → Nat) (code : α → Nat) : Act :=
  let w := etWidth i.et.toNat
  vecOp c ⟨op, srcA i, some i.vd.toNat, lat, 8⟩ fun v _ => .ask fun s =>
    let n := 8192 / w
    let act := s.activeBits c i n
    let xs := (List.range n).map fun e => if bitAt act e then elem v e (s.elemA c i w e) else idElem
    let r := (reduceFold f (32 / w) xs).getD idElem
    .seq (setVreg c i.vd.toNat (packFast rw (List.replicate (8192 / rw) (code r))))
      (vecFlags v (flagsOf r ||| (if act = 0 then fEmpty else 0)))

/-- A sum or product: INT32 or FP32 values as codes with their flags (R136). -/
def reduceArith (c : Nat) (i : VInsn) (op : Nat) (id32 : Nat) (idf : Nat) (fi : Int → Int → Int) (ff : Val → Val → Val × Nat) : Act :=
  .ask fun s =>
  let et := i.et.toNat
  let flush := ((s.vec c).map (·.flush)).getD false
  reduction c i op (if etInt et then 26 else 44) 32
    (fun v _ x => if etInt et then (unsigned 32 (signed (etWidth et) x), 0)
      else
        let y := vecRead v et x
        ((fp32.round .rne false false y.1).1, y.2))
    (if etInt et then id32 else idf, 0)
    (fun a b =>
      if etInt et then
        let r := satInt 32 (fi (signed 32 a.1) (signed 32 b.1))
        (r.1, a.2 ||| b.2 ||| r.2)
      else
        let x := fp32.decode a.1
        let y := fp32.decode b.1
        if x.isNan || y.isNan then (fp32.nanCode, a.2 ||| b.2)
        else
          let r := ff x y
          let q := fp32.round .rne flush false r.1
          (q.1, a.2 ||| b.2 ||| r.2 ||| q.2))
    (·.2) (·.1)

def execVrsum (c : Cluster) (i : VInsn) (s : State) : Host.Outcome State Fault Refusal :=
  vecMeaning c (.vrsum c i) (etIn i 0 4) (reduceArith c i 0x40 0 0 (· + ·) Val.add) s
def execVrprod (c : Cluster) (i : VInsn) (s : State) : Host.Outcome State Fault Refusal :=
  vecMeaning c (.vrprod c i) (etIn i 1 4) (reduceArith c i 0x41 1 0x3F800000 (· * ·) Val.mul) s

/-- An element as maximum and minimum compare it: code as read under FLUSH, and flags. -/
def extremeElem (et : Nat) (v : VecFiring) (x : Nat) : Nat × Nat :=
  if etInt et then (x, 0)
  else
    let y := vecRead v et x
    (((etFloat et).round .rne false false y.1).1, y.2)

/-- Whether code `a` is a NaN, or lies below code `b`, in an element type. -/
def codeNan (et a : Nat) : Bool := !etInt et && ((etFloat et).decode a).isNan
def codeBelow (et a b : Nat) : Bool :=
  if etInt et then signed (etWidth et) a < signed (etWidth et) b else ((etFloat et).decode a).below ((etFloat et).decode b)

/-- The identity of a maximum or minimum (R137). -/
def extremeId (et : Nat) (max : Bool) : Nat :=
  if et = 0 then (if max then 0x80 else 0x7F)
  else if et = 1 then (if max then 0x80000000 else 0x7FFFFFFF)
  else if et = 5 ∨ et = 6 then (if max then 0xFF else 0x7F)
  else (etFloat et).infCode max

/-- VRMAX and VRMIN: a NaN wins (R136). -/
def reduceExtreme (c : Nat) (i : VInsn) (op : Nat) (max : Bool) : Act :=
  let et := i.et.toNat
  reduction c i op 26 (etWidth et) (fun v _ x => extremeElem et v x) (extremeId et max, 0)
    (fun a b =>
      let fl := a.2 ||| b.2
      if codeNan et a.1 then (a.1, fl) else if codeNan et b.1 then (b.1, fl)
      else if codeBelow et (if max then a.1 else b.1) (if max then b.1 else a.1) then (b.1, fl) else (a.1, fl))
    (·.2) (·.1)

def execVrmax (c : Cluster) (i : VInsn) (s : State) : Host.Outcome State Fault Refusal :=
  vecMeaning c (.vrmax c i) (etIn i 0 6) (reduceExtreme c i 0x42 true) s
def execVrmin (c : Cluster) (i : VInsn) (s : State) : Host.Outcome State Fault Refusal :=
  vecMeaning c (.vrmin c i) (etIn i 0 6) (reduceExtreme c i 0x43 false) s

/-- VRAMAX and VRAMIN: the index of the extreme; the lowest index of a NaN, and the lower index among equals (R136). -/
def reduceArg (c : Nat) (i : VInsn) (op : Nat) (max : Bool) : Act :=
  let et := i.et.toNat
  reduction c i op 26 32
    (fun v e x => let y := extremeElem et v x; (some (y.1, e), y.2)) ((none : Option (Nat × Nat)), 0)
    (fun a b =>
      let fl := a.2 ||| b.2
      match a.1, b.1 with
      | none, y => (y, fl)
      | x, none => (x, fl)
      | some x, some y =>
        let lower := if x.2 < y.2 then x else y
        if codeNan et x.1 && codeNan et y.1 then (some lower, fl)
        else if codeNan et x.1 then (some x, fl) else if codeNan et y.1 then (some y, fl)
        else if codeBelow et x.1 y.1 then (some (if max then y else x), fl)
        else if codeBelow et y.1 x.1 then (some (if max then x else y), fl)
        else (some lower, fl))
    (·.2) (fun r => (r.1.map (·.2)).getD 0xFFFFFFFF)

def execVramax (c : Cluster) (i : VInsn) (s : State) : Host.Outcome State Fault Refusal :=
  vecMeaning c (.vramax c i) (etIn i 0 6) (reduceArg c i 0x44 true) s
def execVramin (c : Cluster) (i : VInsn) (s : State) : Host.Outcome State Fault Refusal :=
  vecMeaning c (.vramin c i) (etIn i 0 6) (reduceArg c i 0x45 false) s

/-! Memory operations (R133). -/

/-- VLD: bytes at or beyond PAYLOAD_LEN read as 0. -/
def vld (c : Nat) (i : VInsn) : Act :=
  vecOp c ⟨0x50, [40 + i.va.toNat % 4], some i.vd.toNat, 6, 1⟩ fun v _ => .ask fun s =>
    let t := (v.tiles[i.vb.toNat]?).getD ⟨0⟩
    let len := hPayloadLen t.head
    let o := s.vaddr1 c (i.va.toNat % 4) + i.imm.toNat
    setVreg c i.vd.toNat (if len ≤ o then 0 else bits (t.payload % 2 ^ (8 * len)) (8 * o) 8192)

def execVld (c : Cluster) (i : VInsn) (s : State) : Host.Outcome State Fault Refusal :=
  vecMeaning c (.vld c i) (s.inBound c i.vb.toNat) (vld c i) s

/-- VLDH: the header of an input binding. -/
def vldh (c : Nat) (i : VInsn) : Act :=
  vecOp c ⟨0x52, [], some i.vd.toNat, 6, 1⟩ fun v _ => setVreg c i.vd.toNat ((v.tiles[i.vb.toNat]?).getD ⟨0⟩).head

def execVldh (c : Cluster) (i : VInsn) (s : State) : Host.Outcome State Fault Refusal :=
  vecMeaning c (.vldh c i) (s.inBound c i.vb.toNat) (vldh c i) s

/-- Replace element `k` of a list. -/
def setAt {α : Type} (l : List α) (k : Nat) (x : α) : List α := l.take k ++ (if k < l.length then [x] else []) ++ l.drop (k + 1)

/-- VST: the active elements' bytes; a byte at 32,768 or beyond is discarded and marks the output. -/
def vst (c : Nat) (i : VInsn) : Act :=
  let w := etWidth i.et.toNat
  let n := 8192 / w
  let b := i.vb.toNat
  vecOp c ⟨0x51, (40 + i.vd.toNat % 4) :: srcA i, none, 0, 1⟩ fun v _ => .ask fun s =>
    let o := s.vaddr1 c (i.vd.toNat % 4) + i.imm.toNat
    let act := s.activeBits c i n
    let buf := (v.bufs[b]?).getD 0
    let win := bits buf (8 * o) 8192
    let new := packFast w ((List.range n).map fun e => if bitAt act e then s.elemA c i w e else bits win (e * w) w)
    let buf' := if 32768 ≤ o then buf else setBits buf (8 * o) 8192 new % 2 ^ 262144
    let past := (List.range n).any fun e => bitAt act e && 32768 < o + (e + 1) * w / 8
    modVec c fun v => { v with
      bufs := setAt v.bufs b buf'
      failed := if past then v.failed ||| 2 ^ b else v.failed }

def execVst (c : Cluster) (i : VInsn) (s : State) : Host.Outcome State Fault Refusal :=
  vecMeaning c (.vst c i) (etIn i 0 6 && i.vb.toNat < 2 && s.outBound c i.vb.toNat) (vst c i) s

/-- A header with one field set by VSETH (R133). -/
def setHeaderField (h k x : Nat) : Nat :=
  match k with
  | 0 => setBits h 0 8 x
  | 1 => setBits h 16 16 x
  | 2 => setBits h 32 16 x
  | 3 => setBits h 48 16 x
  | 4 => setBits (setBits h 64 14 x) 10 1 (x >>> 14)
  | 5 => setBits h 80 16 x
  | 6 => setBits h 96 2 x
  | 7 => setBits h 224 16 x
  | _ => setBits h 9 1 x

def vseth (c : Nat) (i : VInsn) : Act :=
  vecOp c ⟨0x53, [], none, 1, 1⟩ fun v _ =>
    let b := i.vb.toNat
    modVec c fun w => { w with
      heads := setAt w.heads b (setHeaderField ((w.heads[b]?).getD 0) (i.imm.toNat % 16) (v.sreg i.sa.toNat)) }

def execVseth (c : Cluster) (i : VInsn) (s : State) : Host.Outcome State Fault Refusal :=
  vecMeaning c (.vseth c i) (i.imm.toNat % 16 < 9 && i.vb.toNat < 2 && s.outBound c i.vb.toNat) (vseth c i) s

/-! Random words, desk results, addresses, loops. -/

/-- VRNG (R135). -/
def vrng (c : Nat) (i : VInsn) : Act :=
  let a := i.sa.toNat
  vecOp c ⟨0x54, [], some i.vd.toNat, 12, 4⟩ fun v _ => .ask fun s =>
    let base := v.sreg a + 2 ^ 32 * v.sreg (a + 1)
    setVreg c i.vd.toNat (packFast 32 ((List.range 64).flatMap fun g =>
      cgAt s.seed ((base + g) % 2 ^ 64) (v.sreg (a + 2)) (s.stepNum v.graph)))

def execVrng (c : Cluster) (i : VInsn) (s : State) : Host.Outcome State Fault Refusal :=
  vecMeaning c (.vrng c i) (i.sa.toNat ≤ 61) (vrng c i) s

/-- VOUT (R126). -/
def vout (c : Nat) (i : VInsn) : Act :=
  vecOp c ⟨0x55, [i.va.toNat], none, 1, 1⟩ fun _ _ => .ask fun s =>
    let x := s.elemA c i 32 (bits i.imm.toNat 3 8)
    modVec c fun v => { v with vouts := v.vouts ++ [(BitVec.ofNat 6 (56 + i.imm.toNat % 8), x)] }

def execVout (c : Cluster) (i : VInsn) (s : State) : Host.Outcome State Fault Refusal := vecMeaning c (.vout c i) (etIn i 1 1) (vout c i) s

def execVseta (c : Cluster) (i : VInsn) (s : State) : Host.Outcome State Fault Refusal :=
  vecMeaning c (.vseta c i) true (vecOp c ⟨0x58, [], some (40 + i.vd.toNat % 4), 1, 1⟩ fun v _ =>
    setVaddr c (i.vd.toNat % 4) (v.sreg i.sa.toNat + i.imm.toNat)) s

def execVadda (c : Cluster) (i : VInsn) (s : State) : Host.Outcome State Fault Refusal :=
  vecMeaning c (.vadda c i) true (vecOp c ⟨0x59, [40 + i.vd.toNat % 4], some (40 + i.vd.toNat % 4), 1, 1⟩ fun v _ => .ask fun s =>
    setVaddr c (i.vd.toNat % 4) (s.vaddr1 c (i.vd.toNat % 4) +
      (if i.sb then v.sreg i.sa.toNat else unsigned 32 (signed 16 i.imm.toNat)))) s

/-- VLOOP (R134): a count of 0 skips the body; the open loop's counter holds the repetitions left, the one in progress included
(log entry 10). -/
def vloop (c : Nat) (i : VInsn) : Act := .ask fun s =>
  match s.vec c with
  | some v =>
    let p := s.get (CLU_VEC_STATE_PC c)
    let n := i.imm.toNat % 256
    let k := if i.sb then v.sreg i.sa.toNat % 2 ^ 16 else i.imm.toNat / 256
    let d := v.loops.length + 1
    .all [modVec c fun v => v.issue 0x5A [] none 1 1,
      if k = 0 then vecGoOn 2 c (p + n)
      else .all [modVec c fun v => { v with loops := (p + 1, p + n) :: v.loops }, setLoopCnt c d k,
        .set (CLU_VEC_STATE_LOOP_DEPTH c) d, .set (CLU_VEC_STATE_PC c) (p + 1)],
      vecPay c]
  | none => .skip

/-- A body of 1–255 instructions that ends within the memory, at depth 1 or 2 (R134). -/
def State.loopForm (s : State) (c n : Nat) : Bool :=
  n ≠ 0 && match s.vec c with
    | some v => v.loops.length < 2 && s.get (CLU_VEC_STATE_PC c) + n ≤ 2047
    | none => true

def execVloop (c : Cluster) (i : VInsn) (s : State) : Host.Outcome State Fault Refusal :=
  vecMeaning c (.vloop c i) (s.loopForm c (i.imm.toNat % 256)) (vloop c i) s

/-! Admission and end of a firing (R122–R126). -/

/-- Readiness of a VEC alternative (R37). -/
def State.vecReady (s : State) (c : Nat) (a : Alt) : Bool := s.altReady a && s.altFunded .vector (vecEp c) 0 a

/-- Admission: FLUSH and SAT_EN are sampled, the desk snapshot taken, the slots' exponents read, and the output headers and
buffers made ready; the first instruction issues in cycle 8 (R123, R125). Where binding 0 is unbound the headers begin as zeros, also when
another input is bound, which the spec leaves open (DESIGN CHOICE, log entry 128). -/
def vecAdmit (c : Nat) (a : Alt) : Act := .ask fun s =>
  let g := s.altGraph a
  let tiles := a.ins.map fun i => match i with
    | some n => s.inputD n
    | none => ⟨0⟩
  let h0 := match (a.ins[0]?).join with
    | some n => (s.inputD n).head
    | none => 0
  .all [
    .upd (.vecs (s.vecs ++ [{
      cluster := Fin.ofNat 36 c, graph := g, alt := a, flush := s.flushOf a, satEn := s.satOf a
      snap := (List.range 64).map (s.sreg c), tiles := tiles, exps := tiles.map fun t => s.tileExp t.head
      heads := [h0, h0], bufs := [0, 0], failed := 0, vouts := [], loops := []
      ord := s.rd .vecOrd (8 * c + g), clock := 8, paid := 0, ready := [], units := [] }])),
    .put .vecOrd (8 * c + g) (s.rd .vecOrd (8 * c + g) + 1),
    .set (CLU_VEC_STATE_PC c) (bits a.op 4 11), .set (CLU_VEC_STATE_LOOP_DEPTH c) 0, .set (CLU_VEC_LOOP_CNT0 c) 0,
    .set (CLU_VEC_LOOP_CNT1 c) 0, vecPay c, stnRefresh (vecEp c), idleRefresh g]

/-- VEC_RUN: the first ready alternative is admitted unless an input fails R24 (R25). -/
def vecRun (c : Nat) : Act := .ask fun s =>
  .when (s.vec c).isNone
    (fireOn (vecEp c) 0 (s.vecReady c) (fun a => bits a.op 0 4 = 1) fun a =>
      if s.badInputs a ≠ [] then .each (s.badInputs a) badHeader else vecAdmit c a)

def execVecRun (c : Cluster) (s : State) : Host.Outcome State Fault Refusal := live (vecRun c) s

/-- VEND (R124): the queued values go to the desk, each output that passes R24 is emitted, the others set BAD_HEADER, the firing
is charged and its inputs are consumed. -/
def vecEnd (c : Nat) : Act := .ask fun s =>
  match s.vec c with
  | none => .skip
  | some v =>
    let ep := vecEp c
    let outs : List (Nat × Nat) := v.alt.outs.zipIdx.filterMap fun p => p.1.map fun n => (n, p.2)
    let tile (b : Nat) : Tile := Tile.of ((v.heads[b]?).getD 0) ((v.bufs[b]?).getD 0 % 2 ^ (8 * hPayloadLen ((v.heads[b]?).getD 0)))
    let good (b : Nat) : Bool := headerValid (tile b).head && !bitAt v.failed b
    let emitted := outs.filter fun o => good o.2
    let write := emitted.foldl (fun m o => max m (ceilDiv (tile o.2).recordLen 1024)) 0
    .all [
      .each v.vouts (fun o => .set (CLU_DESK_SREG_VALUE c o.1.toNat) o.2),
      .upd (.vecs (s.vecs.filter fun x => x.cluster.val ≠ c)),
      .set (CLU_VEC_STATE_PC c) (s.get (CLU_VEC_STATE_PC c) + 1),
      .each (outs.filter fun o => !good o.2) (fun o => badHeader o.1),
      .when (v.alt.streams ≠ []) (chargeFor (allowKey ep 0 v.graph) (v.clock + write - v.paid) (v.clock + write)),
      finishFiring ep 0 v.alt (emitted.map fun o => (o.1, tile o.2)),
      boundary ep, idleRefresh v.graph]

def execVend (c : Cluster) (s : State) : Host.Outcome State Fault Refusal := vecMeaning c (.vend c) true (vecEnd c.val) s

/-! The instruction memory (R121, R148). -/

/-- After an access INDEX advances under AUTOINC. -/
def imemStep (c : Nat) : Act := .ask fun s =>
  .when (s.get (CLU_VEC_IMEM_ADDR_AUTOINC c) = 1) (.modify (CLU_VEC_IMEM_ADDR_INDEX c) (· + 1))

/-- A 64-bit read or write of CLU_VEC_IMEM_DATA; a write is discarded unless the station is quiesced. -/
def imemAccess (c : Nat) (v : Option Nat) : Act := .ask fun s =>
  let k := 2048 * c + s.get (CLU_VEC_IMEM_ADDR_INDEX c)
  .seq
    (match v with
    | some x => .when (s.get (STN_STATUS_QUIESCED (vecEp c)) = 1) (.put .vimem k (x % 2 ^ 64))
    | none => .upd (.readOut (s.rd .vimem k)))
    (imemStep c)

def execVecImemDataAccess (c : Cluster) (val : Option (BitVec 64)) (s : State) : Host.Outcome State Fault Refusal :=
  live (imemAccess c (val.map (·.toNat))) s

end Sys2Proof.Machine
end

