-- ==== Sys2Proof/Machine/Shapes.lean ====
section
/-!
DEFINITION. The checks of operation words, bindings and programs that the tollgate makes (R83, R98–R103, R114, R121, R127, R130,
R134, R140–R143, R172, R200, R279, R315, R387, R444, R460, R503).
-/

namespace Sys2Proof.Machine

/-- A BENCH (R28). -/
def isBench (e : Nat) : Bool := e < 0x120 && e % 8 < 4

/-- Which bindings of an alternative are bound: inputs 0–2, outputs 0–1. -/
def Alt.inMask (a : Alt) : List Bool := a.ins.map Option.isSome
def Alt.outMask (a : Alt) : List Bool := a.outs.map Option.isSome

/-- An alternative binds exactly `i` inputs and `o` outputs, at any positions. -/
def Alt.binds (a : Alt) (i o : Nat) : Bool := a.inputs.length = i && a.outputs.length = o

/-! CONV (R83, R172). -/

/-- A CONV operation word is one the tables list, with the bindings of its kind. -/
def convOk (a : Alt) : Bool :=
  let w := a.op
  let kind := bits w 0 4
  let fmt := bits w 4 8
  let numeric := fmt ∈ [0x01, 0x02, 0x03, 0x04, 0x05, 0x06, 0x07, 0x08, 0x09, 0x0A]
  bits w 14 2 = 0 && bits w 34 30 = 0 &&
  match kind with
  | 0 => numeric && a.inMask = [true, false, false] && a.outMask = [true, false]
  | 1 => decide (fmt ∈ [0x08, 0x09, 0x0A, 0x0C, 0x04, 0x0B]) && a.inMask = [true, false, false] && a.outMask = [true, false]
  | 2 => decide (fmt ∈ [0x08, 0x09, 0x0A]) && a.inMask = [true, false, false] && a.outMask = [true, false]
  | 3 => w = 3 && a.inMask = [true, false, false] && a.outMask = [true, false]
  | 4 => fmt = 0x09 && bits w 12 2 = 0 && a.inMask = [true, true, true] && a.outMask = [true, true]
  | _ => false

/-- The slot a CONV word uses, and the format it needs (R91). -/
def convSlot (w : Nat) : Option (Nat × Nat) := if bitAt w 13 then some (bits w 16 14, bits w 4 8) else none

/-! BENCH (R98–R103, R114). -/

/-- A stationary format of the pair table. -/
def statFmt (f : Nat) : Bool := f ∈ [0x01, 0x02, 0x04, 0x05, 0x06, 0x07, 0x08, 0x09, 0x0A]

/-- A LOAD word and its bindings, apart from the STREAMs that follow (R98, R99, R114). -/
def loadOk (part : Nat) (a : Alt) : Bool :=
  let w := a.op
  let lim := if bwFmt w = 0x01 || bwFmt w = 0x04 then 256 else 128
  bits w 4 2 = part && bits w 31 33 = 0 && statFmt (bwFmt w) && bwLoadK w ≤ lim &&
  1 ≤ bwLoadN w && bwLoadN w ≤ (if part = 0 then 128 else 64) && a.binds (if bwLoadK w = 0 then 0 else 1) 0

/-- A STREAM word, apart from the LOADs before it (R98, R114). -/
def streamOk (part : Nat) (a : Alt) : Bool :=
  let w := a.op
  bits w 4 2 = part && bits w 28 4 = 0 && statFmt (bwFmt w) && bwInit w ≠ 3 && (bwKeep w || bwDrain w) && bwM w ≠ 0

/-- A STREAM word runs past the accumulator (R98). -/
def accumOver (w : Nat) : Bool := (bwInit w = 0 || bwKeep w) && 1024 < bwAccBase w + bwM w

/-- A STREAM alternative fits a LOAD word whose stationary it may meet (R100, R103, R104). -/
def streamFits (part ld : Nat) (a : Alt) : Bool :=
  let w := a.op
  let k := bwLoadK ld
  let bias : Bool := bwInit w = 2
  let outs := if !bwDrain w then 0 else if part ≠ 0 || bwLoadN ld ≤ 64 then 1 else 2
  (match pairLimit (bwFmt ld) (bwFmt w) with
    | some lim => k ≤ lim
    | none => false) &&
  a.inMask = (if k = 0 then [bias, false, false] else [true, bias, false]) && a.outputs.length = outs

/-- The LOAD words that may stand in the array when each step begins, along the path of the program from step 0: pairs of step
and words. Twice round the program's loop shows all of them (R100). -/
def loadsAt (steps : List Step) : Nat → Nat → List Nat → List (Nat × List Nat)
  | 0, _, _ => []
  | n + 1, i, inn =>
    match steps[i]? with
    | none => []
    | some st =>
      let loads := (st.alts.filter fun a => bits a.op 0 4 = 1).map (·.op)
      let out := if st.alts.all fun a => bits a.op 0 4 = 1 then loads else (inn ++ loads).eraseDups
      (i, inn) :: loadsAt steps n st.next out

/-- Every STREAM alternative of a bench program fits the LOADs that can precede it. -/
def pairsOk (part : Nat) (steps : List Step) : Bool :=
  (loadsAt steps (2 * steps.length) 0 []).all fun x =>
    match steps[x.1]? with
    | none => true
    | some st => st.alts.all fun a => bits a.op 0 4 ≠ 2 || x.2.all fun ld => streamFits part ld a

/-- A bench alternative alone. -/
def benchOk (part : Nat) (a : Alt) : Bool :=
  match bits a.op 0 4 with
  | 1 => loadOk part a
  | 2 => streamOk part a
  | _ => false

/-! VEC (R121, R127, R130, R134). -/

/-- What an OP may hold: the element types allowed, the bits of the instruction word that it uses, whether it rounds. -/
structure VForm where
  ets : List Nat
  used : List (Nat × Nat)
  rounds : Bool
  deriving DecidableEq, Repr

/-- Instruction fields as low bit and width (R127). -/
def vfD : Nat × Nat := (11, 5)
def vfD3 : Nat × Nat := (11, 3)
def vfD2 : Nat × Nat := (11, 2)
def vfA : Nat × Nat := (16, 5)
def vfA3 : Nat × Nat := (16, 3)
def vfA2 : Nat × Nat := (16, 2)
def vfB : Nat × Nat := (21, 5)
def vfB3 : Nat × Nat := (21, 3)
def vfC : Nat × Nat := (26, 5)
/-- MSK, MEN and MZ: a masked operation counts as using all three, so that a VST or a reduction, which has no masked-off destination element,
may hold MZ = 1 (DESIGN CHOICE, log entry 131). -/
def vfM : Nat × Nat := (31, 5)
def vfS : Nat × Nat := (36, 6)
def vfSb : Nat × Nat := (42, 1)
def vfRnd : Nat × Nat := (43, 1)
def vfImm (w : Nat) : Nat × Nat := (48, w)

/-- The form of each OP (R127, R130, R133–R135); none where it is reserved. -/
def vform (op : Nat) : Option VForm :=
  let b := [vfB, vfS, vfSb]
  match op with
  | 0x01 | 0x02 | 0x03 => some ⟨[0, 1, 2, 3, 4], [vfD, vfA, vfM] ++ b, true⟩
  | 0x04 => some ⟨[2, 3, 4], [vfD, vfA, vfC, vfM] ++ b, true⟩
  | 0x05 | 0x06 => some ⟨[0, 1, 2, 3, 4, 5, 6], [vfD, vfA, vfM] ++ b, false⟩
  | 0x07 | 0x08 => some ⟨[0, 1, 2, 3, 4, 5, 6], [vfD, vfA, vfM], false⟩
  | 0x09 => some ⟨[0], [vfD, vfA, vfC, vfM] ++ b, false⟩
  | 0x0A => some ⟨[2, 3], [vfD, vfA, vfC, vfM] ++ b, true⟩
  | 0x10 | 0x11 | 0x12 | 0x13 | 0x15 => some ⟨[4], [vfD, vfA, vfM], true⟩
  | 0x14 => some ⟨[4], [vfD, vfA, vfM] ++ b, true⟩
  | 0x20 => some ⟨[0, 1, 2, 3, 4, 5, 6], [vfD3, vfA, vfM, vfImm 3] ++ b, false⟩
  | 0x21 => some ⟨[0, 1, 2, 3, 4, 5, 6], [vfD, vfA, vfM] ++ b, false⟩
  | 0x22 | 0x23 => some ⟨[0], [vfD3, vfA3, vfB3], false⟩
  | 0x24 => some ⟨[0], [vfD3, vfA3], false⟩
  | 0x25 => some ⟨[0, 1, 2, 3, 4, 5, 6], [vfD, vfA3, vfM], false⟩
  | 0x28 | 0x29 | 0x2A | 0x2B | 0x2C | 0x2D => some ⟨[0, 1], [vfD, vfA, vfM] ++ b, false⟩
  | 0x30 => some ⟨[0, 1, 2, 3, 4, 5, 6], [vfD, vfA, vfM, vfImm 8], true⟩
  | 0x38 => some ⟨[0, 1, 2, 3, 4, 5, 6], [vfD, vfA, vfM], false⟩
  | 0x39 => some ⟨[0, 1, 2, 3, 4, 5, 6], [vfD, vfS, vfM], false⟩
  | 0x3A | 0x3B | 0x3C => some ⟨[1], [vfD, vfA, vfM, vfS, vfSb, vfImm 8], false⟩
  | 0x3D => some ⟨[0, 1, 2, 3, 4, 5, 6], [vfD, vfM], false⟩
  | 0x40 => some ⟨[0, 1, 2, 3, 4], [vfD, vfA, vfM], false⟩
  | 0x41 => some ⟨[1, 2, 3, 4], [vfD, vfA, vfM], false⟩
  | 0x42 | 0x43 | 0x44 | 0x45 => some ⟨[0, 1, 2, 3, 4, 5, 6], [vfD, vfA, vfM], false⟩
  | 0x50 => some ⟨[0], [vfD, vfA2, vfB, vfImm 16], false⟩
  | 0x51 => some ⟨[0, 1, 2, 3, 4, 5, 6], [vfD2, vfA, vfB, vfM, vfImm 16], false⟩
  | 0x52 => some ⟨[0], [vfD, vfB], false⟩
  | 0x53 => some ⟨[0], [vfB, vfS, vfImm 4], false⟩
  | 0x54 => some ⟨[0], [vfD, vfS], false⟩
  | 0x55 => some ⟨[1], [vfA, vfImm 11], false⟩
  | 0x58 => some ⟨[0], [vfD2, vfS, vfImm 16], false⟩
  | 0x59 => some ⟨[0], [vfD2, vfS, vfSb, vfImm 16], false⟩
  | 0x5A => some ⟨[0], [vfS, vfSb, vfImm 16], false⟩
  | 0x5F => some ⟨[0], [], false⟩
  | _ => none

/-- The element width and part limits of VCVT (R132). -/
def vcvtOk (w : Nat) : Bool :=
  let src := etWidth (bits w 8 3)
  let dst := etWidth (bits w 48 3)
  let q := bits w 51 2
  bits w 48 3 ≠ 7 && (q < max src dst / min src dst)

/-- The bindings of an instruction that the alternative must hold (R121). -/
def vecBindsOk (a : Alt) (w : Nat) : Bool :=
  let inOk (k : Nat) : Bool := ((a.ins[k]?).getD none).isSome
  let outOk (k : Nat) : Bool := ((a.outs[k]?).getD none).isSome
  match w % 256 with
  | 0x50 | 0x52 => inOk (bits w 21 5)
  | 0x51 | 0x53 => outOk (bits w 21 5)
  | 0x30 => !bitAt w 53 || inOk (bits w 54 2)
  | _ => true

/-- One instruction of a program: its OP, ET and fields, and the values that an OP reserves (R127, R130, R133, R135). -/
def vecInsnOk (w : Nat) : Bool :=
  let op := w % 256
  let et := bits w 8 3
  match vform op with
  | none => false
  | some f =>
    let mask := ((0, 8) :: (8, 3) :: (if f.rounds then vfRnd :: f.used else f.used)).foldl
      (fun m x => m ||| ((2 ^ x.2 - 1) <<< x.1)) 0
    (et ∈ f.ets) && (w ||| mask = mask) &&
    match op with
    | 0x20 => (bits w 48 3 ≠ 6 || (2 ≤ et && et ≤ 6)) && (bits w 48 3 ≠ 7 || et ≤ 1)
    | 0x21 => bitAt w 34 && !bitAt w 35
    | 0x30 => vcvtOk w
    | 0x53 => bits w 48 4 ≤ 8
    | 0x54 => bits w 36 6 ≤ 61
    | _ => true

/-- Follow a program from `pc` to its VEND; a loop body that ends past the end of the body around it is refused (DESIGN CHOICE, log entry
130): `open_` holds the last instructions of the open loops, innermost first (R121, R134). -/
def vecWalk (a : Alt) (image : Nat) : Nat → Nat → List Nat → Bool
  | 0, _, _ => false
  | n + 1, pc, open_ =>
    let w := bits image (64 * pc) 64
    let op := w % 256
    let inner := open_.filter fun l => pc ≤ l
    pc < 2048 && vecInsnOk w && vecBindsOk a w &&
    (if op = 0x5F then inner.isEmpty
    else if op = 0x5A then
      let len := bits w 48 8
      let last := pc + len
      1 ≤ len && last < 2048 && inner.length < 2 && inner.all (fun l => last ≤ l) && vecWalk a image n (pc + 1) (last :: inner)
    else vecWalk a image n (pc + 1) inner)

/-- A VEC alternative with its program. -/
def vecOk (image : Nat) (a : Alt) : Bool :=
  bits a.op 0 4 = 1 && bits a.op 15 49 = 0 && vecWalk a image 2049 (bits a.op 4 11) []

/-! DESK (R140–R143). -/

/-- INSN_WORDS and DATA_BYTES of a DESK image. -/
def dkWords (image : Nat) : Nat := bits image 0 32
def dkData (image : Nat) : Nat := bits image 32 32

/-- A DESK image keeps R347's limits. -/
def deskImageOk (r : Rec) : Bool :=
  r.imageLen = 0 || (dkWords r.image ≤ 0x3000 && dkData r.image ≤ 0xC000 && r.imageLen = 260 + 4 * dkWords r.image + dkData r.image)

/-- The script words of a DESK image. -/
def deskScriptOk (r : Rec) : Bool :=
  (List.range (min 0x3000 (dkWords r.image))).all fun i => deskWordOk (bits r.image (8 * (260 + 4 * i)) 32)

/-- A DESK alternative whose streams belong to graph `g`; none where it binds no stream. -/
def deskOk (g : Option Nat) (a : Alt) : Bool :=
  let w := a.op
  bits w 0 4 = 1 && !bitAt w 7 && bits w 22 42 = 0 && 0x1000 ≤ bits w 8 14 && g.all fun x => x = bits w 4 3

/-! Memory, VUSYN, HOST, CHEST, CHECK. -/

/-- A memory operation word and its bindings (R200). -/
def memWordOk (a : Alt) : Bool :=
  let w := a.op
  (mwKind w = 1 || mwKind w = 2) && mwView w ≠ 3 && bits w 18 2 = 0 && mwCount w ≠ 0 &&
  (if mwKind w = 1 then a.binds 1 0 else a.binds 0 1)

/-- The view of a memory word agrees with its region (R200). -/
def viewOk (g : Nat) (w : Nat) (r : Region) : Bool :=
  if mwView w = 0 then !r.paired else r.paired && r.graph = g

/-- A VUSYN operation word and its bindings (R279, R315, R324). -/
def vusynOk (a : Alt) : Bool :=
  let w := a.op
  let inOnly0 := decide (a.inMask = [true, false, false] ∨ a.inMask = [false, false, false])
  bits w 17 47 = 0 &&
  match bits w 0 4 with
  | 1 => !bitAt w 16 && decide (a.inputs.length ≤ 1) && decide (a.outputs.length ≤ 1)
  | 2 => !bitAt w 16 && inOnly0
  | 3 => a.inMask = [true, false, false] && a.outMask = [false, false]
  | 4 => !bitAt w 16 && a.binds 0 0
  | _ => false

/-- A HOST operation word and its bindings (R387). -/
def hostOk (a : Alt) : Bool :=
  bits a.op 10 54 = 0 && (if bits a.op 0 4 = 1 then a.binds 1 0 else bits a.op 0 4 = 2 && a.binds 0 1)

/-- A CHEST operation word and its bindings (R460). -/
def chestOk (a : Alt) : Bool :=
  bits a.op 4 7 < 80 && bits a.op 11 33 = 0 && bits a.op 44 20 ≠ 0 &&
  (if bits a.op 0 4 = 1 then a.binds 1 0 else bits a.op 0 4 = 2 && a.binds 0 1)

/-- A CHECK operation word and its bindings (R444). -/
def checkOk (a : Alt) : Bool :=
  let k := bits a.op 0 4
  bits a.op 5 59 = 0 && (if k = 2 then a.binds 1 1 else (k = 1 || k = 3) && (a.binds 1 0 || a.binds 1 1))

end Sys2Proof.Machine
end

