-- ==== Sys2Proof/Machine/Tollgate.lean ====
section
/-!
DEFINITION. The tollgate (R343–R350, R358–R361, R371, R372, R503, R504): it admits an image whole or refuses it with the first
failure in the order of R358.
-/

namespace Sys2Proof.Machine

open Reg

/-- A refusal: CODE, SECTION and ITEM of GLB_PLAN_FAULT (R361). -/
structure Refuse where
  code : Nat
  sect : Nat
  item : Nat
  deriving DecidableEq, Repr

/-! Refusal codes (R360). -/

def cBadMagic : Nat := 0x01
def cSignature : Nat := 0x02
def cSectionCrc : Nat := 0x03
def cHeader : Nat := 0x04
def cSectionTable : Nat := 0x05
def cPlanHash : Nat := 0x06
def cImageChanged : Nat := 0x07
def cDrawer : Nat := 0x10
def cShelf : Nat := 0x11
def cStreams : Nat := 0x12
def cMls : Nat := 0x13
def cBudget : Nat := 0x14
def cPort : Nat := 0x15
def cCoord : Nat := 0x16
def cShape : Nat := 0x17
def cDetour : Nat := 0x18
def cGroup : Nat := 0x19
def cAccum : Nat := 0x1A
def cScale : Nat := 0x1B
def cEndpoint : Nat := 0x1C
def cBinding : Nat := 0x1D
def cProgram : Nat := 0x1E
def cCheck : Nat := 0x1F

/-- A code where its condition holds. -/
def fails (code : Nat) (bad : Bool) : List Nat := bif bad then [code] else []

/-- The first item with a failure, by its lowest code (R358). -/
def firstItem (t : Nat) (l : List (Nat × List Nat)) : Option Refuse :=
  l.findSome? fun x => x.2.min?.map fun c => ⟨c, t, x.1⟩

/-- The first of a list of offsets whose condition holds. -/
def firstAt (code t : Nat) (l : List (Bool × Nat)) : Option Refuse :=
  (l.find? fun x => x.1).map fun x => ⟨code, t, x.2⟩

/-- Items with their indices. -/
def indexed {α : Type} (l : List α) : List (Nat × α) := l.zipIdx.map fun x => (x.2, x.1)

/-- The key of item `i` does not exceed the key before it (R504). -/
def outOfOrder (keys : List Nat) (i : Nat) : Bool := i ≠ 0 && (keys[i]?).getD 0 ≤ (keys[i - 1]?).getD 0

/-! Check 1: the header (R342, R360). -/

def checkHeader (room : Nat) (m : Image) : Option Refuse :=
  if m.u 0 4 ≠ 0x4C505A4B then some ⟨cBadMagic, 0, 0⟩
  else firstAt cHeader 0 [
    (crc32c (m.bytes 0 124) ≠ m.u 124 4, 124), (m.u 4 1 ≠ 1, 4),
    (m.length < 128 || 2 ^ 31 < m.length || room < m.length, 8), (m.u 6 2 / 2 ≠ 0, 6), (m.u 59 1 ≠ 0, 59),
    (m.sectionCount = 0 || 15 < m.sectionCount, 60), (m.u 62 2 ≠ 0, 62),
    (m.tableOffset % 16 ≠ 0 || m.tableOffset < (if m.signed then 1440 else 128) || m.length ≤ m.tableOffset, 64),
    (m.u 72 52 ≠ 0, 72)]

/-! Check 2: the signature (R349, R350). -/

/-- The enrolled customer keys (R411). -/
def State.custKeys (s : State) : List Nat := ((List.range 4).map fun k => s.rd .custKey k).filter (· ≠ 0)

/-- KEY_ID of a key. -/
def keyId (k : Nat) : Nat := leNat (shake256 8 (leBytes 1793 k))

/-- The signed message: the image with its signature block replaced by zeros. -/
def Image.message (m : Image) : List Byte := leBytes m.length (setBits m.raw (8 * 128) (8 * 1312) 0)

def checkSignature (s : State) (m : Image) : Option Refuse :=
  if !m.signed then firstAt cSignature 0 [(s.get SEC_STATE_REQUIRE_SIGNED = 1, 6)]
  else
    match s.custKeys.find? fun k => keyId k = m.u 128 8 with
    | none => some ⟨cSignature, 0, 128⟩
    | some k => firstAt cSignature 0 [
        (m.u 136 2 ≠ 1280, 136), (m.u 138 6 ≠ 0, 138), (m.u 1424 16 ≠ 0, 1424),
        (!Config.falconVerify (leBytes 1793 k) m.message (m.bytes 144 1280), 144)]

/-! Check 3: section table, section CRCs, PLAN_HASH (R343–R346). -/

/-- Two spans of bytes meet. -/
def spansMeet (a n b k : Nat) : Bool := a < b + k && b < a + n

/-- The COMMON bit a type must carry (R344). -/
def commonType (t : Nat) : Bool := t = 0x08 || t = 0x0A || t = 0x0C

def checkEntry (m : Image) (ss : List Section) (x : Section) : Option Refuse :=
  let e := m.tableOffset + 8 * x.index
  let before := ss.take x.index
  let n := 12 + x.len
  let meets := spansMeet x.off n 0 (if m.signed then 1440 else 128) || spansMeet x.off n m.tableOffset (8 * m.sectionCount) ||
    before.any fun y => spansMeet x.off n y.off (12 + y.len)
  firstAt cSectionTable 0 [
    (m.length < e + 8 || x.type = 0 || 15 < x.type || before.any (fun y => y.type = x.type), e), (m.u (e + 2) 2 ≠ 0, e + 2),
    (x.off % 16 ≠ 0 || m.length < x.off + 12 || meets, e + 4)] <|>
  firstAt cSectionTable x.type [
    (m.u x.off 2 ≠ x.type, x.off), (m.u (x.off + 2) 2 ≠ b2n (commonType x.type), x.off + 2),
    (m.length < x.off + n || x.expected ≠ x.len, x.off + 4)]

/-- Types that must be present (R344). -/
def requiredTypes : List Nat := [1, 2, 4, 5, 8, 10, 11, 12, 13, 14]

def checkTable (m : Image) : Option Refuse :=
  let ss := m.sections
  ss.findSome? (checkEntry m ss) <|> firstAt cSectionTable 0 [(requiredTypes.any fun t => ss.all fun x => x.type ≠ t, 60)]

/-- A section whose CRC fails. -/
def Image.badCrc (m : Image) (x : Section) : Bool := crc32c (leBytes x.len x.body) ≠ m.u (x.off + 8) 4

/-- The hash over the common sections (R345). -/
def Image.hash (m : Image) : Nat :=
  leNat (shake256 32 ((m.sections.filter fun x => commonType x.type).flatMap fun x => m.bytes x.off 12 ++ leBytes x.len x.body))

def checkSections (m : Image) : Option Refuse :=
  checkTable m <|>
  (m.sections.find? m.badCrc).map (fun x => ⟨cSectionCrc, x.type, x.index⟩) <|>
  firstAt cPlanHash 0 [(m.hash ≠ m.planHash, 16)]

/-! Check 4: identity (R269, R348). -/

def checkIdentity (s : State) (m : Image) (p : Plan) : Option Refuse :=
  let badLink (l : Nat) : Bool := (p.portOf l).isSome &&
    (s.get (LNK_PEER_INFO_VALID l) = 0 ||
      (p.expValid l && (p.expSerial l ≠ s.get (LNK_PEER_SERIAL_SERIAL l) || p.expLink l ≠ s.get (LNK_PEER_INFO_LINK l))))
  firstAt cCoord 0 [
    (!(p.coords.any fun c => c = (m.targetSerial, m.targetCoord)) || s.get LNK_DISC_STABLE = 0 ||
      m.targetSerial ≠ s.get LNK_SERIAL_SERIAL || m.targetCoord ≠ s.get LNK_DISC_COORD, 0xFFFFFFFF)] <|>
  ((List.range 36).find? badLink).map fun l => ⟨cCoord, 0, l⟩

/-! Check 5: items, by section. -/

/-- The graph of an alternative by the image: that of its first stream. -/
def Plan.altGraph (p : Plan) (a : Alt) : Option Nat := (a.streams.filterMap p.stream).head?.map seGraph

/-- Failures of the operation words of a station record, by the station's kind. -/
def wordCodes (p : Plan) (recs : List Rec) (i : Nat) (r : Rec) : List Nat :=
  let e := r.endpt
  let alts := r.steps.flatMap fun st => st.alts
  let shape (f : Alt → Bool) : List Nat := fails cShape (!alts.all f)
  if isBench e then
    fails cShape (!(alts.all (benchOk r.part) && pairsOk r.part r.steps) ||
      alts.any fun a => (bwPart a.op ≠ 0) ≠ p.split (e / 8) (e % 8)) ++
    fails cAccum (alts.any fun a => bwKind a.op = 2 && accumOver a.op)
  else if e < 0x120 && e % 8 = 4 then shape (vecOk r.image)
  else if e < 0x120 && e % 8 = 5 then
    shape convOk ++ fails cScale (alts.any fun a =>
      match convSlot a.op with
      | none => false
      | some (n, f) => (match p.scale n with
        | none => true
        | some c => bits c 48 8 ≠ f))
  else if e < 0x120 && e % 8 = 7 then shape (fun a => deskOk (p.altGraph a) a) ++ fails cShape (!deskScriptOk r)
  else if isMemory e then
    shape memWordOk ++
    fails cShape (alts.any fun a => (p.region (mwRegion a.op)).any fun g => !viewOk ((p.altGraph a).getD 0) a.op g) ++
    fails (if e < 0x120 then cDrawer else cShelf) (alts.any fun a =>
      match p.region (mwRegion a.op) with
      | none => true
      | some g => g.mem ≠ memOf e || g.records < mwFirst a.op + mwCount a.op)
  else if isVusyn e then
    let tags (l : List Rec) : List Nat := l.flatMap fun q => q.steps.flatMap fun st => st.alts.map fun a => vwTag a.op
    let others := tags ((recs.take i).filter fun q => isVusyn q.endpt && q.endpt ≠ e)
    shape vusynOk ++ fails cGroup (alts.any fun a =>
      decide (vwTag a.op ∈ others) ||
      match p.desc (vwTag a.op) with
      | none => true
      | some d => (bits a.op 0 4 = 1) = (bits d 1 3 = 6))
  else if e = 0x170 then shape hostOk
  else if e = 0x178 then shape chestOk
  else shape checkOk

/-- Failures of a station record (R28, R347, R504). -/
def recCodes (p : Plan) (i : Nat) (r : Rec) : List Nat :=
  let e := r.endpt
  if !isStation e || isLink e then [cEndpoint]
  else
    let alts := r.steps.flatMap fun st => st.alts
    let named := alts.flatMap fun a => a.streams
    let badImage :=
      if e < 0x120 && e % 8 = 4 then r.imageLen % 8 ≠ 0 || 2048 * 8 < r.imageLen
      else if e < 0x120 && e % 8 = 7 then !deskImageOk r
      else r.imageLen ≠ 0
    let badPart := if isBench e then 2 < r.part || p.split (e / 8) (e % 8) ≠ (r.part ≠ 0) else r.part ≠ 0
    fails cProgram (outOfOrder (p.recs.map fun q => 256 * q.endpt + q.part) i || r.count = 0 || 4096 < r.count ||
      r.altCounts.any (fun k => k = 0 || 4 < k) || r.steps.any (fun st => r.count ≤ st.next) || badImage || badPart) ++
    fails cStreams (named.any fun n => (p.stream n).isNone) ++
    fails cBinding (alts.any fun a =>
      a.inputs.any (fun n => (p.stream n).any fun x => seDst x ≠ e) || a.outputs.any (fun n => (p.stream n).any fun x => seSrc x ≠ e) ||
      (a.streams.filterMap p.stream).any fun x => some (seGraph x) ≠ p.altGraph a) ++
    wordCodes p p.recs i r

/-- Failures of a STREAMS item (R28, R30, R35, R219). -/
def streamCodes (p : Plan) (i : Nat) (x : Nat × Nat) : List Nat :=
  let e := x.2
  let ends := [seSrc e, seDst e]
  fails cStreams (outOfOrder (p.streams.map (·.1)) i || 262144 ≤ x.1 || 262144 ≤ i) ++
  fails cMls ((seDoneTiles e ≠ 0 || seWdLimit e ≠ 0) && !p.hasMls (seMlsDone e) || seWaitEn e && !p.hasMls (seMlsWait e)) ++
  fails cPort (seRemote e && seVc e = 0 || ends.any isLink) ++
  fails cEndpoint (ends.any fun k => !isStation k) ++
  fails cBinding (!p.graph (seGraph e))

/-- Failures of a MEMORY_MAP item but for capacities and overlaps (R198, R359). -/
def regionCodes (p : Plan) (m : Image) (i : Nat) (r : Region) : List Nat :=
  let code := if r.mem < 36 then cDrawer else cShelf
  let reserved := !(r.mem < 36 || (64 ≤ r.mem && r.mem < 80))
  let span := (if r.paired then 2 else 1) * r.half
  fails code (outOfOrder (p.regions.map (·.num)) i || 4095 < r.num || reserved || r.base % 64 ≠ 0 || r.record = 0 || 513 < r.record ||
    r.records = 0 || (r.paired && r.mem < 36) ||
    (r.paired && 256 < ((p.regions.take (i + 1)).filter fun q => q.paired && q.graph = r.graph).length) ||
    (!reserved && 64 ≤ r.mem && spansMeet (memBase r.mem + r.base) span m.addr m.length)) ++
  fails cBinding (r.paired && !p.graph r.graph)

/-- The alternatives of a route entry that are valid: their ports (R231, R242). -/
def routePorts (w : Nat) : List Nat :=
  if !bitAt w 31 then []
  else ((List.range 4).filter fun i => bitAt w (6 * i + 5)).map fun i => bits w (6 * i) 4

/-- Entry `d` of a route table of the fixed part: table 0 W, 1 X, 2 Y, 3 Z. -/
def routeWord (routes t d : Nat) : Nat :=
  bits routes (8 * ((if t = 0 then 8 else if t = 1 then 72 else if t = 2 then 136 else 1160) + 4 * d)) 32

def routeCount (t : Nat) : Nat := if t ≤ 1 then 16 else 256

/-- Failures of the fixed part of ROUTES (R228, R229, R258). Since every partner is at least its own VC, the dependencies between
VCs that this chip's tables create form no cycle; the routes' lengths and the trees' chips cannot be seen from one chip's image
(log entry 14). -/
def routeCodes (p : Plan) : List Nat :=
  let up (v : Nat) : Nat := bits p.routes (32 + 3 * v) 3
  let all (t : Nat) : List Nat := (List.range (routeCount t)).flatMap fun d => routePorts (routeWord p.routes t d)
  fails cPort ((List.range 7).any (fun v => up (v + 1) < v + 1) ||
    [0, 1, 2, 3].any fun t => (all t).any fun q => !p.portValid q || (t ≠ 0 && p.portRole q = 1))

/-- Expected peers of the ports of a multicast entry, once for each port that leads to one (R242, R270). -/
def mcastPeers (p : Plan) (ports : Nat) : List Nat :=
  ((List.range 16).filter (bitAt ports)).flatMap fun q =>
    (((List.range 36).filter fun l => bitAt (p.members q) l && p.expValid l).map p.expSerial).eraseDups

/-- What one chip's image shows of a multicast tree that revisits a chip: two ports of the entry lead to one peer, or one leads to
this chip itself (R229). -/
def revisits (p : Plan) (serial ports : Nat) : Bool :=
  let l := mcastPeers p ports
  l.eraseDups.length ≠ l.length || l.contains serial

/-- Failures of a multicast item (R229, R258, R360). -/
def mcastCodes (p : Plan) (serial i : Nat) (x : Nat × Nat) : List Nat :=
  fails cPort (outOfOrder (p.mcasts.map (·.1)) i || 4095 < x.1 || bits x.2 16 16 ≠ 0 || revisits p serial (bits x.2 0 16) ||
    (List.range 16).any fun q => bitAt x.2 q && !p.portValid q)

/-- This chip's digits in a group by the plan's coordinate. -/
def digitsIn (coord e : Nat) : List Nat := (List.range (vgLevels e)).map fun l => coordAt coord (vgAxis e l) - vgBase e l

/-- The position of digits in a group image (R274). -/
def positionIn (e : Nat) (ds : List Nat) : Nat :=
  let lv := vgDetourLevels e
  rankOf (lv.map (vgSize e)) (lv.map fun l => (ds[l]?).getD 0)

/-- The position whose buddy this chip is (R306). -/
def buddyPosition (coord e : Nat) : Option Nat :=
  (vgDetourLevels e).head?.map fun l =>
    let ds := digitsIn coord e
    positionIn e (ds.set l (((ds[l]?).getD 0 + 1) % vgSize e l))

/-- Failures of a DETOURS item (R306). -/
def detourCodes (p : Plan) (coord i : Nat) (d : Detour) : List Nat :=
  fails cDetour (outOfOrder (p.detours.map fun q => 65536 * q.group + q.position) i || 4 < (p.substCounts[i]?).getD 0 ||
    match p.group d.group with
    | none => true
    | some e => !vgDetourEn e || groupN ((vgDetourLevels e).map (vgSize e)) ≤ d.position ||
        d.takeover ≠ (buddyPosition coord e = some d.position))

/-- Failures of a group (R275). -/
def groupCodes (p : Plan) (coord i : Nat) (x : Nat × Nat) : List Nat :=
  let e := x.2
  let lv := List.range (vgLevels e)
  let axes := lv.map (vgAxis e)
  fails cGroup (outOfOrder (p.groups.map (·.1)) i || 1023 < x.1 || axes.eraseDups.length ≠ axes.length ||
    lv.any (fun l => vgSize e l < 2 || (if vgAxis e l ≤ 1 then 16 else 256) < vgBase e l + vgSize e l ||
      (vgAxis e l = 0 && vgDlvl e l) || coordAt coord (vgAxis e l) < vgBase e l ||
      vgBase e l + vgSize e l ≤ coordAt coord (vgAxis e l) ||
      (vgDigit e l ≠ 0 && vgDigit e l ≠ coordAt coord (vgAxis e l) - vgBase e l)) ||
    65536 < groupN ((vgDetourLevels e).map (vgSize e)) ||
    (vgDetourEn e && (vgDetourLevels e = [] || !p.stepEnabled (vgGraph e))) || bits e 20 3 = 0 ||
    (bitAt e 7 && !p.mcasts.any fun g => g.1 = bits e 8 12 && bitAt g.2 63)) ++
  fails cBinding (!p.graph (vgGraph e))

/-- Fields of a VSY_DESC image (R277). -/
def vdOp (d : Nat) : Nat := bits d 1 3
def vdEt (d : Nat) : Nat := bits d 4 3
def vdGroup (d : Nat) : Nat := bits d 13 10
def vdVusyn (d : Nat) : Nat := bits d 28 2
def vdCount (d : Nat) : Nat := bits d 32 32
def vdSlots (d : Nat) : Nat := bits d 64 8
def vdOutCols (d : Nat) : Nat := bits d 112 16
def vdWork (d : Nat) : Nat := bits d 128 12

/-- U of R290, and of R317 for a bucket. -/
def sendersIn (op e : Nat) : Nat :=
  let u := (List.range (vgLevels e)).foldl (fun u l => u + if vgAxis e l = 0 then vgSize e l - 1 else 2) 0
  if op = opBucket then max u (groupN (vgSizes e) - 1) else u

/-- Bytes that WORK must hold (R280). -/
def workNeeds (d : Nat) : Nat := vdCount d * (if vdEt d = 0 then 1 else 4)

/-- Failures of a descriptor (R278, R317). -/
def descCodes (p : Plan) (i : Nat) (x : Nat × Nat) : List Nat :=
  let d := x.2
  let op := vdOp d
  let before := p.descs.take i
  let hasGather := p.recs.any fun r => isVusyn r.endpt && r.steps.any fun st => st.alts.any fun a => bits a.op 0 4 = 4 && vwTag a.op = x.1
  let bad :=
    outOfOrder (p.descs.map (·.1)) i || 4095 < x.1 || !(op ∈ [1, 2, 3, 4, 6]) || 4 < vdEt d || bits d 7 2 = 3 || bits d 10 3 = 0 ||
    bits d 23 5 < 12 || 20 < bits d 23 5 || vdCount d = 0 || 2 ^ 29 < workNeeds d || (vdEt d = 0 && (op = 1 || op = 2)) ||
    256 < ((p.descs.take (i + 1)).filter fun y => vdVusyn y.2 = vdVusyn d).foldl (fun n y => n + vdSlots y.2) 0 ||
    before.any (fun y => vdWork y.2 = vdWork d) ||
    (match p.region (vdWork d) with
      | none => true
      | some r => r.paired || r.mem < 64 || r.half < workNeeds d) ||
    match p.group (vdGroup d) with
    | none => true
    | some e =>
      let n := groupN (vgSizes e)
      n ≤ bits d 72 24 || vdSlots d / sendersIn op e = 0 ||
      (op = 6 && (vdEt d ≠ 3 || bits d 7 2 ≠ 0 || !p.stepEnabled (vgGraph e) || 256 < n || vdOutCols d = 0 ||
        vdCount d % (n * vdOutCols d) ≠ 0 ||
        match p.bucket x.1 with
        | none => true
        | some b => !bitAt b 4 && !hasGather))
  fails cMls (!p.hasMls (bits d 96 16)) ++ fails cGroup bad

/-- A paired shelf region of a graph with at least so many bytes in each half. -/
def pairedRegion (p : Plan) (n g bytes : Nat) (ok : Region → Bool) : Bool :=
  (p.region n).any fun r => r.paired && r.graph = g && 64 ≤ r.mem && bytes ≤ r.half && ok r

/-- Failures of a bucket (R317, R325, R330). -/
def bucketCodes (p : Plan) (coord i : Nat) (x : Nat × Nat) : List Nat :=
  let b := x.2
  let thin := bits b 0 4
  let bad :=
    outOfOrder (p.buckets.map (·.1)) i ||
    match p.desc x.1 with
    | none => true
    | some d =>
      vdOp d ≠ 6 ||
      match p.group (vdGroup d) with
      | none => true
      | some e =>
        let g := vgGraph e
        let sz := vgSizes e
        let n := groupN sz
        let sh := ceilDiv (vdCount d) n
        let geo : Geo := ⟨x.1, vdGroup d, 6, 3, sz, vdCount d, sh, 1, 1, []⟩
        let ds := digitsIn coord e
        let held (l : Nat) : Nat := (geo.held ds l).foldl (fun m r => m + r.2) 0
        let lv := (List.range 4).filter fun l => bitAt thin l
        let rows := min 128 (32736 / (2 * max 1 (vdOutCols d)))
        let tps := ceilDiv (sh / max 1 (vdOutCols d)) (max 1 rows)
        let fits (k : Nat) (r : Region) : Bool := k ≤ r.records && ceilDiv (32 + 2 * rows * vdOutCols d) 64 ≤ r.record
        lv.any (fun l => vgLevels e ≤ l || vgAxis e l = 0) || (thin ≠ 0 && bitAt b 4) ||
        (thin ≠ 0 && !pairedRegion p (bits b 8 12) g (2 * lv.foldl (fun m l => m + held l) 0) fun _ => true) ||
        (!pairedRegion p (bits b 20 12) g 0 (fits (n * tps))) ||
        (bitAt b 6 && !pairedRegion p (bits b 32 12) g 0 (fits tps))
  fails cMls (!p.hasMls (bits b 96 16)) ++ fails cGroup bad

/-- Failures of BUDGETS by ITEM, but for the sums (R371, R372). -/
def budgetItems (p : Plan) : List (Nat × List Nat) :=
  (List.range 16).map (fun o =>
    let v := bits p.budgets (8 * o) 8
    (4096 + o, fails cBudget (if o = 0 then 3 < v else v ≠ 0))) ++
  (List.range 4).flatMap fun k => (List.range 8).flatMap fun g => (List.range 40).map fun f =>
    let v := p.share k g f
    (k * 512 + g * 64 + f, fails cBudget (1024 < v ||
      (v ≠ 0 && (!p.graph g || f = 7 || (8 ≤ f && !p.portValid ((f - 8) % 16))))))

/-- Failures of a SCALES item (R91). -/
def scaleCodes (p : Plan) (i : Nat) (x : Nat × Nat) : List Nat :=
  fails cScale (outOfOrder (p.scales.map (·.1)) i || 16383 < x.1 || (fmaxOf (bits x.2 48 8)).isNone) ++
  fails cBinding (!p.graph (bits x.2 45 3))

/-- Failures of a port (R258). -/
def portCodes (p : Plan) (i : Nat) : List Nat :=
  fails cPort (p.portValid i && (p.members i = 0 || 2 ^ 36 ≤ p.members i || p.portRole i = 0 || 8 < p.portRole i ||
    (List.range i).any fun j => p.portValid j && p.members i &&& p.members j ≠ 0))

/-- Failures of a COORDS item (R348, R360). -/
def coordCodes (p : Plan) (i : Nat) (x : Nat × Nat) : List Nat :=
  fails cCoord (outOfOrder (p.coords.map (·.2)) i || (p.coords.take i).any fun y => y.1 = x.1)

/-- Failures of STRUCTURE (R360). -/
def structCodes (p : Plan) : List Nat :=
  fails cShape ((List.range 36).any fun c => (List.range 4).any fun b => p.tol c b = 0 || 31 < p.tol c b) ++
  fails cEndpoint ((List.range 0x1F0).any fun e => p.enable e && !isStation e)

/-- Failures of a STEP record (R186, R275). -/
def stepCodes (p : Plan) (g : Nat) : List Nat :=
  let w := p.stepWord g 1
  if !p.stepEnabled g then []
  else
    fails cMls (!p.hasMls (p.stepWord g 2 % 2 ^ 16) || !p.hasMls (p.stepWord g 2 / 2 ^ 16)) ++
    fails cShape (bits w 0 2 = 3 || bits w 2 2 = 3 || bits w 4 2 = 0 || bits w 4 2 = 3 || bits w 8 4 = 0) ++
    fails cGroup ((p.group (p.stepWord g 3 % 2 ^ 10)).isNone)

/-- The configuration that a CHECKS record gives: all zeros select the CRC-32C preset (R442). -/
def checkCfg (n : Nat) : CrcCfg × Bool :=
  if n = 0 then (crc32cCfg, false)
  else (⟨bits n 192 8, bits n 0 64, bits n 64 64, bitAt n 200, bitAt n 201, bits n 128 64⟩, bitAt n 202)

/-- Failures of a CHECKS record (R442). -/
def checkCodes (n : Nat) : List Nat :=
  fails cCheck (!(checkCfg n).1.valid || bits n 203 309 ≠ 0)

/-- Check 5: items in ascending TYPE and item order. -/
def checkItems (m : Image) (p : Plan) : Option Refuse :=
  let co := m.targetCoord
  firstItem 0x01 ((indexed p.recs).map fun x => (x.1, recCodes p x.1 x.2)) <|>
  firstItem 0x02 ((indexed p.streams).map fun x => (x.1, streamCodes p x.1 x.2)) <|>
  firstItem 0x03 ((indexed p.mls).map fun x => (x.1, fails cMls (outOfOrder (p.mls.map (·.1)) x.1))) <|>
  firstItem 0x04 ((indexed p.regions).map fun x => (x.1, regionCodes p m x.1 x.2)) <|>
  firstItem 0x05 ((0, routeCodes p) :: (indexed p.mcasts).map fun x => (x.1 + 1, mcastCodes p m.targetSerial x.1 x.2)) <|>
  firstItem 0x06 ((indexed p.detours).map fun x => (x.1, detourCodes p co x.1 x.2)) <|>
  firstItem 0x07 (((indexed p.groups).map fun x => (x.1, groupCodes p co x.1 x.2)) ++
    ((indexed p.descs).map fun x => (p.groups.length + x.1, descCodes p x.1 x.2)) ++
    (indexed p.buckets).map fun x => (p.groups.length + p.descs.length + x.1, bucketCodes p co x.1 x.2)) <|>
  firstItem 0x08 (budgetItems p) <|>
  firstItem 0x09 ((indexed p.scales).map fun x => (x.1, scaleCodes p x.1 x.2)) <|>
  firstItem 0x0B ((List.range 16).map fun i => (i, portCodes p i)) <|>
  firstItem 0x0C ((indexed p.coords).map fun x => (x.1, coordCodes p x.1 x.2)) <|>
  firstItem 0x0D [(0, structCodes p)] <|>
  firstItem 0x0E ((List.range 8).map fun g => (g, stepCodes p g)) <|>
  firstItem 0x0F ((indexed p.checks).map fun x => (x.1, checkCodes x.2))

/-! Check 6: totals (R34, R198, R306, R371). -/

/-- Bytes of a memory by MEM. -/
def State.memBytes (s : State) (mem : Nat) : Nat := if mem < 64 then drawerSpan else s.shelfCap (mem - 64)

def Region.span (r : Region) : Nat := (if r.paired then 2 else 1) * r.half

/-- Whether the regions of a memory pass its end or overlap (R198). -/
def memOver (s : State) (p : Plan) (mem : Nat) : Bool :=
  let rs := p.regions.filter fun r => r.mem = mem
  rs.any (fun r => s.memBytes mem < r.base + r.span) ||
  rs.any fun r => rs.any fun q => q.num < r.num && spansMeet r.base r.span q.base q.span

/-- Input tile slots of a station (R34). -/
def slotCount (e : Nat) : Nat :=
  if e < 0x120 then [8, 8, 8, 8, 6, 6, 8, 4].getD (e % 8) 0
  else if isVusyn e || e = 0x170 then 16
  else if e < 0x140 || e = 0x178 then 8
  else 4

/-- Whether the streams into a station reserve more slots than it has; in split mode each half counts the inputs it binds. -/
def slotsOver (p : Plan) (e : Nat) : Bool :=
  let sum (l : List Nat) : Nat := l.foldl (fun n x => n + seCreditMax x) 0
  if isBench e && p.split (e / 8) (e % 8) then
    p.recs.any fun r => r.endpt = e &&
      4 < sum (((r.steps.flatMap fun st => st.alts.flatMap Alt.inputs).eraseDups).filterMap p.stream)
  else
    slotCount e < sum ((p.streams.map (·.2)).filter fun x => bitAt x 0 && seDst x = e && !(seRemote x && !seSide x))

def checkTotals (s : State) (m : Image) (p : Plan) : Option Refuse :=
  ((List.range 36).find? (memOver s p)).map (fun c => ⟨cDrawer, 0x04, c⟩) <|>
  ((List.range 16).find? fun ch => memOver s p (64 + ch)).map (fun ch => ⟨cShelf, 0x04, ch⟩) <|>
  ((List.range 0x190).find? fun e => isStation e && !isLink e && slotsOver p e).map
    (fun e => ⟨if e < 0x120 then cDrawer else cShelf, 0x02, e⟩) <|>
  ((List.range 160).find? fun i =>
    1024 < (List.range 8).foldl (fun n g => n + p.share (i / 40) g (i % 40)) 0).map
    (fun i => ⟨cBudget, 0x08, i / 40 * 512 + 7 * 64 + i % 40⟩) <|>
  firstAt cDetour 0x06 [(16384 < p.detours.length, m.targetCoord)]

/-! The whole. -/

/-- The checks of R358; none admits the image. -/
def tollgate (s : State) (m : Image) : Option Refuse :=
  let p := m.plan
  checkHeader (s.roomAt m.addr) m <|> checkSignature s m <|> checkSections m <|> checkIdentity s m p <|> checkItems m p <|>
  checkTotals s m p

/-- The fields of the container header: offset and bytes (R342). -/
def headerFields : List (Nat × Nat) :=
  [(0, 4), (4, 1), (5, 1), (6, 2), (8, 8), (16, 32), (48, 8), (56, 3), (59, 1), (60, 2), (62, 2), (64, 4), (68, 4), (72, 52), (124, 4)]

/-- Where the image read again differs from the admitted one `k`: in a header field, an entry of the section table, or a section's
header with its CRC (R352, R361). -/
def differs (k m : Image) : Option Refuse :=
  firstAt cImageChanged 0 (headerFields.map fun f => (k.u f.1 f.2 ≠ m.u f.1 f.2, f.1)) <|>
  k.sections.findSome? fun x =>
    let e := k.tableOffset + 8 * x.index
    firstAt cImageChanged 0 [(k.u e 8 ≠ m.u e 8, e)] <|>
    firstAt cImageChanged x.type [
      (k.u x.off 2 ≠ m.u x.off 2, x.off), (k.u (x.off + 2) 2 ≠ m.u (x.off + 2) 2, x.off + 2),
      (k.u (x.off + 4) 4 ≠ m.u (x.off + 4) 4, x.off + 4), (k.u (x.off + 8) 4 ≠ m.u (x.off + 8) 4, x.off + 8)]

/-- The checks of ACTIVATING (R355, R361): the identity of the admitted image, then the image read again against it, in its header,
its section headers with their CRCs, and PLAN_HASH. -/
def recheck (s : State) (m : Image) : Option Refuse :=
  let k : Image := ⟨m.addr, s.admitted.getD m.raw⟩
  checkIdentity s k k.plan <|>
  (checkHeader (s.roomAt m.addr) m).map (fun r => ⟨cImageChanged, 0, r.item⟩) <|>
  differs k m <|>
  (m.sections.find? m.badCrc).map (fun x => ⟨cImageChanged, x.type, x.off + 8⟩) <|>
  firstAt cImageChanged 0 [(m.hash ≠ m.planHash, 16)]

end Sys2Proof.Machine
end

