-- ==== Sys2Proof/Machine/Activate.lean ====
section
/-!
DEFINITION. Loading a plan: the load states (R351–R355, R362, R363) and the activation cycle (R356, R357), with the measurement
registers that firmware extends at it (R407).
-/

namespace Sys2Proof.Machine

open Reg

/-! Measurement registers (R407). -/

/-- M_i as bytes. -/
def State.meas (s : State) (i : Nat) : List Byte := (List.range 16).flatMap fun k => leBytes 4 (s.get (SEC_MEAS_VALUE i k))

/-- Extend M_i by a 64-byte value D. -/
def extendMeas (i : Nat) (d : List Byte) : Act := .ask fun s =>
  let m := leNat (shake256 64 (s.meas i ++ d))
  .each (List.range 16) fun k => .set (SEC_MEAS_VALUE i k) (bits m (32 * k) 32)

/-- Extend M_i by an item of any length. -/
def extendItem (i : Nat) (x : List Byte) : Act := extendMeas i (shake256 64 x)

/-! Writing register images (R346). -/

/-- Write the fields of a register at `base` from its image; a field that the chip computes becomes 0. -/
def loadFields (base : Nat) (fs : List FieldDef) (img : Nat) (computed : Nat → Bool) : Act :=
  .each fs fun f => .set (f.at base) (if computed f.lo then 0 else bits img f.lo f.width)

/-- Return the registers of some spans of BAR0 to their reset values; the spans rise and do not meet. -/
def forget (spans : List (Nat × Nat)) : Act :=
  let kept := spans.foldr (fun x (acc : List (Nat × Nat) × Nat) => ((8 * x.2, acc.2) :: acc.1, 8 * x.1)) ([], 2 ^ 40)
  .upd (.resetRegs ((0, kept.2) :: kept.1))

/-- The tables that activation writes whole and the counters and logs that it clears (R242, R276, R277, R313, R340, R356; log
entry 15). -/
def planSpans : List (Nat × Nat) :=
  [(0x02030000, 0x02030100), (0x02050000, 0x02050D04), (0x02060000, 0x02068000), (0x02240010, 0x02240030), (0x02240040, 0x02240068),
   (0x02240080, 0x02240088), (0x02240108, 0x02240110), (0x02250040, 0x02250058), (0x02250080, 0x02250090), (0x02250100, 0x02250140),
   (0x02260000, 0x02270000), (0x02270000, 0x02274000), (0x02280000, 0x022C0000), (0x022C0000, 0x022E0000), (0x022E0000, 0x022E4000)]

/-- What an activation begins anew: everything in progress under the old plan. -/
def planBanks : List Bank :=
  [.rxSeq, .tilesSince, .activeBase, .fireLen, .stepTile, .begun, .consumedSince, .commitDue, .vecOrd, .stationary, .statExp, .accRow,
   .accPoison, .streamRow, .runAlt, .lastFire, .vreg, .vmask, .vaddr, .vimem, .abortDue, .recvPort, .draining, .playWork, .aDone, .aOut, .nanFresh,
   .takeover, .norm, .subst, .gone]

/-- Drop what is in progress under the old plan. -/
def dropOldPlan : Act :=
  .seq (.each planBanks fun b => .upd (.clear b)) (.all [
    .upd (.slots []), .upd (.insts []), .upd (.waitMsgs []), .upd (.vsyCells []), .upd (.sentCounts []), .upd (.takenCounts []),
    .upd (.exacts []), .upd (.earlyAborts []), .upd (.passes []), .upd (.commitCells []), .upd (.enters []), .upd (.failed []),
    .upd (.marks []), .upd (.vecs []), .upd (.desks [])])

/-! The parts of the activation cycle (R356). -/

/-- Fields of a stream context that the chip computes (R346). -/
def strComputed (lo : Nat) : Bool := lo = 128 || lo = 256 || (288 ≤ lo && lo < 352) || lo = 384

/-- Stream contexts: those of STREAMS written with CREDITS = CREDIT_MAX, all others VALID = 0. -/
def activateStreams (p : Plan) : Act := .ask fun s =>
  .seq (.each (s.listed (STR_VALID 0) 0x40 262144) fun n => .set (STR_VALID n) 0)
    (.each p.streams fun x => .all [
      loadFields (0x03000000 + x.1 * 0x40) STR_fields x.2 strComputed, .set (STR_CREDITS x.1) (seCreditMax x.2),
      .put .rxSeq x.1 (bits x.2 96 32)])

/-- Script memories of a DESK: the firmware parts are kept (R139). -/
def activateDesk (r : Rec) : Act :=
  let c := r.endpt / 8
  let w := min 0x3000 (dkWords r.image)
  .all [
    .each (List.range 63) (fun k => .set (CLU_DESK_SREG_VALUE c (k + 1)) (bits r.image (8 * (8 + 4 * k)) 32)),
    .each (List.range w) (fun k => .put .dimem (16384 * c + 0x1000 + k) (bits r.image (8 * (260 + 4 * k)) 32)),
    .each (List.range (min 0xC000 (dkData r.image)))
      (fun k => .put .ddmem (65536 * c + 0x4000 + k) (bits r.image (8 * (260 + 4 * w + k)) 8))]

/-- Station programs, VEC instruction memory, desk script regions and s1–s63 (R139, R347). -/
def activatePrograms (p : Plan) : Act := .ask fun s =>
  .all [
    .upd (.progs (p.recs.map fun r => ⟨r.endpt, r.part, r.steps⟩)),
    .upd (.clear .dimem), .each (s.dimem.filter fun x => x.1 % 16384 < 0x1000) (fun x => .put .dimem x.1 x.2),
    .upd (.clear .ddmem), .each (s.ddmem.filter fun x => x.1 % 65536 < 0x4000) (fun x => .put .ddmem x.1 x.2),
    .each (List.range 36) (fun c => .seq (.set (CLU_DESK_STATE_RUN c) 0)
      (.each (List.range 63) fun k => .set (CLU_DESK_SREG_VALUE c (k + 1)) 0)),
    .each (p.recs.filter fun r => r.endpt < 0x120 && r.endpt % 8 = 4) (fun r =>
      .each (List.range (min 2048 (r.imageLen / 8))) fun k => .put .vimem (2048 * (r.endpt / 8) + k) (bits r.image (64 * k) 64)),
    .each (p.recs.filter fun r => r.endpt < 0x120 && r.endpt % 8 = 7 && r.imageLen ≠ 0) activateDesk]

/-- The stations of the chip (R28). -/
def allStations : List Nat := (List.range 0x190).filter isStation

/-- No stationary is loaded in a part, and CLU_BENCH_LOADED reads 0 (R97, R117). -/
def unload (c b part : Nat) : Act :=
  .seq (setLoaded c b part 0 0 0) (.set (if part = 2 then CLU_BENCH_LOADED_H_VALID c b else CLU_BENCH_LOADED_L_VALID c b) 0)

/-- Stations: every STEP_IDX 0, ENABLE from STRUCTURE; SPLIT and CHECK_TOL of every bench; FLUSH. -/
def activateStations (p : Plan) : Act :=
  .all [
    .each allStations (fun e => .all [setStepIdx e 0 0, clearLeft e]),
    .each (List.range 36) (fun c => .each (List.range 4) fun b => .all [
      .set (CLU_BENCH_CFG_SPLIT c b) (b2n (p.split c b)), .set (CLU_BENCH_CFG_CHECK_TOL c b) (p.tol c b),
      unload c b 1, unload c b 2]),
    .each (List.range 36) (fun c => .set (CLU_DESK_FWCYC_OVF c) 0),
    .set GLB_NUMCTL_FLUSH p.flush,
    .each allStations (fun e =>
      if p.enable e then resumeStation e
      else .ask fun s => if s.get (STN_CTRL_ENABLE e) = 1 then quiesceStation e else stnRefresh e)]

/-- Milestones: named ones from MILESTONES; all others COUNT 0, TARGET 0xFFFF_FFFF; CODE, OVF and IRQ_EN cleared. -/
def activateMls (p : Plan) : Act := .ask fun s =>
  let old := (s.listed (MLS_ENTRY_COUNT 0) 8 65536 ++ s.listed (MLS_ENTRY_TARGET 0) 8 65536 ++ s.listed (MLS_STATUS_CODE 0) 4 65536 ++
    s.listed (MLS_STATUS_OVF 0) 4 65536 ++ s.listed (MLS_STATUS_IRQ_EN 0) 4 65536 ++ s.listed (MLS_STATUS_REACHED 0) 4 65536).eraseDups
  .all [
    .each old (fun m => .all [
      .set (MLS_ENTRY_COUNT m) 0, .set (MLS_ENTRY_TARGET m) 0xFFFFFFFF, .set (MLS_STATUS_CODE m) 0, .set (MLS_STATUS_OVF m) 0,
      .set (MLS_STATUS_IRQ_EN m) 0]),
    .each p.mls (fun x => .all [
      .set (MLS_ENTRY_COUNT x.1) (bits x.2 0 32), .set (MLS_ENTRY_TARGET x.1) (bits x.2 32 32),
      .set (MLS_STATUS_IRQ_EN x.1) (bits x.2 64 1), .set (MLS_STATUS_IRQ_VEC x.1) (bits x.2 72 8)]),
    .each (old ++ p.mls.map (·.1)).eraseDups mlsRefresh]

/-- E as a write to a scale slot stores it: −128 and −127 become −126 (R91). -/
def clampE (e : Nat) : Nat := if e % 256 = 0x80 || e % 256 = 0x81 then 0x82 else e

/-- Scale slots: named ones written, all others VALID = 0 (R91). -/
def activateScales (p : Plan) : Act := .ask fun s =>
  .seq (.each (s.listed (GLB_SCALE_SLOT_VALID 0) 0x10 16384) fun n => .set (GLB_SCALE_SLOT_VALID n) 0)
    (.each p.scales fun x => .seq
      (loadFields (0x00080000 + x.1 * 0x10) GLB_SCALE_SLOT_fields x.2 fun lo => 64 ≤ lo)
      (.set (GLB_SCALE_SLOT_E x.1) (clampE (bits x.2 32 8))))

/-- Routes, LNK_VCPAIR and LNK_MCAST (R242). -/
def activateRoutes (p : Plan) : Act :=
  let word (base off : Nat) (fs : List FieldDef) : Act := loadFields base fs (bits p.routes (8 * off) 32) fun _ => false
  .all [
    word 0x02040000 0 LNK_RT_CFG_fields, word 0x02040004 4 LNK_VCPAIR_fields,
    .each (List.range 16) (fun d => .seq (word (0x02050000 + 4 * d) (8 + 4 * d) LNK_ROUTE_W_fields)
      (word (0x02050040 + 4 * d) (72 + 4 * d) LNK_ROUTE_X_fields)),
    .each (List.range 256) (fun d => .seq (word (0x02050400 + 4 * d) (136 + 4 * d) LNK_ROUTE_Y_fields)
      (word (0x02050800 + 4 * d) (1160 + 4 * d) LNK_ROUTE_Z_fields)),
    .each p.mcasts (fun x => loadFields (0x02060000 + 8 * x.1) LNK_MCAST_fields x.2 fun lo => lo = 16)]

/-- Ports, roles, expected peers and the chip ID in force (R258, R268, R270). -/
def activateLinks (p : Plan) (coord : Nat) : Act :=
  .all [
    .each ((List.range 16).filter p.portValid) (fun i => .all [
      .set (LNK_PORT_MEMBERS_MEMBERS i) (p.members i), .set (LNK_PORT_CFG_ROLE i) (p.portRole i), .set (LNK_PORT_CFG_VALID i) 1]),
    .each (List.range 36) (fun l =>
      match p.portOf l with
      | some i => .all [
          .set (LNK_ROLE_ROLE l) (p.portRole i), .set (LNK_ROLE_PORT l) i, .set (LNK_ROLE_IN_PORT l) 1,
          .set (LNK_ROLE_EXP_LINK l) (p.expLink l), .set (LNK_ROLE_EXP_VALID l) (b2n (p.expValid l)),
          .set (LNK_EXP_SERIAL_SERIAL l) (p.expSerial l)]
      | none => .all [
          .set (LNK_ROLE_ROLE l) 0, .set (LNK_ROLE_PORT l) 0, .set (LNK_ROLE_IN_PORT l) 0, .set (LNK_ROLE_EXP_LINK l) 0,
          .set (LNK_ROLE_EXP_VALID l) 0, .set (LNK_EXP_SERIAL_SERIAL l) 0]),
    .set LNK_COORD_ACTIVE coord, .set LNK_COORD_VALID 1, coordRefresh]

/-- SAMPLE_L as a write stores it (R340). -/
def clampL (v : Nat) : Nat := max 8 (min 16 v)

/-- Groups with this chip's digits, descriptors with their signatures, buckets and SAMPLE_L (R276, R277, R282, R340). A detour that
the image has in force takes its entry (R306). -/
def activateGroups (p : Plan) (coord : Nat) : Act :=
  .all [
    .each p.groups (fun x => .seq
      (loadFields (0x02260000 + 0x40 * x.1) VSY_GROUP_fields x.2 fun _ => false)
      (.each (List.range (vgLevels x.2)) fun l => .set (VSY_GROUP_DIGIT x.1 l) (coordAt coord (vgAxis x.2 l) - vgBase x.2 l))),
    .each p.descs (fun x => .seq
      (loadFields (0x02280000 + 0x40 * x.1) VSY_DESC_fields x.2 fun lo => 160 ≤ lo)
      (.ask fun s => .set (VSY_DESC_SIG x.1) (s.descSig x.1))),
    .each p.buckets (fun x => loadFields (0x022C0000 + 0x20 * x.1) VSY_BUCKET_fields x.2 fun _ => false),
    .set VSY_GRAD_CFG_SAMPLE_L (clampL p.sampleL), .upd (.detours p.detours),
    .ask fun s => .each (s.groups.filter fun c => s.get (VSY_GROUP_DETOURED c) = 1) fun c => applyEntry c (s.get (VSY_GROUP_WITHDRAWN c))]

/-- Step registers (R176, R186). -/
def activateSteps (p : Plan) : Act :=
  .each (List.range 8) fun g => .all [
    .set (GLB_STEP_NUM_STEP g) (p.stepWord g 0),
    loadFields (0x210 + 0x40 * g) GLB_STEP_POLICY_fields (p.stepWord g 1) fun _ => false,
    loadFields (0x214 + 0x40 * g) GLB_STEP_GROUP_fields (p.stepWord g 2) fun _ => false,
    loadFields (0x218 + 0x40 * g) GLB_STEP_CFG_fields (p.stepWord g 3) fun _ => false,
    .set (GLB_STEP_STATE_CUR_HALF g) 0, .set (GLB_STEP_STATE_ATTEMPT g) 0, .set (GLB_STEP_STATE_LAST_OUTCOME g) 0,
    .set (GLB_STEP_CSEQ_CSEQ g) 0, .set (GLB_STEP_PASSES_OVF g) 0, .set (GLB_STEP_SKIPS_OVF g) 0, .set (GLB_STEP_RERUNS_OVF g) 0,
    idleRefresh g]

/-- Budget sets; the activation cycle begins a budget period, and is a period boundary for a pending mode switch (R21, R356). -/
def activateBudgets (p : Plan) : Act :=
  .all [
    .each (List.range 4) (fun k => .each (List.range 8) fun g => .each (List.range 40) fun f =>
      .set ⟨(0x1000 + k * 0x280 + g * 0x50) * 8 + 16 * f, 16, 0⟩ (p.share k g f)),
    .set GLB_BUDGET_SET_SEL p.initial, .set GLB_BUDGET_SET_CUR p.initial, .set GLB_BUDGET_SET_PENDING 0, .upd (.selLate false),
    finishBudgets, switchMode, .upd (.period 0), .ask fun s => .upd (.allow (s.allowances false)), countMembers]

/-- CHECK units (R442). -/
def activateChecks (p : Plan) : Act :=
  .each (indexed p.checks) fun x =>
    let n := x.1
    let c := (checkCfg x.2).1
    .all [
      .set (CHK_CFG_WIDTH n) c.width, .set (CHK_CFG_REFIN n) (b2n c.refin), .set (CHK_CFG_REFOUT n) (b2n c.refout),
      .set (CHK_CFG_SCOPE n) (b2n (checkCfg x.2).2), .set (CHK_POLY_VALUE n) c.poly, .set (CHK_INIT_VALUE n) c.init,
      .set (CHK_XOROUT_VALUE n) c.xorout, .set (CHK_STATE_VALUE n) c.init, .set (CHK_RESULT_VALUE n) 0]

/-- The activation cycle (R356). -/
def activate (m : Image) : Act := .ask fun s =>
  let p := m.plan
  let moved := (List.range 36).filter fun l => s.get (LNK_ROLE_ROLE l) ≠ ((p.portOf l).map p.portRole).getD 0
  .all [
    dropOldPlan, forget planSpans, activateStreams p, activatePrograms p, activateStations p, activateRoutes p,
    activateLinks p m.targetCoord, .each (List.range 8) (fun k => .set (GLB_PLAN_HASH_HASH k) (bits m.planHash (32 * k) 32)),
    .set GLB_PLAN_STATUS_ACTIVE 1, .modify GLB_PLAN_STATUS_ACT_SEQ (· + 1), activateGroups p m.targetCoord, activateScales p,
    activateSteps p, activateMls p, activateBudgets p, activateChecks p, .upd (.seed p.seed), .upd (.coords p.coords),
    .upd (.regions p.regions), .each (List.range 36) planDiff, .each moved judgeLink, extendItem 3 (leBytes 32 m.planHash),
    .each (List.range 8) takeMark]

/-! Load states (R353). -/

def loadIdle : Nat := 0
def loadChecking : Nat := 1
def loadArmed : Nat := 2
def loadActivating : Nat := 3

/-- RESULT. -/
def loadActivated : Nat := 1
def loadRefused : Nat := 2
def loadAbandoned : Nat := 3

/-- A return to IDLE: DONE, the interrupt, and the completion of the PLAN_LOAD command of the host (R353, R379, R381). -/
def loadEnd (result : Nat) : Act := .ask fun s =>
  .all [
    .set GLB_PLAN_STATUS_LOAD_STATE loadIdle, .upd (.admitted none), .set GLB_PLAN_STATUS_RESULT result, .set GLB_PLAN_STATUS_DONE 1,
    .when (s.get GLB_PLAN_CTRL_IRQ_EN = 1) (signal (s.get GLB_PLAN_CTRL_IRQ_VEC)),
    .ask fun t => .each (t.inflight.filter fun c => c.opcode = 7 && c.started) fun c =>
      let fault := if result = loadRefused then t.get GLB_PLAN_FAULT_CODE <<< 8 + t.get GLB_PLAN_FAULT_ITEM <<< 32 else 0
      finishCmd c (if result = loadActivated then 0 else 6) (result + fault)]

/-- A refusal (R358, R361). -/
def refuseLoad (r : Refuse) : Act :=
  .all [.set GLB_PLAN_FAULT_CODE r.code, .set GLB_PLAN_FAULT_SECTION r.sect, .set GLB_PLAN_FAULT_ITEM r.item, loadEnd loadRefused]

/-- LOAD (R351); the plan load of start-up is its stage 10 (R414). -/
def planLoad : Act := .ask fun s =>
  if s.get GLB_PLAN_STATUS_LOAD_STATE = loadIdle then
    .seq (.set GLB_PLAN_STATUS_LOAD_STATE loadChecking) (.when (s.get GLB_BOOT_STATUS_STAGE = 9) (.set GLB_BOOT_STATUS_STAGE 10))
  else .set GLB_PLAN_STATUS_BUSY_REJECT 1

/-- ABANDON (R353, R363). -/
def planAbandon : Act := .ask fun s =>
  .when (s.get GLB_PLAN_STATUS_LOAD_STATE = loadChecking || s.get GLB_PLAN_STATUS_LOAD_STATE = loadArmed) (loadEnd loadAbandoned)

/-- The two bits of one write (R363). -/
def planCtrl (load abandon : Bool) : Act := .seq (.when abandon planAbandon) (.when load planLoad)

/-- The chip reads the image: errors of the lines it reads are counted (R192, R352). -/
def readImage (m : Image) : Act :=
  .when (shelfBase ≤ m.addr && m.addr < shelfBase + 16 * shelfSpan)
    (visitMarked (64 + (m.addr - shelfBase) / shelfSpan) ((m.addr - shelfBase) % shelfSpan) m.length)

/-- CHECKING ends (R353, R354, R358). -/
def tollgateCheck : Act := .ask fun s =>
  .when (s.get GLB_PLAN_STATUS_LOAD_STATE = loadChecking) (
    let m := s.image
    .seq (readImage m) (match tollgate s m with
      | some r => refuseLoad r
      | none => .all [.set GLB_PLAN_STATUS_LOAD_STATE loadArmed, .upd (.admitted (some m.raw)),
          .when (s.get GLB_PLAN_CTRL_AUTO_QUIESCE = 1) (.each allStations quiesceStation)]))

/-- The quiescent point (R354). -/
def State.quiescent (s : State) : Bool :=
  s.get GLB_PLAN_STATUS_ACTIVE = 0 ||
  (allStations.all (fun e => s.get (STN_STATUS_QUIESCED e) = 1) &&
   (List.range 8).all (fun g => s.get (GLB_STEP_STATE_IN_COMMIT g) = 0) &&
   s.inflight.all fun c => !(c.started && (c.opcode = 5 || c.opcode = 6)))

def quiescentPoint : Act := .ask fun s =>
  .when (s.get GLB_PLAN_STATUS_LOAD_STATE = loadArmed && s.quiescent) (.set GLB_PLAN_STATUS_LOAD_STATE loadActivating)

/-- The end of ACTIVATING: a refusal, or the activation cycle (R355, R356). -/
def activationCycle : Act := .ask fun s =>
  .when (s.get GLB_PLAN_STATUS_LOAD_STATE = loadActivating) (
    let m := s.image
    .seq (readImage m) (match recheck s m with
      | some r => refuseLoad r
      | none => .seq (activate m) (loadEnd loadActivated)))

def execPlanCtrlLoad (s : State) : Host.Outcome State Fault Refusal := live (planCtrl true false) s
def execAbandon (load : Bool) (s : State) : Host.Outcome State Fault Refusal := live (planCtrl load true) s
def execTollgateCheck (s : State) : Host.Outcome State Fault Refusal := live tollgateCheck s
def execQuiescentPoint (s : State) : Host.Outcome State Fault Refusal := live quiescentPoint s
def execActivationCycle (s : State) : Host.Outcome State Fault Refusal := live activationCycle s

end Sys2Proof.Machine
end

