-- ==== Sys2Proof/Machine/Check.lean ====
section
/-!
DEFINITION. The check-value units (R440–R452): the folded bytes, the CHECK station's firings, and the alive rule of queue frames.
-/

namespace Sys2Proof.Machine

open Reg

/-- The configuration in force of a unit. -/
def State.chkCfg (s : State) (n : Nat) : CrcCfg :=
  ⟨s.get (CHK_CFG_WIDTH n), s.get (CHK_POLY_VALUE n), s.get (CHK_INIT_VALUE n), s.get (CHK_CFG_REFIN n) = 1,
   s.get (CHK_CFG_REFOUT n) = 1, s.get (CHK_XOROUT_VALUE n)⟩

/-- Bytes of a check value: ⌈W ÷ 8⌉. -/
def CrcCfg.bytes (c : CrcCfg) : Nat := ceilDiv c.width 8

/-- A header as SCOPE = 1 folds it: SEQ, STEP and ORIGIN read as 0 (R445). -/
def foldedHeader (h : Nat) : Nat := setBits h 128 96 0

/-- The bytes that a tile of header `h` and payload `p` gives to the computation (R445). -/
def foldedBytes (scope : Bool) (h p : Nat) : List Byte :=
  (if scope then leBytes 32 (foldedHeader h) else []) ++ leBytes (hPayloadLen h) p

/-- A header with another PAYLOAD_LEN. -/
def withLen (h n : Nat) : Nat := setBits h 224 16 n

/-- CHECK KINDs (R444). -/
def ckKind (w : Nat) : Nat := bits w 0 4
def ckRestart (w : Nat) : Bool := bitAt w 4

/-- The register from which a firing folds (R441, R444). -/
def State.chkStart (s : State) (n : Nat) (a : Alt) : Nat :=
  if ckRestart a.op then s.get (CHK_INIT_VALUE n) else s.get (CHK_STATE_VALUE n)

/-- Emit a tile on the output, if one is bound (R446). -/
def chkOut (a : Alt) (t : Tile) : List (Nat × Tile) := a.outputs.map fun o => (o, t)

/-- FOLD (R446). -/
def foldFire (n : Nat) (a : Alt) (i : Nat) : Act := .ask fun s =>
  let t := s.inputD i
  let c := s.chkCfg n
  let r := c.fold (s.chkStart n a) (foldedBytes (s.get (CHK_CFG_SCOPE n) = 1) t.head t.payload)
  .all [.set (CHK_STATE_VALUE n) r, .set (CHK_RESULT_VALUE n) (c.check r), finishFiring (0x180 + n) 0 a (chkOut a t)]

/-- SEAL (R446). -/
def sealFire (n : Nat) (a : Alt) (i : Nat) : Act := .ask fun s =>
  let t := s.inputD i
  let c := s.chkCfg n
  let k := hPayloadLen t.head
  let v := c.check (c.fold (s.chkStart n a) (foldedBytes (s.get (CHK_CFG_SCOPE n) = 1) t.head t.payload))
  let out := Tile.of (withLen t.head (k + c.bytes)) (t.payload % 2 ^ (8 * k) + v <<< (8 * k))
  if 32768 < k + c.bytes then badHeader i
  else .all [.set (CHK_RESULT_VALUE n) v, .set (CHK_STATE_VALUE n) c.init, finishFiring (0x180 + n) 0 a (chkOut a out)]

/-- VERIFY (R446): a mismatch poisons the tile that goes out. -/
def verifyFire (n : Nat) (a : Alt) (i : Nat) : Act := .ask fun s =>
  let t := s.inputD i
  let c := s.chkCfg n
  let k := hPayloadLen t.head
  let h := withLen t.head (k - c.bytes)
  let v := c.check (c.fold (s.chkStart n a) (foldedBytes (s.get (CHK_CFG_SCOPE n) = 1) h t.payload))
  let bad := bits t.payload (8 * (k - c.bytes)) (8 * c.bytes) ≠ v
  let out := (Tile.of h (t.payload % 2 ^ (8 * (k - c.bytes)))).withPoison bad
  if k < c.bytes || !headerValid h then badHeader i
  else .all [
    .set (CHK_RESULT_VALUE n) v, .set (CHK_STATE_VALUE n) c.init,
    .when bad (.all [count (CHK_MISMATCH_COUNT n) (CHK_MISMATCH_OVF n), .each a.streams raisePoisoned,
      noteHere 15 (0x180 + n) (s.altGraph a) (hSeq h)]),
    finishFiring (0x180 + n) 0 a (chkOut a out)]

/-- A firing of CHECK unit `n` of a kind: a tile whose header fails R24 is not consumed (R25). A queue frame that is being checked runs
to its end first (R449). -/
def chkFire (n kind : Nat) (f : Nat → Alt → Nat → Act) : Act := .ask fun s =>
  .when (s.get (CHK_STATUS_QBUSY n) = 0) <| fireOn (0x180 + n) 0 s.altReady (fun a => ckKind a.op = kind) fun a =>
    match a.inputs with
    | [i] => if headerValid (s.inputD i).head then f n a i else badHeader i
    | _ => .skip

def execFold (u : CheckUnit) (s : State) : Host.Outcome State Fault Refusal := live (chkFire u.val 1 foldFire) s
def execCheckSeal (u : CheckUnit) (s : State) : Host.Outcome State Fault Refusal := live (chkFire u.val 2 sealFire) s
def execVerify (u : CheckUnit) (s : State) : Host.Outcome State Fault Refusal := live (chkFire u.val 3 verifyFire) s

/-! Register writes (R448, R451). -/

/-- A write may be applied: the station is QUIESCED and the unit is between queue frames (R448). -/
def State.chkOpen (s : State) (n : Nat) : Bool := s.get (STN_STATUS_QUIESCED (0x180 + n)) = 1 && s.get (CHK_STATUS_QBUSY n) = 0

/-- A write to CHK_STATE. -/
def chkStateWrite (n v : Nat) : Act := .ask fun s =>
  if s.chkOpen n then .set (CHK_STATE_VALUE n) v else .set (CHK_STATUS_WR_REJECT n) 1

/-- A write to a configuration register, 0 CHK_CFG, 1 CHK_POLY, 2 CHK_INIT, 3 CHK_XOROUT: it is discarded too when it would make
the configuration invalid. -/
def chkConfigWrite (n reg v : Nat) : Act := .ask fun s =>
  let c := s.chkCfg n
  let c' : CrcCfg :=
    if reg = 0 then { c with width := v % 2 ^ 7 } else if reg = 1 then { c with poly := v }
    else if reg = 2 then { c with init := v } else { c with xorout := v }
  if !(s.chkOpen n && c'.valid) then .set (CHK_STATUS_WR_REJECT n) 1
  else if reg = 0 then
    .all [.set (CHK_CFG_WIDTH n) v, .set (CHK_CFG_REFIN n) (bits v 8 1), .set (CHK_CFG_REFOUT n) (bits v 9 1),
      .set (CHK_CFG_SCOPE n) (bits v 10 1)]
  else if reg = 1 then .set (CHK_POLY_VALUE n) v
  else if reg = 2 then .set (CHK_INIT_VALUE n) v
  else .set (CHK_XOROUT_VALUE n) v

/-- CLR_MISMATCH. -/
def clrMismatch (n : Nat) : Act := countClear (CHK_MISMATCH_COUNT n) (CHK_MISMATCH_OVF n)

def execCheckStateWrite (u : CheckUnit) (v : BitVec 64) (s : State) : Host.Outcome State Fault Refusal :=
  live (chkStateWrite u.val v.toNat) s
def execCheckConfigWrite (u : CheckUnit) (reg : Fin 4) (v : BitVec 64) (s : State) : Host.Outcome State Fault Refusal :=
  live (chkConfigWrite u.val reg.val v.toNat) s
def execClrMismatch (u : CheckUnit) (s : State) : Host.Outcome State Fault Refusal := live (clrMismatch u.val) s

/-! Queue frames (R449, R450). -/

/-- The check value of a tile record: each frame starts from INIT, and SCOPE is ignored (R449). -/
def State.frameCheck (s : State) (n : Nat) (record : List Byte) : Nat :=
  let c := s.chkCfg n
  c.check (c.fold c.init record)

/-- Alive judgements (R450). -/
inductive Alive where
  | inOrder | repeated | skipped
  deriving DecidableEq, Repr

/-- Judge a received alive value `a` against the last accepted `l`. -/
def judgeAlive (l a : Nat) : Alive :=
  if seqDiff a l = 1 then .inOrder else if seqDiff a l ≤ 0 then .repeated else .skipped

end Sys2Proof.Machine
end

