-- ==== Sys2Proof/Machine/Host.lean ====
section
/-!
DEFINITION. The host port: host access to device memory (R196, R197, R205, R375), command and completion rings (R378–R386), tile
queues (R387–R392), interrupt coalescing (R394), and the reset of the HST block (R377). REG_WR and REG_RD are in RegCmds.lean.
-/

namespace Sys2Proof.Machine

open Reg

/-! Host access to device memory (R188, R192, R196, R197). -/

/-- Marks of a span of device addresses: check units of 16 bytes in the drawers and of 64 bytes in the shelves. -/
def State.marksIn (s : State) (a n : Nat) : List Nat × List Nat :=
  ((s.drwErr.filter fun p => 16 * p.1 < a + n && a < 16 * p.1 + 16).map (·.1),
   (s.shfErr.filter fun p => shelfBase + 64 * p.1 < a + n && a < shelfBase + 64 * p.1 + 64).map (·.1))

/-- A host write of bytes at a device address: bytes in a hole are discarded, and the check units written are valid again. -/
def hostStore (a : Nat) (bs : List Byte) : Act := .ask fun s =>
  let m := s.marksIn a bs.length
  .all [
    .each (bs.zipIdx.filter fun x => s.mapped (a + x.2)) (fun x => .upd (.poke (a + x.2) x.1)),
    .each m.1 (fun k => .put .drwErr k 0), .each m.2 (fun k => .put .shfErr k 0)]

/-- What a host read of `n` bytes does to the check units it touches. -/
def hostVisit (a n : Nat) : Act := .ask fun s =>
  let m := s.marksIn a n
  .seq (.each m.1 fun k => visitDrawer (k / 2 ^ 21) (k % 2 ^ 21) false) (.each m.2 fun k => visitShelf (k / 2 ^ 32) (k % 2 ^ 32) false)

/-! Command entries (R378, R379). -/

/-- OPCODE values. -/
def opNop : Nat := 0
def opRegWr : Nat := 1
def opRegRd : Nat := 2
def opMlsInc : Nat := 3
def opMlsWait : Nat := 4
def opCopyH2D : Nat := 5
def opCopyD2H : Nat := 6
def opPlanLoad : Nat := 7
def opBudget : Nat := 8
def opSnapshot : Nat := 9
def opFence : Nat := 10

/-- STATUS values (R381). -/
def stOk : Nat := 0
def stBadOpcode : Nat := 1
def stBadOperand : Nat := 2
def stRejected : Nat := 3
def stAborted : Nat := 4
def stDmaError : Nat := 5

/-- `n` bytes of the operands at entry byte `o`. -/
def HostCmd.arg (c : HostCmd) (o n : Nat) : Nat := bits c.args (8 * (o - 16)) (8 * n)

/-- Operand bytes of an opcode: entry byte and count. -/
def operandBytes (op : Nat) : List (Nat × Nat) :=
  match op with
  | 1 => [(16, 5), (24, 8)]
  | 2 => [(16, 5)]
  | 3 => [(16, 2), (20, 4)]
  | 4 => [(16, 2)]
  | 5 | 6 => [(16, 20)]
  | 7 => [(16, 8)]
  | 8 => [(16, 1)]
  | _ => []

/-- An unused byte of the entry, or a reserved flag, is not zero. -/
def HostCmd.dirty (c : HostCmd) : Bool :=
  c.reserved ≠ 0 || (operandBytes c.opcode).foldl (fun n x => setBits n (8 * (x.1 - 16)) (8 * x.2) 0) c.args ≠ 0

/-- An operand is outside its range. -/
def HostCmd.outOfRange (c : HostCmd) : Bool :=
  match c.opcode with
  | 1 | 2 => 2 ^ 26 ≤ c.arg 16 4 || !(c.arg 20 1 = 4 || c.arg 20 1 = 8)
  | 5 | 6 => c.arg 32 4 = 0 || 2 ^ 48 < c.arg 24 8 + c.arg 32 4
  | 7 => 2 ^ 48 ≤ c.arg 16 8 || c.arg 16 8 % 64 ≠ 0
  | 8 => 3 < c.arg 16 1
  | _ => false

/-- The status with which a command ends before it starts; none when it may start. -/
def HostCmd.refused (c : HostCmd) : Option Nat :=
  if opFence < c.opcode then some stBadOpcode else if c.dirty || c.outOfRange then some stBadOperand else none

/-- The command that an entry of ring `r` spells. -/
def cmdOf (r e : Nat) : HostCmd :=
  ⟨Fin.ofNat 64 r, bits e 0 16, bitAt e 16, bitAt e 17, bits e 32 32, bits e 64 64, bits e 128 384, bits e 18 14, false, 0⟩

/-! Acceptance (R382). -/

/-- Entries of a command ring. -/
def State.cmdSize (s : State) (r : Nat) : Nat := 2 ^ s.get (HST_CMD_CFG_SIZE_LOG2 r)

/-- Entries of completion ring `c` in use. -/
def State.cplUsed (s : State) (c : Nat) : Nat :=
  (s.get (HST_CPL_PTR_TAIL c) % s.cplSize c + s.cplSize c - s.get (HST_CPL_PTR_HEAD c) % s.cplSize c) % s.cplSize c

/-- Completion ring `c` has a free entry for every command in flight that posts there and for one more. -/
def State.cplRoom (s : State) (c : Nat) : Bool :=
  s.cplUsed c + (s.inflight.filter fun x => s.get (HST_CMD_CFG_CPL_RING x.ring.val) = c).length + 1 ≤ s.cplSize c - 1

/-- A ring reads its entry at HEAD: it runs and is not empty, its indices taken modulo its size (R382). -/
def State.ringReads (s : State) (r : Nat) : Bool :=
  s.get (HST_CMD_CTRL_RUN r) = 1 && s.get (HST_CMD_PTR_HEAD r) % s.cmdSize r ≠ s.get (HST_CMD_PTR_TAIL r) % s.cmdSize r && (s.ringCmds r).length < 64 &&
  s.cplRoom (s.get (HST_CMD_CFG_CPL_RING r))

/-- A ring reads its entry at HEAD; `none` where the fetch fails. A command that R379 refuses completes at once. -/
def commandAccept (r : Nat) (entry : Option Nat) : Act := .ask fun s =>
  .when (s.ringReads r) (
    match entry with
    | none => .all [.set (HST_CMD_STATUS_FETCH_ERR r) 1, .set (HST_CMD_CTRL_RUN r) 0, ringStatus r]
    | some e =>
      let c := cmdOf r e
      if c.hseq ≠ s.get (HST_CMD_SEQ_NEXT_SEQ r) then
        .all [.set (HST_CMD_STATUS_SEQ_ERR r) 1, .set (HST_CMD_CTRL_RUN r) 0, ringStatus r]
      else .all [
        .set (HST_CMD_PTR_HEAD r) ((s.get (HST_CMD_PTR_HEAD r) + 1) % s.cmdSize r),
        .set (HST_CMD_SEQ_ACCEPTED_SEQ r) c.hseq, .set (HST_CMD_SEQ_NEXT_SEQ r) (c.hseq + 1),
        match c.refused with
        | some st => finishCmd c st 0
        | none => .seq (.upd (.inflight (s.inflight ++ [c]))) (ringStatus r)])

def execCommandAccept (r : Ring) (entry : Option (BitVec 512)) (s : State) : Host.Outcome State Fault Refusal :=
  live (commandAccept r.val (entry.map (·.toNat))) s

/-! Starting a command (R378, R383). -/

/-- Mark a command as started. -/
def markStarted (c : HostCmd) : Act := .ask fun s =>
  .upd (.inflight (s.inflight.map fun x => if x.ring = c.ring && x.hseq = c.hseq then { x with started := true } else x))

/-- A command may start: every earlier one of its ring has started, and with ORDER every earlier one has completed. -/
def State.mayStart (s : State) (c : HostCmd) : Bool :=
  let q := s.ringCmds c.ring.val
  q.find? (fun x => !x.started) = some c && (!c.order || q.head? = some c)

/-- Start the next command of ring `r` when it is of opcode `op`. -/
def startCmd (r op : Nat) (f : HostCmd → Act) : Act := .ask fun s =>
  match (s.ringCmds r).find? fun x => !x.started with
  | some c => .when (c.opcode = op && s.mayStart c) (f c)
  | none => .skip

/-- MLS_WAIT: it completes at once when the milestone is reached, and waits otherwise. -/
def mlsWait (c : HostCmd) : Act := .ask fun s =>
  let m := c.arg 16 2
  let code := s.get (MLS_STATUS_CODE m)
  if s.reached m then finishCmd c (if code = 0 then stOk else 7) (code + s.get (MLS_ENTRY_COUNT m) <<< 32) else markStarted c

/-- PLAN_LOAD: the writes of GLB_PLAN_ADDR and LOAD. -/
def planLoadCmd (c : HostCmd) : Act := .ask fun s =>
  if s.get GLB_PLAN_STATUS_LOAD_STATE = loadIdle then
    .all [.set GLB_PLAN_ADDR_ADDR (c.arg 16 8 / 64), planLoad, markStarted c]
  else .seq planLoad (finishCmd c stRejected 0)

/-- BUDGET: the write of SEL; with nothing left to change it completes at once. -/
def budgetCmd (late : Bool) (c : HostCmd) : Act := .ask fun s =>
  if s.get GLB_PLAN_STATUS_LOAD_STATE = loadActivating then finishCmd c stRejected 0
  else .all [budgetSelect (c.arg 16 1) late, markStarted c,
    .ask fun t => .when (t.get GLB_BUDGET_SET_PENDING = 0) finishBudgets]

/-- SNAPSHOT: it completes with the snapshot that it requests or joins. -/
def snapshotCmd (c : HostCmd) : Act := .seq snapRequest (markStarted c)

/-- FENCE: it completes once no earlier command of its ring is in flight. -/
def fenceCmd (c : HostCmd) : Act := .ask fun s =>
  if (s.ringCmds c.ring.val).head? = some c then finishCmd c stOk 0 else markStarted c

def execNop (r : Ring) (s : State) : Host.Outcome State Fault Refusal :=
  live (startCmd r.val opNop fun c => finishCmd c stOk 0) s
def execMlsInc (r : Ring) (s : State) : Host.Outcome State Fault Refusal :=
  live (startCmd r.val opMlsInc fun c => .seq (mlsAdd (c.arg 16 2) (c.arg 20 4) none) (finishCmd c stOk 0)) s
def execMlsWait (r : Ring) (s : State) : Host.Outcome State Fault Refusal := live (startCmd r.val opMlsWait mlsWait) s
def execPlanLoad (r : Ring) (s : State) : Host.Outcome State Fault Refusal := live (startCmd r.val opPlanLoad planLoadCmd) s
def execBudget (r : Ring) (late : Bool) (s : State) : Host.Outcome State Fault Refusal :=
  live (startCmd r.val opBudget (budgetCmd late)) s
def execSnapshot (r : Ring) (s : State) : Host.Outcome State Fault Refusal := live (startCmd r.val opSnapshot snapshotCmd) s
def execFence (r : Ring) (s : State) : Host.Outcome State Fault Refusal := live (startCmd r.val opFence fenceCmd) s

/-! Copies (R380). -/

/-- The COPY of ring `r` with sequence number `q`, when it moves: it has started or may start. -/
def State.copyCmd (s : State) (r op q : Nat) : Option HostCmd :=
  (s.ringCmds r).find? fun c => c.opcode = op && c.hseq = q && (c.started || s.mayStart c)

/-- A copy has moved `k` more bytes: it ends with its last byte, or with DMA_ERROR at a failed transfer. -/
def copyMoved (c : HostCmd) (k : Nat) (err : Bool) : Act := .ask fun s =>
  let n := c.moved + k
  if err then finishCmd c stDmaError n
  else if n = c.arg 32 4 then finishCmd c stOk n
  else .upd (.inflight (s.inflight.map fun x =>
    if x.ring = c.ring && x.hseq = c.hseq then { x with started := true, moved := n } else x))

/-- Move bytes of a COPY_H2D: as many of `data` as the copy still lacks. -/
def copyIn (c : HostCmd) (data : List Byte) : Act := hostStore (c.arg 24 8 + c.moved) (data.take (c.arg 32 4 - c.moved))

/-- Move `k` bytes of a COPY_D2H to host memory. -/
def copyOut (c : HostCmd) (k : Nat) : Act := .ask fun s =>
  let a := c.arg 24 8 + c.moved
  .when (0 < k) (.seq (hostVisit a k) (.ask fun t => .upd (.hostOut (t.hostOut ++ [(c.arg 16 8 + c.moved, s.bytesAt a k)]))))

/-- A COPY_H2D moves `data`; with `err` the next request then fails. -/
def copyH2D (r q : Nat) (data : List Byte) (err : Bool) : Act := .ask fun s =>
  match s.copyCmd r opCopyH2D q with
  | some c => .seq (copyIn c data) (copyMoved c (min data.length (c.arg 32 4 - c.moved)) err)
  | none => .skip

/-- A COPY_D2H moves `n` bytes; with `err` it then fails. -/
def copyD2H (r q n : Nat) (err : Bool) : Act := .ask fun s =>
  match s.copyCmd r opCopyD2H q with
  | some c =>
    let k := min n (c.arg 32 4 - c.moved)
    .seq (copyOut c k) (copyMoved c k err)
  | none => .skip

/-- `stalls` as for a host write (R190). -/
def execCopyH2D (r : Ring) (hseq : BitVec 32) (data : List Byte) (err : Bool) (stalls : List (Cluster × Graph)) (s : State) :
    Host.Outcome State Fault Refusal :=
  live (Act.seq (copyH2D r.val hseq.toNat data err) (drawerStalls stalls)) s
def execCopyD2H (r : Ring) (hseq : BitVec 32) (n : BitVec 32) (err : Bool) (stalls : List (Cluster × Graph)) (s : State) :
    Host.Outcome State Fault Refusal :=
  live (Act.seq (copyD2H r.val hseq.toNat n.toNat err) (drawerStalls stalls)) s

/-! Ring control (R386, R394). -/

/-- COAL_US have passed since the first completion posted after the last signal (R394). -/
def coalTimer (n : Nat) : Act := .ask fun s =>
  .when (s.get (HST_CPL_CFG_IRQ_EN n) = 1 && s.get (HST_CPL_CFG_COAL_US n) ≠ 0 && 0 < s.rd .cplSince n)
    (.seq (signal (s.get (HST_CPL_CFG_VEC n))) (.put .cplSince n 0))

/-- A write of RUN. -/
def ringRun (r v : Nat) : Act := .seq (.set (HST_CMD_CTRL_RUN r) v) (ringStatus r)

/-- A write of RESET = 1 without ABORT_WAITS. -/
def ringReset (r : Nat) : Act := .ask fun s => .when (s.get (HST_CMD_STATUS_STOPPED r) = 1) (resetRing r)

/-- A write of RESET with ABORT_WAITS. -/
def abortWaits (r : Nat) : Act := .ask fun s =>
  .all [.put .resetAsked r 1, .each ((s.ringCmds r).filter fun c => c.opcode = opMlsWait) (fun c => finishCmd c stAborted 0), ringStatus r]

/-- No command ring that names completion ring `n` is running or has a command in flight. -/
def State.cplIdle (s : State) (n : Nat) : Bool :=
  (List.range 64).all fun r => s.get (HST_CMD_CFG_CPL_RING r) ≠ n || (s.get (HST_CMD_CTRL_RUN r) = 0 && s.ringCmds r = [])

/-- A write to a completion ring's BASE, SIZE_LOG2 or SEQ_NEXT. -/
def cplConfig (n : Nat) (a : Act) : Act := .ask fun s =>
  .when (s.cplIdle n) (.all [a, .set (HST_CPL_PTR_HEAD n) 0, .set (HST_CPL_PTR_TAIL n) 0, .put .cplPhase n 0])

def cplBase (n v : Nat) : Act := cplConfig n (.set (HST_CPL_BASE_ADDR n) v)
def cplSizeWrite (n v : Nat) : Act := .when (4 ≤ v && v ≤ 16) (cplConfig n (.set (HST_CPL_CFG_SIZE_LOG2 n) v))
def cplSeqNext (n v : Nat) : Act :=
  cplConfig n (.seq (.set (HST_CPL_SEQ_NEXT_SEQ n) v) (.set (HST_CPL_SEQ_POSTED_SEQ n) (v + 2 ^ 32 - 1)))

/-- The act of a written value, nothing where it is not written. -/
def optWrite (v : Option Nat) (f : Nat → Act) : Act :=
  match v with
  | some x => f x
  | none => .skip

def execCoalTimerExpiry (n : Ring) (s : State) : Host.Outcome State Fault Refusal := live (coalTimer n.val) s
def execCmdRingRun (r : Ring) (run : Bool) (s : State) : Host.Outcome State Fault Refusal := live (ringRun r.val (b2n run)) s
def execCmdRingReset (r : Ring) (s : State) : Host.Outcome State Fault Refusal := live (ringReset r.val) s
def execAbortWaits (r : Ring) (s : State) : Host.Outcome State Fault Refusal := live (abortWaits r.val) s
def execCplRingConfigWrite (n : Ring) (base : Option (BitVec 58)) (size : Option (BitVec 5)) (seq : Option (BitVec 32)) (s : State) :
    Host.Outcome State Fault Refusal :=
  live (Act.all [optWrite (base.map (·.toNat)) (cplBase n.val), optWrite (size.map (·.toNat)) (cplSizeWrite n.val),
    optWrite (seq.map (·.toNat)) (cplSeqNext n.val)]) s

/-! Tile queues (R387–R392). -/

/-- The HOST operation word (R387). -/
def hwKind (w : Nat) : Nat := bits w 0 4
def hwQueue (w : Nat) : Nat := bits w 4 6

/-- Slots of a queue. -/
def State.tqSize (s : State) (q : Nat) : Nat := 2 ^ s.get (HST_TQ_CFG_SLOTS_LOG2 q)

/-- Bytes of a slot. -/
def State.tqSlot (s : State) (q : Nat) : Nat := 64 * s.get (HST_TQ_SLOT_SLOT_UNITS q)

/-- The indices of a queue, taken modulo its size (R389). -/
def State.tqDev (s : State) (q : Nat) : Nat := s.get (HST_TQ_PTR_DEV_IDX q) % s.tqSize q
def State.tqHost (s : State) (q : Nat) : Nat := s.get (HST_TQ_PTR_HOST_IDX q) % s.tqSize q

/-- Host address of the slot at DEV_IDX. -/
def State.tqAddr (s : State) (q : Nat) : Nat := 64 * s.get (HST_TQ_BASE_ADDR q) + s.tqDev q * s.tqSlot q

/-- Readiness of a HOST alternative (R37, R389, R390). -/
def State.hostReady (s : State) (a : Alt) : Bool :=
  let q := hwQueue a.op
  s.altReady a && s.get (HST_TQ_CFG_SLOTS_LOG2 q) ≠ 0 &&
  (if hwKind a.op = 1 then s.get (HST_TQ_CFG_DIR q) = 0 && (s.tqDev q + 1) % s.tqSize q ≠ s.tqHost q && s.altFunded .hostOut 0x170 0 a
   else s.get (HST_TQ_CFG_DIR q) = 1 && s.get (HST_TQ_STATUS_FAULT q) = 0 && s.tqDev q ≠ s.tqHost q && s.altFunded .hostIn 0x170 1 a)

/-- The queue's interrupt (R393). -/
def tqSignal (q : Nat) : Act := .ask fun s => .when (s.get (HST_TQ_CFG_IRQ_EN q) = 1) (signal (s.get (HST_TQ_CFG_VEC q)))

/-- Write bytes to host memory. -/
def hostPost (a : Nat) (bs : List Byte) : Act := .ask fun s => .upd (.hostOut (s.hostOut ++ [(a, bs)]))

/-- DEV_IDX advances: the shadow is written and the interrupt raised (R389, R390). -/
def tqAdvance (q : Nat) : Act := .ask fun s =>
  let d := (s.get (HST_TQ_PTR_DEV_IDX q) + 1) % s.tqSize q
  .all [.set (HST_TQ_PTR_DEV_IDX q) d,
    .when (s.get (HST_TQ_SHADOW_ADDR q) ≠ 0) (hostPost (4 * s.get (HST_TQ_SHADOW_ADDR q)) (leBytes 4 d)), tqSignal q]

/-- A PUT firing (R388, R389, R391). -/
def putFire (a : Alt) : Act := .ask fun s =>
  match a.inputs with
  | [i] =>
    let q := hwQueue a.op
    let t := s.inputD i
    let n := t.recordLen
    let chk := if s.get (HST_TQ_CFG_CHK_EN q) = 1 then s.frameCheck (s.get (HST_TQ_CFG_CHK q)) t.record else 0
    if !headerValid t.head || s.tqSlot q < 16 + n then badHeader i
    else .all [
      hostPost (s.tqAddr q + 16) t.record,
      hostPost (s.tqAddr q) (leBytes 4 (s.get (HST_TQ_ALIVE_ALIVE q)) ++ leBytes 4 n ++ leBytes 8 chk),
      tqAdvance q, .set (HST_TQ_ALIVE_ALIVE q) (s.get (HST_TQ_ALIVE_ALIVE q) + 1),
      charge (allowKey 0x170 0 (s.altGraph a)) (tileUnits t), finishFiring 0x170 0 a []]
  | _ => .skip

/-- FAULT of a queue with its cause: 1 frame, 2 check value, 3 PCIe (R390). -/
def tqFault (q cause : Nat) : Act := .all [.set (HST_TQ_STATUS_FAULT q) 1, .set (HST_TQ_STATUS_CAUSE q) cause, tqSignal q]

/-- A GET firing: the frame at DEV_IDX and whether its record came in a poisoned TLP; no frame where the PCIe completion was
unsuccessful (R390). -/
def getFire (frame : Option (List Byte × Bool)) (a : Alt) : Act := .ask fun s =>
  let q := hwQueue a.op
  match a.outputs, frame with
  | [_], none => tqFault q 3
  | [o], some f =>
    let w := leNat (f.1.take 16)
    let alive := bits w 0 32
    let len := bits w 32 32
    let record := (f.1.drop 16).take len
    let t := Tile.ofBytes record
    let judged := s.get (HST_TQ_CFG_CHK_EN q) = 1
    let j := if judged then judgeAlive (s.get (HST_TQ_ALIVE_ALIVE q)) alive else .inOrder
    let pay := charge (allowKey 0x170 1 (s.altGraph a)) (tileUnits t)
    if s.tqSlot q < 16 + len || len ≠ t.recordLen || !headerValid t.head then tqFault q 1
    else if judged && !f.2 && bits w 64 64 ≠ s.frameCheck (s.get (HST_TQ_CFG_CHK q)) record then tqFault q 2
    else if j = .repeated then
      .all [count (HST_TQ_REPEATS_COUNT q) (HST_TQ_REPEATS_OVF q), pay, tqAdvance q, advance 0x170 0]
    else .all [
      .when (j = .skipped) (.set (HST_TQ_STATUS_SKIP q) 1), .set (HST_TQ_ALIVE_ALIVE q) alive, pay,
      .when (f.2 || hPoison t.head) (raisePoisoned o), finishFiring 0x170 0 a [(o, t.withPoison f.2)], tqAdvance q]
  | _, _ => .skip

/-- The unit of the frame that is being checked, if any, has done with it. -/
def checksEnd : Act := .ask fun s =>
  .each ((List.range 16).filter fun n => s.get (CHK_STATUS_QBUSY n) = 1) fun n => .set (CHK_STATUS_QBUSY n) 0

/-- A HOST firing of a kind, or, with `begins`, only the beginning of the check of its frame: the unit that the queue names is busy with
it until the firing (R449, R451; log entry 138). -/
def hostFire (kind : Nat) (begins : Bool) (f : Alt → Act) : Act := .ask fun s =>
  if begins then
    fireOn 0x170 0 s.hostReady (fun a => hwKind a.op = kind) fun a =>
      .when (s.get (HST_TQ_CFG_CHK_EN (hwQueue a.op)) = 1) (.set (CHK_STATUS_QBUSY (s.get (HST_TQ_CFG_CHK (hwQueue a.op)))) 1)
  else .seq (fireOn 0x170 0 s.hostReady (fun a => hwKind a.op = kind) f) checksEnd

def execPut (begins : Bool) (s : State) : Host.Outcome State Fault Refusal := live (hostFire 1 begins putFire) s
def execGet (frame : Option (List Byte × Bool)) (begins : Bool) (s : State) : Host.Outcome State Fault Refusal :=
  live (hostFire 2 begins (getFire frame)) s

/-! Reset of the HST block (R377). -/

/-- The bytes that a copy still moves to reach the next 4 KiB boundary of host memory. -/
def HostCmd.toBoundary (c : HostCmd) : Nat :=
  min (c.arg 32 4 - c.moved) ((4096 - (c.arg 16 8 + c.moved) % 4096) % 4096)

/-- The copies that are moving stop at the next 4 KiB boundary; `data` gives what a COPY_H2D still reads. -/
def stopCopies (data : List (Nat × Nat × List Byte)) : Act := .ask fun s =>
  .each (s.inflight.filter fun c => c.started) fun c =>
    if c.opcode = opCopyH2D then
      let d := ((data.find? fun x => x.1 = c.ring.val && x.2.1 = c.hseq).map fun x => x.2.2).getD []
      copyIn c (d.take c.toBoundary)
    else .when (c.opcode = opCopyD2H) (copyOut c c.toBoundary)

/-- Configuration space after a reset of the function. -/
def pcieReset : PcieCfg := State.reset.pcie

/-- Reset the HST block: its registers, configuration space, MSI-X, and the rings and queues; PRESERVE is kept, and HST_LINK with the trained link. -/
def resetHst (keepLink : Bool) (data : List (Nat × Nat × List Byte)) : Act :=
  .all [
    stopCopies data, .upd (.inflight []), .upd (.clear .cplPhase), .upd (.clear .cplSince), .upd (.clear .resetAsked),
    .upd (.bar4Log 30), .upd (.pcie pcieReset),
    .upd (.resetRegs [(0, 8 * 0x00100000), if keepLink then (8 * 0x00103004, 8 * 0x00E00000) else (8 * 0x00103008, 8 * 0x00E00000),
      (8 * 0x00E01020, 2 ^ 40)])]

/-- The data operand of a reset. -/
abbrev CopyData := List (Ring × BitVec 32 × List Byte)

def CopyData.nats (d : CopyData) : List (Nat × Nat × List Byte) := d.map fun x => (x.1.val, x.2.1.toNat, x.2.2)

def execFunctionLevelReset (data : CopyData) (s : State) : Host.Outcome State Fault Refusal := live (resetHst true data.nats) s

/-! The function (R374). -/

/-- Device ID, Revision ID and class code. -/
def pcieDeviceId : Nat := 0xC400
def pcieRevisionId : Nat := 0x01
def pcieClassCode : Nat := 0x120000

/-- What the capabilities offer: MSI-X vectors, table and pending array in BAR0, tag bits, non-posted requests outstanding, and the
sizes of BAR4 as powers of two. -/
def pcieVectors : Nat := 256
def pcieMsixTable : Nat := 0x00E00000
def pcieMsixPba : Nat := 0x00E01000
def pcieTagBits : Nat := 14
def pcieNonPosted : Nat := 768
def bar4Min : Nat := 30
def bar4Max : Nat := 42

/-- The port trains: from the end of start-up stage 3 on, and in ROM recovery (R405, R415). -/
def State.portTrains (s : State) : Bool := s.enumerated && (4 ≤ s.get GLB_BOOT_STATUS_STAGE || s.get GLB_BOOT_STATUS_RECOVERY = 1)

/-- Configuration requests are answered normally: from stage 6 on and in ROM recovery; before that every one of them is answered with
Request Retry Status (R405, R414, R415). -/
def State.configReady (s : State) : Bool := s.enumerated && (6 ≤ s.get GLB_BOOT_STATUS_STAGE || s.get GLB_BOOT_STATUS_RECOVERY = 1)

/-- Host software writes configuration space: BAR4 takes a size of its capability, and unmasked vectors signal what is pending
(R374, R393). Writes have no row of their own in the command table: they come with the training of the link (log entry 137). -/
def configWrite (c : PcieCfg) (bar4 : Nat) : Act := .ask fun s =>
  .when s.configReady (.all [.upd (.pcie c), .upd (.bar4Log (bar4Min + bar4)), .each (List.range pcieVectors) signalPending])

/-- Training of the PCIe port (R373): a rate code 1–6 and a width, or the loss of the link; HST_LINK then reports 0. -/
def pcieTrain (rate width : Nat) (flit : Bool) : Act :=
  .when (rate ≤ 6 && (width ∈ [1, 2, 4, 8, 16]) && 1 ≤ rate || (rate = 0 && width = 0))
    (.all [.set HST_LINK_RATE rate, .set HST_LINK_WIDTH width, .set HST_LINK_FLIT (b2n flit)])

/-- PCIE_LINK_TRAINING, with what host software then writes to configuration space. -/
def linkTraining (rate width : Nat) (flit : Bool) (cfg : Option (PcieCfg × Fin 13)) : Act := .ask fun s =>
  .seq (.when s.portTrains (pcieTrain rate width flit))
    (match cfg with
    | some c => configWrite c.1 c.2.val
    | none => .skip)

def execPcieLinkTraining (rate : Fin 7) (width : BitVec 5) (flit : Bool) (cfg : Option (PcieCfg × Fin 13)) (s : State) :
    Host.Outcome State Fault Refusal :=
  .next ((linkTraining rate.val width.toNat flit cfg).run s)

end Sys2Proof.Machine
end

