-- ==== Sys2Proof/Machine/Nand.lean ====
section
/-!
DEFINITION. The NAND medium of the chest and the part of its controller that serves it (R453, R455–R457, R463–R466): geometry, the
BCH code, page headers, page reads, blocks with their erase counts, and where pages stand. Which codewords read with errors and which
blocks report a failed erase or program is what the medium does, and comes with the command.
-/

namespace Sys2Proof.Machine

open Reg

/-! Geometry (R453). -/

/-- Bytes of a page's data area and of its spare area, pages of a block, planes of a die. -/
def pageBytes : Nat := 16384
def spareBytes : Nat := 2048
def blockPages : Nat := 2304
def diePlanes : Nat := 4

/-- Blocks of a plane and of a die, dies of a channel and of the chest. -/
def planeBlocks : Nat := 828
def dieBlocks : Nat := 3312
def channelDies : Nat := 8
def chestDies : Nat := 64

/-- Blocks of a channel. -/
def channelBlocks : Nat := 26496

/-- Block `i` of a plane of a die, by the model's own numbering: die by die, the planes taking turns. -/
def blockAt (die plane i : Nat) : Nat := dieBlocks * die + diePlanes * i + plane

def blockDie (b : Nat) : Nat := b / dieBlocks
def blockPlane (b : Nat) : Nat := b % diePlanes
def blockChannel (b : Nat) : Nat := blockDie b / channelDies

/-! The BCH code (R455). -/

/-- The product of two elements of GF(2^15), whose primitive polynomial is x^15 + x + 1. -/
def bchMul (a b : Nat) : Nat :=
  (List.range 15).foldl (fun r i =>
    let d := r <<< 1
    let d := if bitAt d 15 then d ^^^ 0x8003 else d
    if bitAt b (14 - i) then d ^^^ a else d) 0

/-- α^(2^j) for `j` from 0 to 14: α is the element x. -/
def gfSquares (a : Nat) : List Nat := (List.range 14).foldl (fun l _ => l ++ [bchMul (l.getLastD 0) (l.getLastD 0)]) [a]

/-- α^i. -/
def bchPow (i : Nat) : Nat := ((gfSquares 2).zipIdx.filter fun x => bitAt i x.2).foldl (fun r x => bchMul r x.1) 1

/-- A polynomial over GF(2^15), lowest coefficient first, times x + a. -/
def timesRoot (p : List Nat) (a : Nat) : List Nat :=
  ((0 :: p).zip (p.map (bchMul a) ++ [0])).map fun x => x.1 ^^^ x.2

/-- The minimal polynomial of α^i: its roots are α^i and the 14 squares that follow. Its coefficients are 0 and 1. -/
def minimalPoly (i : Nat) : Nat := pack 1 ((gfSquares (bchPow i)).foldl timesRoot [1])

/-- The product of two binary polynomials. -/
def clMul (a b n : Nat) : Nat := (List.range n).foldl (fun r i => if bitAt b i then r ^^^ (a <<< i) else r) 0

/-- g(x): the minimal polynomials of α^i for odd i from 1 to 143 are distinct, so that their least common multiple is their product, of
degree 1,080. -/
def bchGenerator : Nat := (List.range 72).foldl (fun g j => clMul g (minimalPoly (2 * j + 1)) 16) 1

/-- Parity bits of a codeword, and bit errors that it corrects. -/
def bchParityBits : Nat := 1080
def bchCorrects : Nat := 72

/-- The bits of bytes in order, each byte's most significant bit first. -/
def bchMessage (bs : List Byte) : List Bool := bs.flatMap fun b => [7, 6, 5, 4, 3, 2, 1, 0].map fun i => bitAt b.toNat i

/-- The remainder of the message × x^1080 divided by `g`. -/
def bchRemainder (g : Nat) (bs : List Byte) : Nat :=
  (bchMessage bs).foldl (fun r b =>
    let top := bitAt r (bchParityBits - 1) != b
    let d := (r <<< 1) % 2 ^ bchParityBits
    if top then d ^^^ (g % 2 ^ bchParityBits) else d) 0

/-- The 135 parity bytes of a codeword, most significant bit first. -/
def bchParity (g : Nat) (bs : List Byte) : List Byte := (leBytes 135 (bchRemainder g bs)).reverse

/-- Bytes 16,448 to 18,431 of a page: the parities of codewords 0–7 of data and of codeword 8, the header; then 0xFF. -/
def pageTail (data head : Nat) : List Byte :=
  let g := bchGenerator
  (List.range 8).flatMap (fun k => bchParity g (leBytes 2048 (data >>> (8 * 2048 * k)))) ++ bchParity g (leBytes 64 head) ++
  List.replicate 769 0xFF#8

/-! Page headers (R456). -/

/-- Files of the chest: the slots, the block table, and the two directory copies. -/
def fileTable : Nat := 80
def fileDir (c : Nat) : Nat := 81 + c

/-- ROLE of a file's pages. -/
def fileRole (f : Nat) : Nat := if f < 64 then 1 else if f < 80 then 2 else if f = fileTable then 4 else 3

/-- The page of a file with its header: STEP is kept for checkpoint data alone, and SLOT is 0 for the controller's own files. -/
def makePage (f i alive gen step fill data : Nat) : ChestPage :=
  let h := alive % 2 ^ 32 + fileRole f <<< 32 + (if f < 80 then f else 0) <<< 40 + (if f < 64 then step % 2 ^ 32 else 0) <<< 64 +
    (i % 2 ^ 32) <<< 96 + fill <<< 128 + (gen % 2 ^ 32) <<< 160
  let h' := h + crc64 (leBytes pageBytes data ++ leBytes 56 h) <<< 448
  ⟨f, i, data, h', leNat (pageTail data h')⟩

def pgAlive (h : Nat) : Nat := bits h 0 32
def pgRole (h : Nat) : Nat := bits h 32 8
def pgSlot (h : Nat) : Nat := bits h 40 8
def pgFill (h : Nat) : Nat := bits h 128 32
def pgGen (h : Nat) : Nat := bits h 160 32
def pgCrc (h : Nat) : Nat := bits h 448 64

/-! The controller's own record (R458, R464). -/

/-- Word `j` of a slot's record: 0 ALIVE0, 1 pages reserved, 2 the CRC-64 register of its data, 3 pages written. -/
def cdWord (slot j : Nat) : Nat := 16 * slot + j

/-- CHS_PAGE_SEQ, retired blocks, and blocks with a factory mark. -/
def cdPageSeq : Nat := 1280
def cdGrownBad : Nat := 1281
def cdFactoryBad : Nat := 1282

/-- Erases of every good block by FORMAT, the number of directory writes, the AO cycle in which the latest scrub pass began with the
SCRUB_DAYS that it took, and whether power has been off since. -/
def cdErases : Nat := 1283
def cdDirSeq : Nat := 1284
def cdScrubStart : Nat := 1285
def cdScrubDays : Nat := 1286
def cdPowered : Nat := 1287

/-! Counters (R457, R463, R466, R469): 0 corrected bits, 1 uncorrectable, 2 CRC, 3 alive, 4 grown bad, 5 relocations. -/

def countChest (i n : Nat) : Act := countBy (CHS_COUNTER_COUNT i) (CHS_COUNTER_OVF i) n

/-- An event of class CHEST: 1 LOW_SPARE, 2 a block is retired, 3 a slot is found TORN at mount, 4 mount fails (R477). -/
def noteChest (what slot : Nat) : Act := noteHere 14 0x178 0 (what + slot <<< 8)

/-! Blocks (R463, R465). In `blkState` bit 0 says that a block has been programmed since it was erased last, bit 1 that it is retired, bit
2 that it carries a factory mark. -/

def State.blockDirty (s : State) (b : Nat) : Bool := bitAt (s.rd .blkState b) 0
def State.blockGood (s : State) (b : Nat) : Bool := !bitAt (s.rd .blkState b) 1 && !bitAt (s.rd .blkState b) 2
def State.blockTrained (s : State) (b : Nat) : Bool := bitAt (s.get CHS_STATUS_CH_OK) (blockChannel b)

/-- A page stands in the block, or a file writes into it. -/
def State.blockHeld (s : State) (b : Nat) : Bool := (s.places.any fun p => p.block = b) || s.stripes.any fun x => x.blocks.contains b

/-- The block is in the pool. -/
def State.blockFree (s : State) (b : Nat) : Bool := s.blockTrained b && s.blockGood b && !s.blockHeld b

/-- Times a block has been erased. -/
def State.eraseCount (s : State) (b : Nat) : Nat := s.rd .chestDir cdErases + s.rd .blkErase b

/-- The entry of the least count, the first of several. -/
def leastOf : List (Nat × Nat) → Option (Nat × Nat)
  | [] => none
  | x :: t =>
    match leastOf t with
    | some y => if y.2 < x.2 then some y else some x
    | none => some x

/-- The next block to take from the pool on some dies and planes: that of the least erase count (R465). Of several the first by die, plane
and place (DESIGN CHOICE, log entry 116). -/
def State.freeBlock (s : State) (dies planes : List Nat) : Option Nat :=
  (dies.findSome? fun d => planes.findSome? fun p =>
    ((List.range planeBlocks).map (blockAt d p)).find? fun b => s.rd .blkErase b = 0 && s.blockFree b) <|>
  (leastOf (s.blkErase.filter fun x =>
    dies.contains (blockDie x.1) && planes.contains (blockPlane x.1) && s.blockFree x.1)).map (·.1)

/-- Mark a block as programmed. -/
def soil (b : Nat) : Act := .ask fun s => .put .blkState b (setBits (s.rd .blkState b) 0 1 1)

/-- Erase a block. -/
def eraseBlock (b : Nat) : Act := .ask fun s =>
  .seq (.put .blkErase b (s.rd .blkErase b + 1)) (.put .blkState b (setBits (s.rd .blkState b) 0 1 0))

/-- A block that reports a failed program or erase retires (R463). -/
def retireBlock (b : Nat) : Act := .ask fun s =>
  .all [.put .blkState b (setBits (s.rd .blkState b) 1 1 1), .put .chestDir cdGrownBad (s.rd .chestDir cdGrownBad + 1), countChest 4 1,
    noteChest 2 0]

/-- Take a block from the pool: it is erased before reuse (R459), and one of `bad`, whose erase fails, retires instead. -/
def claimBlock (dies planes bad : List Nat) (use : Nat → Act) : Nat → Act
  | 0 => .skip
  | fuel + 1 => .ask fun s =>
    match s.freeBlock dies planes with
    | none => .skip
    | some b =>
      if s.blockDirty b && bad.contains b then .seq (retireBlock b) (claimBlock dies planes bad use fuel)
      else .seq (.when (s.blockDirty b) (eraseBlock b)) (use b)

/-- Move what stands in block `b`, and the writing of a file into it, to block `d`. -/
def moveBlock (b d : Nat) : Act := .ask fun s =>
  .all [
    .upd (.places (s.places.map fun p => if p.block = b then { p with block := d } else p)),
    .upd (.stripes (s.stripes.map fun x => { x with blocks := x.blocks.map fun y => if y = b then d else y })),
    soil d]

/-- The planes of a die. -/
def allPlanes : List Nat := List.range diePlanes

/-- A page of block `b` fails to program: the block retires and its earlier pages move to a fresh one (R463). -/
def failBlock (b : Nat) (bad : List Nat) : Act :=
  .seq (retireBlock b) (claimBlock [blockDie b] [blockPlane b] bad (moveBlock b) (bad.length + 1))

/-! Where pages go. A file writes into a stripe: a block on each plane of one die, which are programmed together (R453). -/

def State.stripe (s : State) (f : Nat) : Option Stripe := s.stripes.find? fun x => x.file = f

/-- The dies on which a file is written: a directory copy keeps to a channel of its own (R458). -/
def State.homeDies (s : State) (f : Nat) : List Nat :=
  let ok := (List.range 8).filter fun c => bitAt (s.get CHS_STATUS_CH_OK) c
  if f < fileDir 0 then List.range chestDies
  else ((ok.drop (f - fileDir 0)).take 1).flatMap fun c => (List.range channelDies).map (channelDies * c + ·)

/-- A stripe takes another page. -/
def State.stripeOpen (s : State) (x : Stripe) : Bool :=
  x.next < x.blocks.length * blockPages && x.blocks.all fun b => s.blockTrained b && (s.homeDies x.file).contains (blockDie b)

/-- A stripe's block for its next page. -/
def Stripe.block (x : Stripe) : Nat := (x.blocks[x.next % x.blocks.length]?).getD 0

/-- Begin a stripe for a file on the die of the next block of the pool. -/
def newStripe (f : Nat) (bad : List Nat) : Act := .ask fun s =>
  let rest := s.stripes.filter fun x => x.file ≠ f
  match s.freeBlock (s.homeDies f) allPlanes with
  | none => .upd (.stripes rest)
  | some b => .seq (.upd (.stripes (rest ++ [⟨f, [], 0⟩])))
      (.each allPlanes fun p => claimBlock [blockDie b] [p] bad (fun d => .ask fun t =>
        .upd (.stripes (t.stripes.map fun x => if x.file = f then { x with blocks := x.blocks ++ [d] } else x))) (bad.length + 1))

/-- Program the next page of a stripe, again in a fresh block as long as its block is one of `bad` (R463). -/
def programAt (f i : Nat) (bad : List Nat) : Nat → Act
  | 0 => .skip
  | fuel + 1 => .ask fun s =>
    match s.stripe f with
    | none => .skip
    | some x =>
      let b := x.block
      if bad.contains b && s.blockGood b && x.blocks ≠ [] then .seq (failBlock b bad) (programAt f i bad fuel)
      else .all [
        .upd (.places (s.places ++ [⟨f, i, b, x.next / x.blocks.length⟩])), soil b,
        .upd (.stripes (s.stripes.map fun y => if y.file = f then { y with next := y.next + 1 } else y))]

/-- Program page `i` of a file. -/
def placePage (bad : List Nat) (f i : Nat) : Act := .ask fun s =>
  .seq (.when (!(s.stripe f).any s.stripeOpen) (newStripe f bad)) (programAt f i bad (bad.length + 1))

/-- The pages of a file leave their blocks, and it writes into none. -/
def dropPlaces (f : Nat) : Act := .ask fun s =>
  .seq (.upd (.places (s.places.filter fun p => p.file ≠ f))) (.upd (.stripes (s.stripes.filter fun x => x.file ≠ f)))

/-- Rewrite a file of the controller whole. -/
def writeFile (bad : List Nat) (f gen : Nat) (datas : List Nat) : Act := .ask fun s =>
  .all [
    .upd (.chestSys ((s.chestSys.filter fun p => p.slot ≠ f) ++ datas.zipIdx.map fun x => makePage f x.2 x.2 gen 0 pageBytes x.1)),
    .upd (.places (s.places.filter fun p => p.file ≠ f)), .each (List.range datas.length) (placePage bad f)]

/-- Pages of the block table: four bytes for each block (DESIGN CHOICE, log entry 116). -/
def tablePages : Nat := 52

/-- Write the block table: the spec gives it no layout. -/
def tableWrite (bad : List Nat) : Act := .ask fun s =>
  let content := s.rd .chestDir cdErases :: (s.blkErase ++ s.blkState).flatMap fun x => [x.1, x.2]
  writeFile bad fileTable 0 ((List.range tablePages).map fun j => (Config.chestTable 4 j content).toNat)

/-! Page reads (R457). -/

/-- What a codeword decodes to, from the wrong bits of its first read and of up to seven re-reads: the bits corrected and whether it took
a re-read; none where every read has more than 72. -/
def decodeWord (errs : List Nat) : Option (Nat × Bool) :=
  match errs.take 8 with
  | [] => some (0, false)
  | l => (l.zipIdx.find? fun x => x.1 ≤ bchCorrects).map fun x => (x.1, x.2 ≠ 0)

/-- What a page read gives: data and header, the first test failed (0 decoding, 1 CRC, ROLE, SLOT or GEN, 2 ALIVE), the bits corrected, and
whether a codeword needed more than 40 corrections or a re-read. -/
structure PageSeen where
  data : Nat
  head : Nat
  failed : Option Nat
  corr : Nat
  weak : Bool
  deriving DecidableEq, Repr

def State.page (s : State) (k i : Nat) : Option ChestPage := s.chest.find? fun p => p.slot = k && p.page = i

/-- ALIVE of the page before page `i`, or ALIVE0 − 1. -/
def State.aliveBefore (s : State) (k i : Nat) : Nat :=
  match i with
  | 0 => s.rd .chestDir (cdWord k 0) + 2 ^ 32 - 1
  | j + 1 => ((s.page k j).map fun p => pgAlive p.head).getD (s.rd .chestDir (cdWord k 0) + j)

/-- Page `i` of a slot as it is read: an erased page, all 0xFF, is not a failed one. A page that decodes to what was programmed has its
CRC; where it does not, the CRC is computed. -/
def State.readPage (s : State) (r : List PageRead) (k i : Nat) : PageSeen :=
  match s.page k i with
  | none => ⟨2 ^ (8 * pageBytes) - 1, 2 ^ 512 - 1, none, 0, false⟩
  | some p =>
    let x : PageRead := (r.find? fun y => y.slot.toNat = k && y.page = i).getD ⟨0, 0, [], 0⟩
    let words := (List.range 9).map fun w => decodeWord (((x.errs.find? fun e => e.1.val = w).map (·.2)).getD [])
    let data := (p.data ^^^ x.flip) % 2 ^ (8 * pageBytes)
    let head := (p.head ^^^ (x.flip >>> (8 * pageBytes))) % 2 ^ 512
    let crcGood := x.flip = 0 || pgCrc head = crc64 (leBytes pageBytes data ++ leBytes 56 head)
    { data := data, head := head,
      failed :=
        if words.any (·.isNone) then some 0
        else if !(crcGood && pgRole head = fileRole k && pgSlot head = k && pgGen head = s.get (CHS_SLOT_INFO_GEN k)) then some 1
        else if judgeAlive (s.aliveBefore k i) (pgAlive head) ≠ .inOrder then some 2
        else none,
      corr := (words.map fun w => (w.map (·.1)).getD 0).sum,
      weak := words.any fun w => w.isNone || w.any fun v => 40 < v.1 || v.2 }

/-- Count what page reads corrected, and the first failed test of each. -/
def countReads (l : List PageSeen) : Act :=
  .seq (countChest 0 (l.map (·.corr)).sum) (.each (l.filterMap (·.failed)) fun t => countChest (1 + t) 1)

end Sys2Proof.Machine
end

