-- ==== Sys2Proof/Machine/Chest.lean ====
section
/-!
DEFINITION. The chest (R453–R470): slots, directory and mount, the CHEST station's firings, the host's chest commands, scrub passes
and counters. What the NAND medium does comes with a command: `reads` says how pages read, `bad` which blocks report a failed erase or
program.
-/

namespace Sys2Proof.Machine

open Reg

/-! Slots and the pool (R458, R464). -/

/-- Slot states (R458). -/
def slotEmpty : Nat := 0
def slotOpen : Nat := 1
def slotSealed : Nat := 2
def slotTorn : Nat := 3

/-- Blocks held back from reservation (R464). -/
def heldBlocks : Nat := 8479

/-- Pages that slots may hold: the blocks of the trained channels, less those held back and those out of use (R464). -/
def State.chestPool (s : State) : Nat :=
  let ok := ((List.range 8).filter fun c => bitAt (s.get CHS_STATUS_CH_OK) c).length
  (channelBlocks * ok - heldBlocks - s.rd .chestDir cdGrownBad - s.rd .chestDir cdFactoryBad) * blockPages

/-- Pages that slots hold or have reserved. -/
def State.chestUsed (s : State) : Nat :=
  (List.range 80).foldl (fun n k => n + if s.get (CHS_SLOT_INFO_STATE k) = slotEmpty then 0 else s.get (CHS_SLOT_INFO_PAGES k)) 0

/-- Bring CHS_SPACE and LOW_SPARE up to date (R464); a rise of LOW_SPARE is an event (R477). -/
def chestRefresh : Act := .ask fun s =>
  .when (s.get CHS_STATUS_MOUNTED = 1) (.all [
    .set CHS_SPACE_FREE_PAGES (s.chestPool - s.chestUsed), .set CHS_STATUS_LOW_SPARE (b2n (s.chestPool < s.chestUsed)),
    .set CHS_SPACE_PAGE_SEQ (s.rd .chestDir cdPageSeq),
    .when (s.chestPool < s.chestUsed && s.get CHS_STATUS_LOW_SPARE = 0) (noteChest 1 0)])

/-- After a command that may have retired blocks: with more retired than before the block table is written, and the space follows. -/
def chestSettle (before : Nat) (bad : List Nat) : Act := .ask fun s =>
  .seq (.when (s.rd .chestDir cdGrownBad ≠ before) (tableWrite bad)) chestRefresh

/-! The directory (R458). -/

/-- Word `j` of a slot in directory copy `c`, and the number of the write that made the copy. -/
def dcWord (c k j : Nat) : Nat := 4096 * (c + 1) + 16 * k + j
def dcSeq (c : Nat) : Nat := 4096 * (c + 1) + 1280

/-- The fields of CHS_SLOT_INFO that the directory records, from STATE on. -/
def slotFields (k : Nat) : List Field :=
  [CHS_SLOT_INFO_STATE k, CHS_SLOT_INFO_ROLE k, CHS_SLOT_INFO_GEN k, CHS_SLOT_INFO_PAGES k, CHS_SLOT_INFO_BYTES k,
   CHS_SLOT_INFO_RECORDS k, CHS_SLOT_INFO_STEP k]

/-- What the directory records of a slot: those fields, the CRC-64 of its data bytes, and ALIVE0. -/
def State.slotRecord (s : State) (k : Nat) : List Nat :=
  (slotFields k).map s.get ++
  [if s.get (CHS_SLOT_INFO_STATE k) = slotEmpty then 0 else crc64Cfg.check (s.rd .chestDir (cdWord k 2)), s.rd .chestDir (cdWord k 0)]

/-- Rewrite one copy whole, with the CRC of its page, on a channel of its own. -/
def dirCopy (bad : List Nat) (seq c : Nat) : Act := .ask fun s =>
  let rec' := (List.range 80).map s.slotRecord
  .all [
    writeFile bad (fileDir c) seq [(Config.chestTable 3 c rec'.flatten).toNat],
    .each rec'.zipIdx (fun x => .each x.1.zipIdx fun y => .put .chestDir (dcWord c x.2 y.2) y.1),
    .put .chestDir (dcSeq c) seq]

/-- Write the directory, one copy after the other: every slot as it is now. -/
def dirWrite (bad : List Nat) : Act := .ask fun s =>
  let seq := s.rd .chestDir cdDirSeq + 1
  .all [.put .chestDir cdDirSeq seq, dirCopy bad seq 0, dirCopy bad seq 1]

/-- Power fails while copy `c` is being rewritten: it is no valid copy any more (R458). -/
def dirCut (c : Option (Fin 2)) : Act :=
  match c with
  | some c => .put .chestDir (dcSeq c.val) 0
  | none => .skip

/-- The channel on which a directory copy stands. -/
def State.dirChannel (s : State) (c : Nat) : Nat :=
  ((s.places.find? fun p => p.file = fileDir c).map fun p => blockChannel p.block).getD c

/-- The valid copy that was written last, of those that can be read (R467). -/
def State.dirInForce (s : State) (ok : Bool × Bool) : Option Nat :=
  let valid (c : Nat) : Bool :=
    (if c = 0 then ok.1 else ok.2) && s.rd .chestDir (dcSeq c) ≠ 0 && bitAt (s.get CHS_STATUS_CH_OK) (s.dirChannel c)
  if valid 0 && valid 1 then some (if s.rd .chestDir (dcSeq 0) < s.rd .chestDir (dcSeq 1) then 1 else 0)
  else if valid 0 then some 0 else if valid 1 then some 1 else none

/-- Set a slot to a state with nothing in it. -/
def slotReset (k st : Nat) : Act :=
  .all [.set (CHS_SLOT_INFO_STATE k) st, .set (CHS_SLOT_INFO_ROLE k) (if st = slotEmpty then 0 else fileRole k),
    .set (CHS_SLOT_INFO_PAGES k) 0, .set (CHS_SLOT_INFO_BYTES k) 0, .set (CHS_SLOT_INFO_RECORDS k) 0, .set (CHS_SLOT_INFO_STEP k) 0,
    .set (CHS_SLOT_INFO_CURSOR k) 0, .put .chestDir (cdWord k 1) 0, .put .chestDir (cdWord k 3) 0]

/-- The blocks of a slot return to the pool. -/
def slotDrop (k : Nat) : Act := .ask fun s => .seq (.upd (.chest (s.chest.filter fun p => p.slot ≠ k))) (dropPlaces k)

/-- Every OPEN slot becomes TORN (R467, R468). -/
def tearSlots : Act := .ask fun s =>
  .each ((List.range 80).filter fun k => s.get (CHS_SLOT_INFO_STATE k) = slotOpen) fun k => .set (CHS_SLOT_INFO_STATE k) slotTorn

/-- A scrub pass starts: it takes the SCRUB_DAYS in force (R466, R469). -/
def scrubStart : Act := .ask fun s =>
  .all [.set CHS_STATUS_SCRUBBING 1, .put .chestDir cdScrubStart (s.get CNT_AO_CYCLE_COUNT),
    .put .chestDir cdScrubDays (s.get CHS_CFG_SCRUB_DAYS), .put .chestDir cdPowered 0]

/-- The slots as a directory copy records them. -/
def slotsFrom (c : Nat) : Act := .ask fun s =>
  .each (List.range 80) fun k => .seq
    (.each (slotFields k).zipIdx fun x => .set x.1 (s.rd .chestDir (dcWord c k x.2)))
    (.put .chestDir (cdWord k 0) (s.rd .chestDir (dcWord c k 8)))

/-- Mount at a start-up or a wake (R467): the channels that train, and the directory copies that can be read. After P3 a scrub pass
starts (R466). Slots found TORN, and a mount that fails, are events (R477). -/
def mount (chOk : Nat) (dirOk : Bool × Bool) : Act := .seq (.set CHS_STATUS_CH_OK chOk) (.ask fun s =>
  match s.dirInForce dirOk with
  | some c => .all [
      slotsFrom c, .set CHS_STATUS_MOUNTED 1, tearSlots, dirWrite [], chestRefresh,
      .ask (fun t => .each ((List.range 80).filter fun k => t.get (CHS_SLOT_INFO_STATE k) = slotTorn) fun k => noteChest 3 k),
      .when (s.rd .chestDir cdPowered = 1) scrubStart]
  | none => .all [.put .chestDir (dcSeq 0) 0, .put .chestDir (dcSeq 1) 0, .set CHS_STATUS_MOUNTED 0, noteChest 4 0])

/-! Slot data (R456, R461). -/

/-- A page of a slot: its index, its data bytes as a number, the bytes of slot data in it, and STEP. -/
def State.newPage (s : State) (k i data fill step : Nat) : ChestPage :=
  makePage k i (s.rd .chestDir (cdWord k 0) + i) (s.get (CHS_SLOT_INFO_GEN k)) step fill data

/-- Program `n` bytes of slot data, `raw`, from the slot's write position on, in whole pages padded with 0xFF. -/
def program (bad : List Nat) (k raw n step : Nat) : Act := .ask fun s =>
  let w := s.rd .chestDir (cdWord k 3)
  let m := ceilDiv n pageBytes
  let pad := m * pageBytes - n
  let all := raw % 2 ^ (8 * n) + (2 ^ (8 * pad) - 1) <<< (8 * n)
  .all [
    .upd (.chest (s.chest ++ (List.range m).map fun j =>
      s.newPage k (w + j) (bits all (8 * pageBytes * j) (8 * pageBytes)) (min pageBytes (n - pageBytes * j)) step)),
    .each (List.range m) (fun j => placePage bad k (w + j)),
    .put .chestDir (cdWord k 2) (crc64Cfg.fold (s.rd .chestDir (cdWord k 2)) (leBytes n raw)),
    .put .chestDir (cdWord k 3) (w + m), .put .chestDir cdPageSeq ((s.rd .chestDir cdPageSeq + m) % 2 ^ 32),
    .modify (CHS_SLOT_INFO_BYTES k) (· + n)]

/-! Firings (R460–R462). -/

/-- The CHEST operation word (R460). -/
def chwKind (w : Nat) : Nat := bits w 0 4
def chwSlot (w : Nat) : Nat := bits w 4 7
def chwCount (w : Nat) : Nat := bits w 44 20

/-- Record a chest fault (R461, R469). -/
def chestFault (cause k : Nat) : Act := .ask fun s =>
  .when (s.get CHS_FAULT_VALID = 0) (.all [.set CHS_FAULT_CAUSE cause, .set CHS_FAULT_SLOT k, .set CHS_FAULT_VALID 1])

/-- A firing does not start: the cause is recorded and the stream stops (R461, R462). -/
def chestStop (n cause k : Nat) : Act := .seq (chestFault cause k) (badHeader n)

/-- The end of one firing of a CHEST step (R460): `units` is what the firing's duration, stalls included, charges (R454, R463). -/
def chestEnd (a : Alt) (units : Nat) : Act := .ask fun s =>
  let l := (if s.get CHS_LEFT_RECORDS = 0 then chwCount a.op else s.get CHS_LEFT_RECORDS) - 1
  .all [charge (allowKey 0x178 0 (s.altGraph a)) units, .set CHS_LEFT_RECORDS l,
    if l = 0 then advance 0x178 0 else holdRun 0x178 0 a]

/-- Bytes that a record takes in a slot: padded to a multiple of 64 (R461). -/
def recordSpan (n : Nat) : Nat := 64 * ceilDiv n 64

/-- An APPEND firing (R461, R463). -/
def appendFire (units : Nat) (bad : List Nat) (a : Alt) : Act := .ask fun s =>
  match a.inputs with
  | [i] =>
    let k := chwSlot a.op
    let t := s.inputD i
    let n := recordSpan t.recordLen
    let raw := t.raw % 2 ^ (8 * t.recordLen) + (2 ^ (8 * (n - t.recordLen)) - 1) <<< (8 * t.recordLen)
    let r := s.get (CHS_SLOT_INFO_RECORDS k)
    let step := s.stepNum (s.altGraph a)
    if !headerValid t.head then badHeader i
    else if s.get CHS_STATUS_MOUNTED = 0 then chestStop i 5 k
    else if s.get (CHS_SLOT_INFO_STATE k) ≠ slotOpen then chestStop i 1 k
    else if s.rd .chestDir (cdWord k 1) < s.rd .chestDir (cdWord k 3) + ceilDiv n pageBytes then chestStop i 2 k
    else .all [
      .put .chestRec (2 ^ 32 * k + r) (s.rd .chestDir (cdWord k 3)), .when (r = 0) (.set (CHS_SLOT_INFO_STEP k) step),
      program bad k raw n step, .set (CHS_SLOT_INFO_RECORDS k) (r + 1), chestSettle (s.rd .chestDir cdGrownBad) bad,
      fireTiles a [], chestEnd a units]
  | _ => .skip

/-- A READ firing (R462). -/
def chestReadFire (units : Nat) (reads : List PageRead) (a : Alt) : Act := .ask fun s =>
  match a.outputs with
  | [o] =>
    let k := chwSlot a.op
    let c := s.get (CHS_SLOT_INFO_CURSOR k)
    let p := s.rd .chestRec (2 ^ 32 * k + c)
    let first := s.readPage reads k p
    let n := 32 + hPayloadLen first.data
    let seen := (List.range (ceilDiv n pageBytes)).map fun j => s.readPage reads k (p + j)
    let t : Tile := ⟨packFast (8 * pageBytes) (seen.map (·.data)) % 2 ^ (8 * n)⟩
    let hit := seen.any fun x => x.failed.isSome
    if s.get CHS_STATUS_MOUNTED = 0 then chestStop o 5 k
    else if s.get (CHS_SLOT_INFO_STATE k) ≠ slotSealed then chestStop o 1 k
    else if s.get (CHS_SLOT_INFO_RECORDS k) ≤ c then chestStop o 3 k
    else if first.failed.isSome then .seq (countReads [first]) (chestStop o 4 k)
    else .all [
      countReads seen, .set (CHS_SLOT_INFO_CURSOR k) (c + 1),
      .when (hit || hPoison t.head) (raisePoisoned o), fireTiles a [(o, t.withPoison hit)], chestEnd a units]
  | _ => .skip

/-- Readiness of a CHEST alternative (R37). -/
def State.chestReady (s : State) (a : Alt) : Bool := s.altReady a && s.altFunded .chest 0x178 0 a

/-- A firing of the CHEST station of kind 1 APPEND or 2 READ. -/
def chestFire (kind : Nat) (f : Alt → Act) : Act := .ask fun s =>
  fireOn 0x178 0 s.chestReady (fun a => chwKind a.op = kind) f

def execAppend (units : BitVec 32) (bad : List Nat) (s : State) : Host.Outcome State Fault Refusal :=
  live (chestFire 1 (appendFire units.toNat bad)) s
def execChestRead (units : BitVec 32) (reads : List PageRead) (s : State) : Host.Outcome State Fault Refusal :=
  live (chestFire 2 (chestReadFire units.toNat reads)) s

/-! Host commands (R459). -/

/-- Status codes. -/
def chsOk : Nat := 0
def chsBadArg : Nat := 1
def chsState : Nat := 2
def chsNoSpace : Nat := 3
def chsMedia : Nat := 4
def chsBusy : Nat := 5
def chsUnmounted : Nat := 6

/-- A command completes. -/
def chestDone (code : Nat) : Act := .all [chestRefresh, .set CHS_CMD_STATUS_DONE 1, .set CHS_CMD_STATUS_CODE code]

/-- A command runs to its end. With `again`, CHS_CMD is written while it is BUSY: that write is discarded, and CODE becomes BUSY when the
command completes (R470). -/
def chestRun (a : Act) (again : Bool) : Act := .seq a (.when again (.set CHS_CMD_STATUS_CODE chsBusy))

/-- A command on a slot: an unmounted chest and a slot out of range are refused first. -/
def chestCmd (k : Nat) (ok : Bool) (f : State → Act) : Act := .ask fun s =>
  if s.get CHS_STATUS_MOUNTED = 0 then chestDone chsUnmounted
  else if 80 ≤ k || !ok then chestDone chsBadArg
  else f s

/-- Why a slot cannot be opened for `n` pages. -/
def State.openRefusal (s : State) (k n : Nat) : Option Nat :=
  if s.get (CHS_SLOT_INFO_STATE k) ≠ slotEmpty then some chsState
  else if s.get CHS_STATUS_LOW_SPARE = 1 || s.get CHS_SPACE_FREE_PAGES < n then some chsNoSpace
  else none

/-- Open a slot with `n` reserved pages. -/
def openSlot (bad : List Nat) (k n : Nat) : Act := .ask fun s =>
  .all [slotReset k slotOpen, .set (CHS_SLOT_INFO_PAGES k) n, .modify (CHS_SLOT_INFO_GEN k) (· + 1),
    .put .chestDir (cdWord k 0) (s.rd .chestDir cdPageSeq), .put .chestDir (cdWord k 1) n, .put .chestDir (cdWord k 2) crc64Cfg.init,
    dirWrite bad]

/-- Seal an OPEN slot: unused reserved pages return to the pool, and no file writes into its blocks any more. -/
def sealSlot (bad : List Nat) (k : Nat) : Act := .ask fun s =>
  .all [.set (CHS_SLOT_INFO_PAGES k) (s.rd .chestDir (cdWord k 3)), .put .chestDir (cdWord k 1) (s.rd .chestDir (cdWord k 3)),
    .set (CHS_SLOT_INFO_STATE k) slotSealed, dirWrite bad,
    .ask fun t => .upd (.stripes (t.stripes.filter fun x => x.file ≠ k))]

/-- A command that may retire blocks ends: the block table follows. -/
def chestEndCmd (bad : List Nat) (before : State) (code : Nat) : Act :=
  .seq (chestSettle (before.rd .chestDir cdGrownBad) bad) (chestDone code)

def chestOpen (k : Nat) (bad : List Nat) : Act := chestCmd k true fun s =>
  let n := s.get CHS_ARG0_VALUE
  match s.openRefusal k n with
  | some c => chestDone c
  | none => .seq (openSlot bad k n) (chestEndCmd bad s chsOk)

def chestSeal (k : Nat) (bad : List Nat) : Act := chestCmd k true fun s =>
  if s.get (CHS_SLOT_INFO_STATE k) = slotOpen then .seq (sealSlot bad k) (chestEndCmd bad s chsOk) else chestDone chsState

def chestErase (k : Nat) (bad : List Nat) : Act := chestCmd k true fun s =>
  .all [slotReset k slotEmpty, slotDrop k, dirWrite bad, chestEndCmd bad s chsOk]

/-- A span of trained shelf memory (R459). -/
def State.inShelves (s : State) (a n : Nat) : Bool :=
  shelfBase ≤ a && a < shelfBase + 16 * shelfSpan && (a - shelfBase) % shelfSpan + n ≤ s.shelfCap ((a - shelfBase) / shelfSpan)

/-- PARK: with `media` a page fails, and the slot is left OPEN. -/
def chestPark (k : Nat) (bad : List Nat) (media : Bool) : Act := .ask fun s0 =>
  let a := s0.get CHS_ARG0_VALUE
  let n := s0.get CHS_ARG1_VALUE
  chestCmd k (64 ≤ k && n ≠ 0 && s0.inShelves a n) fun s =>
    match s.openRefusal k (ceilDiv n pageBytes) with
    | some c => chestDone c
    | none => .all [
        openSlot bad k (ceilDiv n pageBytes), hostVisit a n,
        if media then chestEndCmd bad s chsMedia
        else .all [program bad k (Mem.nat s.mem a n) n 0, sealSlot bad k, chestEndCmd bad s chsOk]]

/-- The slot data of pages, each with the bytes before it: FILL says how many of a page's bytes are slot data (R456). -/
def slotData : List PageSeen → Nat → List (Nat × PageSeen)
  | [], _ => []
  | x :: t, o => (o, x) :: slotData t (o + min pageBytes (pgFill x.head))

/-- UNPARK: the slot's BYTES, up to the first failed page, are copied. -/
def chestUnpark (k : Nat) (reads : List PageRead) : Act := .ask fun s0 =>
  let a := s0.get CHS_ARG0_VALUE
  let n := s0.get (CHS_SLOT_INFO_BYTES k)
  chestCmd k (64 ≤ k && a % 64 = 0 && s0.inShelves a n) fun s =>
    if s.get (CHS_SLOT_INFO_STATE k) ≠ slotSealed then chestDone chsState
    else
      let seen := (List.range (s.get (CHS_SLOT_INFO_PAGES k))).map (s.readPage reads k)
      let good := seen.takeWhile fun x => x.failed.isNone
      .all [
        .each (slotData good 0) (fun y =>
          hostStore (a + y.1) ((leBytes (min pageBytes (pgFill y.2.head)) y.2.data).take (n - y.1))),
        countReads (seen.take (good.length + 1)),
        chestDone (if good.length < seen.length then chsMedia else chsOk)]

def chestRewind (k : Nat) : Act := chestCmd k true fun _ => .seq (.set (CHS_SLOT_INFO_CURSOR k) 0) (chestDone chsOk)

/-- FORMAT: every good block is erased, those of `bad` retire, and the block table is made anew from the factory marks and the blocks
known as bad. An unmounted chest takes it too, and is mounted from then on. -/
def chestFormat (factory bad : List Nat) : Act := .ask fun s =>
  if (List.range 80).any fun k => s.get (CHS_SLOT_INFO_STATE k) = slotOpen then chestDone chsState
  else .all [
    .each (List.range 80) (fun k => slotReset k slotEmpty), .upd (.chest []), .upd (.clear .chestRec),
    .upd (.chestSys []), .upd (.places []), .upd (.stripes []), .put .chestDir cdErases (s.rd .chestDir cdErases + 1),
    .each s.blkState (fun x => .put .blkState x.1 (setBits (setBits x.2 0 1 0) 2 1 0)),
    .each factory.eraseDups (fun b => .ask fun t => .put .blkState b (setBits (t.rd .blkState b) 2 1 1)),
    .put .chestDir cdFactoryBad factory.eraseDups.length,
    .each bad.eraseDups (fun b => .ask fun t => .when (t.blockTrained b && t.blockGood b) (retireBlock b)),
    tableWrite [], dirWrite [], .set CHS_STATUS_MOUNTED 1, chestDone chsOk]

def execChestOpen (k : BitVec 7) (bad : List Nat) (again : Bool) (s : State) : Host.Outcome State Fault Refusal :=
  live (chestRun (chestOpen k.toNat bad) again) s
def execChestSeal (k : BitVec 7) (bad : List Nat) (again : Bool) (s : State) : Host.Outcome State Fault Refusal :=
  live (chestRun (chestSeal k.toNat bad) again) s
def execErase (k : BitVec 7) (bad : List Nat) (again : Bool) (s : State) : Host.Outcome State Fault Refusal :=
  live (chestRun (chestErase k.toNat bad) again) s
def execPark (k : BitVec 7) (bad : List Nat) (media again : Bool) (s : State) : Host.Outcome State Fault Refusal :=
  live (chestRun (chestPark k.toNat bad media) again) s
def execUnpark (k : BitVec 7) (reads : List PageRead) (again : Bool) (s : State) : Host.Outcome State Fault Refusal :=
  live (chestRun (chestUnpark k.toNat reads) again) s
def execChestRewind (k : BitVec 7) (again : Bool) (s : State) : Host.Outcome State Fault Refusal :=
  live (chestRun (chestRewind k.toNat) again) s
def execFormat (factory bad : List Nat) (again : Bool) (s : State) : Host.Outcome State Fault Refusal :=
  live (chestRun (chestFormat factory bad) again) s

/-! Wear (R465). -/

/-- The entry of the greatest count, the first of several. -/
def greatestOf : List (Nat × Nat) → Option (Nat × Nat)
  | [] => none
  | x :: t =>
    match greatestOf t with
    | some y => if x.2 < y.2 then some y else some x
    | none => some x

/-- The data of the block of the lowest erase count moves into that of the highest, once they are more than 200 apart and the latter is in
the pool (R465). -/
def levelWear (bad : List Nat) : Act := .ask fun s =>
  let used := (s.places.map (·.block)).filter fun b => !s.stripes.any fun x => x.blocks.contains b
  match leastOf (used.map fun b => (b, s.rd .blkErase b)), greatestOf (s.blkErase.filter fun x => s.blockGood x.1) with
  | some lo, some hi =>
    .when (lo.2 + 200 < hi.2 && s.blockFree hi.1)
      (if s.blockDirty hi.1 && bad.contains hi.1 then retireBlock hi.1
      else .seq (.when (s.blockDirty hi.1) (eraseBlock hi.1)) (moveBlock lo.1 hi.1))
  | _, _ => .skip

/-! Scrub and counters (R466, R469). -/

/-- AO cycles of a day: 25 MHz. -/
def dayCycles : Nat := 86400 * 25000000

/-- A pass is due: SCRUB_DAYS have passed since the previous one started (R466). -/
def State.scrubDue (s : State) : Bool :=
  let days := if s.rd .chestDir cdScrubDays = 0 then s.get CHS_CFG_SCRUB_DAYS else s.rd .chestDir cdScrubDays
  s.rd .chestDir cdScrubStart + days * dayCycles ≤ s.get CNT_AO_CYCLE_COUNT

/-- A block is relocated: what it holds moves to a block of the pool (R466). -/
def relocate (bad : List Nat) (b : Nat) : Act :=
  .seq (claimBlock (List.range chestDies) allPlanes bad (moveBlock b) (bad.length + 1)) (countChest 5 1)

/-- The blocks with a page whose read took more than 40 corrections in a codeword, or a re-read. -/
def State.weakBlocks (s : State) (reads : List PageRead) : List Nat :=
  ((s.chest.filter fun p => (s.readPage reads p.slot p.page).weak).filterMap fun p =>
    (s.places.find? fun x => x.file = p.slot && x.page = p.page).map (·.block)).eraseDups

/-- A pass ends: every programmed page has been read, and weak blocks are relocated. -/
def scrubEnd (reads : List PageRead) (bad : List Nat) : Act := .ask fun s =>
  .all [
    countReads (s.chest.map fun p => s.readPage reads p.slot p.page), .each (s.weakBlocks reads) (relocate bad), levelWear bad,
    chestSettle (s.rd .chestDir cdGrownBad) bad, .set CHS_STATUS_SCRUBBING 0]

/-- CHEST_SCRUB_PASS (R466): the pass in progress ends; where none is in progress, one that is due starts. It does not run in P2 or P3. -/
def chestScrub (reads : List PageRead) (bad : List Nat) : Act := .ask fun s =>
  .when (s.get CHS_STATUS_MOUNTED = 1)
    (if s.get CHS_STATUS_SCRUBBING = 1 then scrubEnd reads bad else .when s.scrubDue scrubStart)

def execChestScrubPass (reads : List PageRead) (bad : List Nat) (s : State) : Host.Outcome State Fault Refusal :=
  live (chestScrub reads bad) s
def execChestCounterClear (mask : BitVec 6) (s : State) : Host.Outcome State Fault Refusal :=
  live (Act.each ((List.range 6).filter fun i => bitAt mask.toNat i) fun i =>
    countClear (CHS_COUNTER_COUNT i) (CHS_COUNTER_OVF i)) s

end Sys2Proof.Machine
end

