-- ==== Sys2Proof/Machine/Security.lean ====
section
/-!
DEFINITION. Bigefel (R398–R419): firmware slots and their verification, the SEC commands, measurements, attestation, and the
start-up of the device after power-on, a reset of the whole device, or a boot watchdog.
-/

namespace Sys2Proof.Machine

open Reg

/-! Fuses and firmware slots (R399–R401). -/

/-- Bytes of a slot. -/
def slotBytes : Nat := 2 ^ 23

/-- The bytes of a slot as a little-endian number; a byte that nothing has programmed reads 0 (log entry 12). -/
def State.fwRaw (s : State) (k : Nat) : Nat :=
  s.flash.foldl (fun x p => if p.1 / slotBytes = k then x + (p.2 % 256) <<< (8 * (p.1 % slotBytes)) else x) 0

/-- Fields of an image or record as little-endian numbers of `n` bytes from byte `o` on, and as bytes. -/
def rawU (raw o n : Nat) : Nat := bits raw (8 * o) (8 * n)
def rawBytes (raw o n : Nat) : List Byte := leBytes n (rawU raw o n)

/-- LENGTH, FW_VERSION, SVN, KEY_SLOT and ROOT_PUB of a firmware image (R400). -/
def fwLength (raw : Nat) : Nat := rawU raw 8 4
def fwVersion (raw : Nat) : Nat := rawU raw 12 2
def fwSvn (raw : Nat) : Nat := rawU raw 16 1
def fwKeySlot (raw : Nat) : Nat := rawU raw 17 1
def fwRootPub (raw : Nat) : List Byte := rawBytes raw 32 1793

/-- The header is well formed (R400). -/
def fwWellFormed (raw : Nat) : Bool :=
  rawU raw 0 4 = 0x57465A4B && rawU raw 4 2 = 1 && rawU raw 6 2 = 0 && 3264 ≤ fwLength raw && fwLength raw ≤ slotBytes &&
  rawU raw 14 2 = 0 && fwSvn raw ≤ 63 && fwKeySlot raw ≤ 1 && rawU raw 18 14 = 0 && rawU raw 1825 31 = 0 && rawU raw 3136 64 = 0

/-- The bytes that a signature at bytes 1,856–3,135 covers (R400, R411). -/
def signedMessage (raw n : Nat) : List Byte := leBytes n (setBits raw (8 * 1856) (8 * 1280) 0)

/-- The signature of an image or record verifies under a key. -/
def signatureGood (key : List Byte) (raw n : Nat) : Bool := Config.falconVerify key (signedMessage raw n) (rawBytes raw 1856 1280)

/-- A slot is valid (R401). -/
def State.slotValid (s : State) (k : Nat) : Bool :=
  let raw := s.fwRaw k
  fwWellFormed raw && s.rd .fuse (2 + fwKeySlot raw) = 0 &&
  leNat (shake256 32 (fwRootPub raw)) = s.rd .fuse (fwKeySlot raw) && s.rd .fuse 4 ≤ fwSvn raw &&
  signatureGood (fwRootPub raw) raw (fwLength raw)

/-- A slot's BAD mark (R402). -/
def State.slotBad (s : State) (k : Nat) : Bool := bitAt (s.rd .slotMeta k) 2

/-- PREF_SLOT of the boot metadata. -/
def State.prefSlot (s : State) : Nat := s.rd .bootMeta 0 % 2

/-- The slot that the ROM boots (R401). -/
def State.bootChoice (s : State) : Option Nat :=
  let first := if s.slotBad s.prefSlot then 1 - s.prefSlot else s.prefSlot
  [first, 1 - first].find? s.slotValid

/-- Bring up to date what SEC_STATE and SEC_FW_INFO report of fuses, metadata, keys and the other slot (R418). -/
def secRefresh : Act := .ask fun s =>
  let o := 1 - s.get SEC_STATE_BOOT_SLOT
  let v := s.slotValid o
  .all [
    .set SEC_STATE_OTHER_VALID (b2n v), .set SEC_FW_INFO_OTHER_VERSION (if v then fwVersion (s.fwRaw o) else 0),
    .set SEC_STATE_PREF_SLOT s.prefSlot, .set SEC_STATE_REQUIRE_SIGNED (s.rd .bootMeta 1 % 2), .set SEC_STATE_FUSE_SVN (s.rd .fuse 4),
    .set SEC_STATE_KEYS (pack 1 ((List.range 4).map fun k => b2n (s.rd .custKey k ≠ 0)))]

/-! SEC commands (R403–R405, R411–R413). -/

/-- Status codes (R404). -/
def secOk : Nat := 0
def secBadArg : Nat := 1
def secSlotActive : Nat := 2
def secInvalid : Nat := 3
def secRefused : Nat := 4
def secBusy : Nat := 5

/-- A command completes. -/
def secDone (code : Nat) : Act := .all [secRefresh, .set SEC_CMD_STATUS_DONE 1, .set SEC_CMD_STATUS_CODE code]

/-- ROM recovery (R405). -/
def State.recovery (s : State) : Bool := s.get GLB_BOOT_STATUS_RECOVERY = 1

/-- The slot that runs: no command writes or seals it (R404). In ROM recovery none runs. -/
def State.slotActive (s : State) (k : Nat) : Bool := !s.recovery && k = s.get SEC_STATE_BOOT_SLOT

/-- FW_WRITE (R404). -/
def fwWrite (k : Nat) : Act := .ask fun s =>
  let o := s.get SEC_ARG0_VALUE
  let n := s.get SEC_ARG1_VALUE
  if s.slotActive k then secDone secSlotActive
  else if o % 65536 ≠ 0 || slotBytes ≤ o || n = 0 || 65536 < n then secDone secBadArg
  else .all [
    .each (List.range n) (fun i => .put .flash (slotBytes * k + o + i) (s.rd .staging i)),
    .put .slotMeta k (setBits (setBits (s.rd .slotMeta k) 0 1 1) 1 1 0), secDone secOk]

/-- FW_SEAL (R404). -/
def fwSeal (k : Nat) : Act := .ask fun s =>
  if s.slotActive k then secDone secSlotActive
  else if s.slotValid k then .seq (.put .slotMeta k 2) (secDone secOk)
  else .seq (.put .slotMeta k (setBits (s.rd .slotMeta k) 1 1 0)) (secDone secInvalid)

/-- SET_PREF (R404): the slot is sealed and valid. -/
def setPref (k : Nat) : Act := .ask fun s =>
  if !bitAt (s.rd .slotMeta k) 0 && s.slotValid k then .seq (.put .bootMeta 0 k) (secDone secOk) else secDone secInvalid

/-- COMMIT_SVN (R403). -/
def commitSvn : Act := .ask fun s =>
  if s.get GLB_BOOT_STATUS_BOOT_OK = 1 && s.get SEC_STATE_FELL_BACK = 0 && s.rd .fuse 4 < s.get SEC_STATE_RUN_SVN then
    .seq (.put .fuse 4 (s.get SEC_STATE_RUN_SVN)) (secDone secOk)
  else secDone secRefused

/-- Bytes of an enrolment record or unlock token (R411). -/
def recordBytes : Nat := 3136

/-- The staged record as a number. -/
def State.staged (s : State) : Nat :=
  s.staging.foldl (fun x p => if p.1 < recordBytes then x + (p.2 % 256) <<< (8 * p.1) else x) 0

/-- The form of a record of MAGIC `magic` and OP from `lo` to `hi` (R411, R413). -/
def recordFormed (raw magic lo hi : Nat) : Bool :=
  rawU raw 0 4 = magic && lo ≤ rawU raw 4 1 && rawU raw 4 1 ≤ hi && rawU raw 5 1 ≤ 3 && rawU raw 7 1 = 0 && rawU raw 20 4 = 0 &&
  (rawU raw 4 1 = 1 || rawU raw 24 1793 = 0) && rawU raw 1817 39 = 0

/-- A record is accepted but for LOAD_STATE (R412). -/
def State.recordGood (s : State) (raw magic lo hi : Nat) : Bool :=
  recordFormed raw magic lo hi && rawU raw 8 8 = s.get LNK_SERIAL_SERIAL && s.rd .bootMeta 2 < rawU raw 16 4 &&
  signatureGood (fwRootPub (s.fwRaw (s.get SEC_STATE_BOOT_SLOT))) raw recordBytes

/-- Act on an accepted record, or complete with REFUSED or BUSY (R412). -/
def onRecord (magic lo hi : Nat) (f : Nat → Act) : Act := .ask fun s =>
  let raw := s.staged
  if s.get SEC_ARG1_VALUE ≠ recordBytes then secDone secBadArg
  else if !s.recordGood raw magic lo hi then secDone secRefused
  else if s.get GLB_PLAN_STATUS_LOAD_STATE ≠ loadIdle then secDone secBusy
  else .all [f raw, extendItem 4 (leBytes recordBytes raw), secDone secOk]

/-- ENROLL (R411, R412). -/
def enroll : Act := onRecord 0x4E455A4B 1 3 fun raw =>
  let k := rawU raw 5 1
  .all [
    .when (rawU raw 4 1 = 1) (.put .custKey k (rawU raw 24 1793)), .when (rawU raw 4 1 = 2) (.put .custKey k 0),
    .put .bootMeta 1 (rawU raw 6 1 % 2), .put .bootMeta 2 (rawU raw 16 4)]

/-- DEBUG_UNLOCK (R413). -/
def debugUnlock : Act := onRecord 0x42445A4B 0 0 fun _ => .set SEC_STATE_DEBUG_UNLOCKED 1

/-- A command that ROM recovery does not accept (R405). -/
def firmwareOnly (a : Act) : Act := .ask fun s => if s.recovery then secDone secRefused else a

/-- A SEC command acts while the chip runs and in ROM recovery. -/
def secLive (a : Act) (s : State) : Host.Outcome State Fault Refusal := .next ((Act.when s.enumerated a).run s)

/-- A SEC command runs to its end. With `again`, SEC_CMD is written while it is BUSY: that write is discarded, and CODE becomes BUSY
when the command completes (R419). -/
def secRun (a : Act) (again : Bool) : Act := .seq a (.when again (.set SEC_CMD_STATUS_CODE secBusy))

/-- A write of SEC_CMD: `op` and the slot; another OP is BAD_ARG. -/
def secCmd (op slot : Nat) (again : Bool) : Act :=
  secRun (if op = 1 then fwWrite slot else if op = 2 then fwSeal slot else if op = 3 then setPref slot
    else if op = 4 then firmwareOnly commitSvn else if op = 5 then firmwareOnly enroll else if op = 6 then firmwareOnly debugUnlock
    else secDone secBadArg) again

/-- A record command, in the course of which LOAD may be written: the load is accepted, and the command completes with BUSY (R419). -/
def duringLoad (load : Bool) (a : Act) : Act := .seq (.ask fun s => .when (load && s.running) planLoad) (firmwareOnly a)

def execFwWrite (slot again : Bool) (s : State) : Host.Outcome State Fault Refusal := secLive (secRun (fwWrite (b2n slot)) again) s
def execFwSeal (slot again : Bool) (s : State) : Host.Outcome State Fault Refusal := secLive (secRun (fwSeal (b2n slot)) again) s
def execSetPref (slot again : Bool) (s : State) : Host.Outcome State Fault Refusal := secLive (secRun (setPref (b2n slot)) again) s
def execCommitSvn (again : Bool) (s : State) : Host.Outcome State Fault Refusal := secLive (secRun (firmwareOnly commitSvn) again) s
def execEnroll (again load : Bool) (s : State) : Host.Outcome State Fault Refusal :=
  secLive (secRun (duringLoad load enroll) again) s
def execDebugUnlock (again load : Bool) (s : State) : Host.Outcome State Fault Refusal :=
  secLive (secRun (duringLoad load debugUnlock) again) s

/-! Measurements and attestation (R406–R410). -/

/-- The 64 bytes of SEC_EXT_DATA. -/
def State.extData (s : State) : List Byte := (List.range 16).flatMap fun k => leBytes 4 (s.get (SEC_EXT_DATA_D k))

/-- A GO write with IDX (R408). With `again`, another GO is written while the extend is pending, and is discarded. -/
def measExtend (i : Nat) (again : Bool) : Act := .ask fun s =>
  if i < 8 || s.get SEC_EXT_CTRL_DONE = 0 then .set SEC_EXT_CTRL_EXT_REJECT 1
  else .seq (extendMeas i s.extData) (.when again (.set SEC_EXT_CTRL_EXT_REJECT 1))

/-- Data object type of the attestation protocol (R409). -/
def doeType : Nat := 1

/-- Answer a DOE request with dwords, as a data object of the function's Vendor ID and type 0x01 (R409). -/
def doeAnswer (ws : List Nat) : Act := .seq (.upd (.doe ws)) (.upd (.doeObject (Config.vendorId.toNat + doeType <<< 16)))

/-- Bytes as dwords. -/
def dwords (bs : List Byte) : List Nat := unpack 32 (bs.length / 4) (leNat bs)

/-- The mailbox serves objects of that Vendor ID and type alone: another is answered by nothing (R374, R409; log entry 139). -/
def doeServe (vendor type : Nat) (a : Act) : Act := .when (vendor = Config.vendorId.toNat && type = doeType) a

/-- The identity certificate (R406). -/
def State.certificate (s : State) : List Byte :=
  leBytes 4 0x44495A4B ++ leBytes 4 1 ++ leBytes 8 (s.get LNK_SERIAL_SERIAL) ++ leBytes 8 Config.certIssued.toNat ++
  leBytes 8 Config.certCaKeyId.toNat ++ leBytes 1793 Config.certIdPub.toNat ++ leBytes 31 0 ++ leBytes 1280 Config.certSig.toNat

/-- The bytes of a report before its signature (R410). -/
def State.report (s : State) (mask nonce : Nat) : List Byte :=
  leBytes 4 0x54415A4B ++ leBytes 4 1 ++ leBytes 8 (s.get LNK_SERIAL_SERIAL) ++ leBytes 32 nonce ++
  leBytes 2 (s.get SEC_FW_INFO_RUN_VERSION) ++ leBytes 1 (s.get SEC_STATE_RUN_SVN) ++ leBytes 1 (s.get SEC_STATE_FUSE_SVN) ++
  leBytes 1 (s.get SEC_STATE_BOOT_SLOT + 2 * s.get SEC_STATE_FELL_BACK + 4 * s.get SEC_STATE_REQUIRE_SIGNED +
    8 * s.get SEC_STATE_DEBUG_UNLOCKED + 16 * s.get SEC_STATE_KEYS) ++
  leBytes 1 (s.get GLB_MODE_ROLE) ++ leBytes 2 mask ++ leBytes 32 s.planHash ++ leBytes 2 (s.get GLB_PLAN_STATUS_ACT_SEQ) ++ leBytes 6 0 ++
  ((List.range 16).filter fun i => bitAt mask i).flatMap s.meas

def getCert : Act := .ask fun s => doeAnswer (dwords s.certificate)
def getReport (mask nonce : Nat) : Act := .ask fun s =>
  doeAnswer (dwords (s.report mask nonce ++ leBytes 1280 (Config.falconSign (s.rd .fuse 5) (s.report mask nonce)).toNat))

/-- A request of another OPCODE or length (R409). -/
def doeInvalid : Act := doeAnswer [0xFF]

def execMeasExtend (idx : BitVec 4) (again : Bool) (s : State) : Host.Outcome State Fault Refusal := secLive (measExtend idx.toNat again) s
def execGetCert (vendor : BitVec 16) (type : BitVec 8) (s : State) : Host.Outcome State Fault Refusal :=
  secLive (doeServe vendor.toNat type.toNat getCert) s
def execGetReport (vendor : BitVec 16) (type : BitVec 8) (mask : BitVec 16) (nonce : BitVec 256) (s : State) :
    Host.Outcome State Fault Refusal :=
  secLive (doeServe vendor.toNat type.toNat (getReport mask.toNat nonce.toNat)) s
def execDoeInvalidRequest (vendor : BitVec 16) (type : BitVec 8) (s : State) : Host.Outcome State Fault Refusal :=
  secLive (doeServe vendor.toNat type.toNat doeInvalid) s

/-! A reset of the device (R377, R402, R414, R421). -/

/-- The banks that a reset empties: all but the boot flash with its metadata, the fuses, the customer keys and the chest. -/
def volatileBanks : List Bank :=
  planBanks ++ [
    .shadow, .cplPhase, .cplSince, .resetAsked, .dimem, .ddmem, .fwReg, .drwErr, .shfErr, .portLast, .txCred, .lastCr, .rxRel, .fseqNext, .fexpect,
    .nakDue, .nakHold, .replayLeft, .replayAseq, .replayFails, .crinitLeft, .crSteps, .wmSince, .scram, .lineBits, .rrVc, .rrIn, .peerWm, .dcsr, .staging]

/-- Drop what the compute dies and the IO die hold besides registers and memories: the plan, firings, cells, commands. -/
def dropWork : Act :=
  .all [
    dropOldPlan, .upd (.allow []), .upd (.progs []), .upd (.regions []), .upd (.detours []), .upd (.coords []), .upd (.period 0),
    .upd (.selLate false), .upd (.seed 0), .upd (.egress []), .upd (.rxBuf []), .upd (.copies []), .upd (.txq []), .upd (.heldFrames []),
    .upd (.notices []), .upd (.inflight []), .upd (.faultSeq 0), .upd (.faultDue []), .upd (.sclkPart 0),
    .upd (.admitted none)]

/-- Field keys of a span of BAR0. -/
def keySpan (lo hi : Nat) : Nat × Nat := (8 * lo, 8 * hi)

/-- Registers that outlive a conventional reset: the AO registers, PRESERVE, the AO cycle counter and the fused serial (R377,
R438). -/
def keptOnReset : List (Nat × Nat) :=
  [keySpan 0x00103008 0x0010300C, keySpan 0x02031000 0x02031008, keySpan 0x02500020 0x02500028, keySpan 0x02600010 0x02600044]

/-- Registers that outlive a power-on: the fused serial and the seats of the laser units. -/
def keptOnPower : List (Nat × Nat) :=
  [keySpan 0x02031000 0x02031008, ((PWR_LASER_PRESENT).key, (PWR_LASER_PRESENT).key + 3)]

/-- Reset the whole device; drawers and shelves lose their contents. -/
def deviceReset (kept : List (Nat × Nat)) : Act :=
  .all [
    dropWork, .each volatileBanks (fun b => .upd (.clear b)), .upd (.resetRegs kept), .upd (.zeroMem 0 (2 ^ 64)), .upd (.supply 0),
    .upd (.bar4Log 30), .upd (.pcie pcieReset), .upd (.fwBody 0), .ask fun s => .when s.asleep (.set PWR_STATE_STATUS_STATE 0)]

/-! Start-up (R414–R417). -/

/-- The laser units light: each seated unit that is not held dark and has no fault (R497). -/
def lightUnits : Act := .ask fun s =>
  .set PWR_LASER_LIT (pack 1 ((List.range 3).map fun k =>
    b2n (bitAt (s.get PWR_LASER_PRESENT) k && !bitAt (s.get PWR_LASER_OFF) k && !bitAt (s.get PWR_LASER_FAULT) k)))

/-- What a socket reports after training (R191, R207). -/
def trainSocket (ch : Nat) (d : Dimm) : Act :=
  .all [
    .set (SHF_DIMM_PRESENT ch) (b2n d.present), .set (SHF_DIMM_TRAINED ch) (b2n (d.present && d.trained)),
    .set (SHF_DIMM_FAST ch) (b2n (d.present && d.fast)), .set (SHF_DIMM_CAP ch) (if d.present && d.trained then d.cap.toNat else 0)]

/-- Shelf training (R191): one speed for all channels, 12,800 MT/s where every populated module supports it. The zero-fill leaves
a memory that reset has emptied as it is. -/
def trainShelves (ds : List Dimm) : Act :=
  .seq (.each (ds.take 16).zipIdx fun x => trainSocket x.2 x.1)
    (.set SHF_GLB_CFG_SPEED (b2n ((ds.take 16).all fun d => !d.present || d.fast)))

/-- Items of M0 and M2 (R407). -/
def State.fuseItem (s : State) : List Nat :=
  [s.rd .fuse 0, s.rd .fuse 1, s.rd .fuse 2, s.rd .fuse 3, s.rd .fuse 4, s.get LNK_SERIAL_SERIAL, s.rd .fuse 6]
def State.shelfItem (s : State) : List Nat :=
  (List.range 16).flatMap (fun ch =>
    [s.get (SHF_DIMM_PRESENT ch), s.get (SHF_DIMM_TRAINED ch), s.get (SHF_DIMM_FAST ch), s.get (SHF_DIMM_CAP ch)]) ++
  [s.get SHF_GLB_CFG_SPEED, s.get SHF_GLB_CFG_SCRUB_HOURS]

/-- A stage begins, and firmware may hang in it. -/
def stage (n : Nat) (o : StartUp) (a : Act) : Act :=
  .seq (.set GLB_BOOT_STATUS_STAGE n) (.when (!o.hang.any fun h => h.val + 4 = n) a)

/-- Stages 5 to 7: the chest, the function with BOOT_OK, and link bring-up with the first recomputation of the election (R266), which goes
on by itself (R414). -/
def bootEnd (o : StartUp) : Act :=
  stage 5 o (.seq (mount o.chOk.toNat o.dirOk) (stage 6 o (.all [
    .set GLB_BOOT_STATUS_BOOT_OK 1, .put .bootMeta 3 0, .set GLB_BOOT_STATUS_STAGE 7, lightUnits, electionRecompute 0])))

/-- The BODY of an image (R400). -/
def fwBodyOf (raw : Nat) : Nat := rawU raw 3200 (fwLength raw - 3200)

/-- Stages 3 and 4 with the slot that boots (R401, R407). -/
def bootSlot (o : StartUp) (k : Nat) : Act := .ask fun s =>
  let raw := s.fwRaw k
  .all [
    extendItem 1 (rawBytes raw 0 (fwLength raw)), .set SEC_STATE_BOOT_SLOT k, .set SEC_STATE_FELL_BACK (b2n (k ≠ s.prefSlot)),
    .upd (.fwBody (fwBodyOf raw)), .set SEC_STATE_RUN_SVN (fwSvn raw), .set SEC_FW_INFO_RUN_VERSION (fwVersion raw), secRefresh,
    .put .bootMeta 3 1,
    stage 4 o (.all [trainShelves o.dimms, .ask (fun t => extendItem 2 (Config.measItem 2 t.shelfItem)), bootEnd o])]

/-- Start-up from stage 1 (R414): a stage that fails ends it as R416 says. -/
def startUp (o : StartUp) : Act :=
  .seq (.set GLB_BOOT_STATUS_STAGE 2) <|
  if !o.lock then .set GLB_BOOT_STATUS_FAIL 1
  else .all [
    .set PWR_CLK_STATUS_ROOT_LOCK 1, .set PWR_CLK_STATUS_TX_LOCK 1, .set GLB_BOOT_STATUS_STAGE 3,
    .ask (fun s => extendItem 0 (Config.measItem 0 s.fuseItem)),
    .ask fun s =>
      match s.bootChoice with
      | some k => bootSlot o k
      | none => .all [
          secRefresh, .set GLB_BOOT_STATUS_FAIL 1, .set GLB_BOOT_STATUS_RECOVERY 1]]

/-- A reset of the whole device that is no power-on, and the start-up that follows. -/
def fullReset (o : StartUp) : Act :=
  .all [deviceReset keptOnReset, .set PWR_CLK_STATUS_ROOT_LOCK 0, .set PWR_CLK_STATUS_TX_LOCK 0, .set PWR_LASER_LIT 0, startUp o]

/-- Power comes on (R414, R490): every register but the fused and the seated ones takes its reset value. -/
def powerOn (o : StartUp) : Act :=
  .all [deviceReset keptOnPower, .upd (.alert false), .upd (.tripped false), .put .chestDir cdPowered 1, startUp o]

/-- The module is in P3 (R426). -/
def State.off (s : State) : Bool := s.get PWR_STATE_STATUS_STATE = 3

/-- PERST_N or a hot reset (R377); in P2 PRESERVE = 1 leaves the chip asleep. In ROM recovery and after a start-up that stopped it boots
again, whatever PRESERVE says (R405; log entry 107). -/
def conventionalReset (data : List (Nat × Nat × List Byte)) (o : StartUp) : Act := .ask fun s =>
  .when (!s.off) (if s.get HST_RESET_CFG_PRESERVE = 1 && (s.running || s.asleep) then resetHst false data else fullReset o)

/-- 30 s have passed since firmware started, without BOOT_OK (R402). -/
def watchdogExpiry (o : StartUp) : Act := .ask fun s =>
  .when (s.rd .bootMeta 3 = 1 && s.running) (.all [
    .put .slotMeta (s.get SEC_STATE_BOOT_SLOT) (setBits (s.rd .slotMeta (s.get SEC_STATE_BOOT_SLOT)) 2 1 1), .put .bootMeta 3 0,
    fullReset o])

/-- The root PLL loses lock (R421). -/
def rootLockLost (o : StartUp) : Act := .ask fun s =>
  .when (s.get PWR_CLK_STATUS_ROOT_LOCK = 1 && !s.asleep) (.all [.put .bootMeta 3 0, .set PWR_CLK_STATUS_LOCK_LOST 1, fullReset o])

def execPowerOn (o : StartUp) (s : State) : Host.Outcome State Fault Refusal := .next ((powerOn o).run s)
def execConventionalReset (data : CopyData) (o : StartUp) (s : State) : Host.Outcome State Fault Refusal :=
  .next ((conventionalReset data.nats o).run s)
def execBootWatchdogExpiry (o : StartUp) (s : State) : Host.Outcome State Fault Refusal := .next ((watchdogExpiry o).run s)
def execRootLockLost (o : StartUp) (s : State) : Host.Outcome State Fault Refusal := .next ((rootLockLost o).run s)

end Sys2Proof.Machine
end

