-- ==== Sys2Proof/Machine/Power.lean ====
section
/-!
DEFINITION. Power states P0 to P3 with their entries, wakes and refusals (R426–R439), the loss of power (R490, R493, R500), the laser
units (R497, R498), and temperatures with ALERT_N (R438, R499). In PWR_STATE_STATUS.STATE the model holds 2 for P2 and 3 for P3, in
which nothing reads the register.
-/

namespace Sys2Proof.Machine

open Reg

/-! Conditions (R427). -/

/-- Why an IDLE, ARM or OFF write is discarded: REFUSE_CAUSE. -/
def State.powerRefusal (s : State) : Option Nat :=
  if allStations.any fun e => s.get (STN_STATUS_QUIESCED e) = 0 then some 1
  else if s.get GLB_PLAN_STATUS_LOAD_STATE ≠ loadIdle then some 2
  else if (List.range 8).any fun g => s.get (GLB_STEP_STATE_IN_COMMIT g) = 1 then some 3
  else none

/-- Act under the conditions of R427, or report the refusal. -/
def powerRequest (a : Act) : Act := .ask fun s =>
  match s.powerRefusal with
  | some c => .seq (.set PWR_STATE_STATUS_REFUSED 1) (.set PWR_STATE_STATUS_REFUSE_CAUSE c)
  | none => a

/-- A write of IDLE = 1 (R427). -/
def idleRequest : Act := .ask fun s =>
  .when (s.get PWR_STATE_STATUS_STATE = 0)
    (.seq (.set PWR_STATE_CTRL_IDLE 0) (powerRequest (.seq (.set PWR_STATE_CTRL_IDLE 1) (.set PWR_STATE_STATUS_STATE 1))))

/-- A write of IDLE = 0 (R427). -/
def idleExit : Act := .seq (.set PWR_STATE_CTRL_IDLE 0) (.set PWR_STATE_STATUS_STATE 0)

/-- Writes of ARM and CANCEL (R429). -/
def armWatch : Act := powerRequest (.set PWR_STATE_STATUS_ARMED 1)
def cancelWatch : Act := .set PWR_STATE_STATUS_ARMED 0

def execIdleRequest (s : State) : Host.Outcome State Fault Refusal := live idleRequest s
def execIdleExit (s : State) : Host.Outcome State Fault Refusal := live idleExit s
def execArm (s : State) : Host.Outcome State Fault Refusal := live armWatch s
def execCancel (s : State) : Host.Outcome State Fault Refusal := live cancelWatch s

/-! ALERT_N (R499, R500). -/

/-- A die reading at or above DIE_HI; the coolant reading at or above COOL_HI. -/
def State.dieHot (s : State) : Bool :=
  let h := s.get PWR_WATCH_THRESH_DIE_HI
  h ≤ s.get PWR_TEMP_WEST || h ≤ s.get PWR_TEMP_EAST || h ≤ s.get PWR_TEMP_IO
def State.coolHot (s : State) : Bool := s.get PWR_WATCH_THRESH_COOL_HI ≤ s.get PWR_TEMP_COOLANT

/-- Bring ALERT_N up to date in P0 to P2. -/
def alertRefresh : Act := .ask fun s => .upd (.alert (s.dieHot || s.coolHot || s.get PWR_LASER_FAULT ≠ 0))

/-- Store readings in PWR_TEMP (R433, R438). -/
def storeTemps (t : Temps) : Act :=
  .all [
    .set PWR_TEMP_WEST t.west.toNat, .set PWR_TEMP_EAST t.east.toNat, .set PWR_TEMP_IO t.io.toNat, .set PWR_TEMP_COOLANT t.coolant.toNat,
    alertRefresh]

/-- The readings of P0 and P1 (R438): the AO domain takes them whether or not start-up has stopped. -/
def temperatureRefresh (t : Temps) : Act := .ask fun s => .when (!s.asleep) (storeTemps t)

def execTemperatureRefresh (t : Temps) (s : State) : Host.Outcome State Fault Refusal := .next ((temperatureRefresh t).run s)

/-! P3 (R432, R490, R493, R500). -/

/-- The module rails go off: volatile state is lost; `trip` says that the temperature did it, and ALERT_N stays low. -/
def enterP3 (trip : Bool) : Act :=
  .all [deviceReset keptOnPower, .set PWR_STATE_STATUS_STATE 3, .upd (.tripped trip), .upd (.alert trip)]

/-- A write of OFF = 1 (R432). -/
def offRequest : Act := powerRequest (enterP3 false)

/-- The input fails, or the module is withdrawn: P3 from any state; a module that a trip left in P3 loses what held ALERT_N too. `cut` is the
directory copy that the chest is rewriting (R458). -/
def powerLost (cut : Option (Fin 2)) : Act := .ask fun s => .seq (.when (!s.off) (dirCut cut)) (enterP3 false)

/-- A die reading reaches 110 °C (R500). -/
def thermalTrip (cut : Option (Fin 2)) : Act := .ask fun s => .when (!s.off) (.seq (dirCut cut) (enterP3 true))

def execOff (s : State) : Host.Outcome State Fault Refusal := live offRequest s
def execInputPowerLoss (cut : Option (Fin 2)) (s : State) : Host.Outcome State Fault Refusal := .next ((powerLost cut).run s)
def execModuleWithdrawal (cut : Option (Fin 2)) (s : State) : Host.Outcome State Fault Refusal := .next ((powerLost cut).run s)
def execThermalTrip (cut : Option (Fin 2)) (s : State) : Host.Outcome State Fault Refusal := .next ((thermalTrip cut).run s)

/-! P2 (R429–R431, R435–R437). -/

/-- Registers that P2 keeps (R430): the AO registers and the REQ latch, the SEC block that Bigefel's retention memory restores, the
trained PCIe link with PRESERVE, the fused serial, the AO cycle counter, and what shelf training stored. -/
def keptInWatch : List (Nat × Nat) :=
  [keySpan 0x00103004 0x0010300C, keySpan 0x02031000 0x02031008] ++
  (List.range 16).map (fun ch => keySpan (0x02100008 + ch * 0x1000) (0x0210000C + ch * 0x1000)) ++
  [((SHF_GLB_CFG_SPEED).key, (SHF_GLB_CFG_SPEED).key + 1), keySpan 0x02500020 0x02500028,
   ((PWR_OPMODE_REQ).key, (PWR_OPMODE_REQ).key + 2), keySpan 0x02600010 0x02600044, keySpan 0x02700000 0x02710000]

/-- The commit to P2: the plan ends, links are dark, OPEN slots become TORN, the dies are gated; shelves keep their contents and the
errors in them. -/
def enterP2 : Act :=
  .all [
    tearSlots, .ask (fun s => .when (s.get CHS_STATUS_MOUNTED = 1) (dirWrite [])), dropWork,
    .each (volatileBanks.filter fun b => b ≠ .shfErr) (fun b => .upd (.clear b)), .upd (.resetRegs keptInWatch),
    .upd (.zeroMem 0 shelfBase), .set PWR_STATE_STATUS_ARMED 0, .set PWR_STATE_STATUS_STATE 2,
    .set PWR_LASER_LIT 0, .set PWR_CLK_STATUS_ROOT_LOCK 0, .set PWR_CLK_STATUS_TX_LOCK 0]

/-- The PM_PME message of a wake that PCIe did not cause, once stage 6 is reached (R431). -/
def wakePme (c : Nat) : Act := .ask fun s =>
  .when (6 ≤ s.get GLB_BOOT_STATUS_STAGE && !bitAt c 5 && s.pcie.pmeEn)
    (.seq (.upd (.pcie { s.pcie with pmeStatus := true })) (.upd (.pmPmes (s.pmPmes + 1))))

/-- A wake from P2 by the sources `c`, which WAKE_CAUSE records with the enabled ones that become active up to the end of stage 1 (R431):
no verification, no measurement and no watchdog; REQ is the mode (R20). -/
def wake (c : Nat) (o : StartUp) : Act := .ask fun s =>
  .all [
    .set PWR_STATE_STATUS_STATE 0, .set PWR_STATE_STATUS_WAKE_CAUSE (c ||| (o.more.toNat &&& s.get PWR_WATCH_CFG_EN)),
    .modify PWR_STATE_STATUS_WAKES (· + 1),
    .set PWR_OPMODE_CUR (s.get PWR_OPMODE_REQ), .upd (.supply (s.get PWR_OPMODE_REQ)), .set GLB_BOOT_STATUS_STAGE 2,
    if !o.lock then .set GLB_BOOT_STATUS_FAIL 1
    else .all [
      .set PWR_CLK_STATUS_ROOT_LOCK 1, .set PWR_CLK_STATUS_TX_LOCK 1, .set GLB_BOOT_STATUS_STAGE 3, stage 4 o (bootEnd o),
      wakePme c]]

/-- EN of a wake source (R435). -/
def State.wakeOn (s : State) (i : Nat) : Bool := bitAt (s.get PWR_WATCH_CFG_EN) i

/-- A bit of WAKE_CAUSE for each source that is active and enabled. -/
def State.wakeCauses (s : State) (active : List (Nat × Bool)) : Nat :=
  active.foldl (fun c x => if x.2 && s.wakeOn x.1 then c + 2 ^ x.1 else c) 0

/-- Sources are active in P2: the enabled ones wake the chip. -/
def wakeBy (active : List (Nat × Bool)) (o : StartUp) : Act := .ask fun s =>
  .when (s.get PWR_STATE_STATUS_STATE = 2 && s.wakeCauses active ≠ 0) (wake (s.wakeCauses active) o)

/-- The commit of an armed chip whose function is in D3hot, into which the host has just put it where `d3`, or has no trained link
(R429); and the level sources at cycle 6 of the entry window (R437). -/
def watchCommit (d3 clkreq : Bool) (o : StartUp) : Act := .ask fun s =>
  .when (s.running && s.get PWR_STATE_STATUS_ARMED = 1 && (d3 || s.pcie.d3hot || s.get HST_LINK_WIDTH = 0))
    (.all [.upd (.pcie { s.pcie with d3hot := d3 || s.pcie.d3hot }), enterP2, wakeBy [(1, s.wakeLow), (5, clkreq)] o])

/-- A sample (R433): readings, light on a receive lane of link 35, and what they wake. -/
def watchSample (t : Temps) (light : Bool) (o : StartUp) : Act := .ask fun s =>
  .when (s.get PWR_STATE_STATUS_STATE = 2)
    (.seq (storeTemps t) (.ask fun u => wakeBy [(2, u.dieHot), (3, u.coolHot), (4, light)] o))

/-- The SMBus Alert Response Address (PRESUMED, SMBus 3.x; log entry 140). -/
def alertAddress : Nat := 0x0C

/-- What a transaction with the module reads: GLB_BOOT_STATUS, PWR_TEMP (R418, R494). -/
def State.sideband (s : State) (r : SmbRead) : Option Nat :=
  match r with
  | .nothing => none
  | .bootStatus => some (s.get GLB_BOOT_STATUS_STAGE + s.get GLB_BOOT_STATUS_FAIL <<< 4 + s.get GLB_BOOT_STATUS_RECOVERY <<< 5 +
      s.get GLB_BOOT_STATUS_BOOT_OK <<< 6)
  | .temp => some (s.get PWR_TEMP_WEST + s.get PWR_TEMP_EAST <<< 8 + s.get PWR_TEMP_IO <<< 16 + s.get PWR_TEMP_COOLANT <<< 24)

/-- How a start condition is answered (R436, R437, R494): the module's address is acknowledged, and in P2 SCL is held until the AO target
runs; in the entry window of P2 it is not; another address is neither acknowledged nor held. While ALERT_N is asserted the Alert
Response Address reads the module's own. -/
def State.smbAnswer (s : State) (a : Nat) (window : Bool) (r : SmbRead) : Smbus :=
  if s.off then ⟨false, false, none⟩
  else if a = s.get PWR_SMB_ADDR then
    if window && s.get PWR_STATE_STATUS_STATE = 2 then ⟨false, false, none⟩ else ⟨true, s.get PWR_STATE_STATUS_STATE = 2, s.sideband r⟩
  else if a = alertAddress && s.alert && !s.asleep then ⟨true, false, some (2 * s.get PWR_SMB_ADDR)⟩
  else ⟨false, false, none⟩

/-- An SMBus start condition with an address, and the transaction that follows (R436); in the entry window it is lost (R437). -/
def smbusMatch (a : Nat) (window : Bool) (r : SmbRead) (o : StartUp) : Act := .ask fun s =>
  .seq (.upd (.smb (s.smbAnswer a window r))) (wakeBy [(0, a = s.get PWR_SMB_ADDR && !window)] o)

/-- WAKE_N changes or is held: in P3 it starts the converter after 10 ms with the input in range (R432, R495). -/
def wakeN (low held input : Bool) (o : StartUp) : Act := .ask fun s =>
  .seq (.upd (.wakeLow low))
    (if s.off then .when (low && held && input) (powerOn o) else wakeBy [(1, low)] o)

/-- CLKREQ# is asserted, or with `d0` D0 is written to the function (R435). -/
def pcieWake (d0 : Bool) (o : StartUp) : Act := .ask fun s =>
  .seq (.when (d0 && (s.enumerated || s.get PWR_STATE_STATUS_STATE = 2)) (.upd (.pcie { s.pcie with d3hot := false }))) (wakeBy [(5, true)] o)

def execWatchCommit (d3 clkreq : Bool) (o : StartUp) (s : State) : Host.Outcome State Fault Refusal :=
  .next ((watchCommit d3 clkreq o).run s)
def execWatchSample (t : Temps) (light : Bool) (o : StartUp) (s : State) : Host.Outcome State Fault Refusal :=
  .next ((watchSample t light o).run s)
def execSmbusAddressMatch (addr : BitVec 7) (window : Bool) (read : SmbRead) (o : StartUp) (s : State) : Host.Outcome State Fault Refusal :=
  .next ((smbusMatch addr.toNat window read o).run s)
def execWakeNLow (low held input : Bool) (o : StartUp) (s : State) : Host.Outcome State Fault Refusal :=
  .next ((wakeN low held input o).run s)
def execPcieWake (d0 : Bool) (o : StartUp) (s : State) : Host.Outcome State Fault Refusal := .next ((pcieWake d0 o).run s)

/-! Laser units (R497, R498). -/

/-- Replace bit `k` of a field. -/
def setBit (f : Field) (k v : Nat) : Act := .modify f fun x => setBits x k 1 v

/-- The front connector of a link, which is also its laser unit: 0 FA, 1 FB, 2 FC; and the fibre positions on which it transmits and
receives (R8, R496). -/
def linkUnit (l : Nat) : Nat := l / 12
def txFibre (l : Nat) : Nat := l % 12 + 1
def rxFibre (l : Nat) : Nat := l % 12 + 13

/-- The twelve links of a unit (R8). -/
def unitLinks (k : Nat) : List Nat := (List.range 36).filter fun l => linkUnit l = k

/-- A unit goes dark, and its links fall with it; stage 7 of start-up waits for lit links alone. -/
def unitDark (k : Nat) : Act :=
  .all [setBit PWR_LASER_LIT k 0, .each (unitLinks k) (fun l => .ask fun s =>
    .when (s.get (LNK_STATE_STATE l) ≠ 0) (takeDown l 0 downDark)), stageRefresh]

/-- A unit lights where it is seated, not held dark and without fault, and its links start bring-up. No unit lights in P2, where
every link is dark. -/
def unitLight (k : Nat) : Act := .ask fun s =>
  .when (s.running && bitAt (s.get PWR_LASER_PRESENT) k && !bitAt (s.get PWR_LASER_OFF) k && !bitAt (s.get PWR_LASER_FAULT) k)
    (.seq (setBit PWR_LASER_LIT k 1) (.each (unitLinks k) tryLock))

/-- A write of bit `k` of OFF. -/
def laserOff (k : Nat) (off : Bool) : Act := .seq (setBit PWR_LASER_OFF k (b2n off)) (if off then unitDark k else unitLight k)

/-- A unit is seated, or withdrawn. -/
def laserInsert (k : Nat) : Act := .seq (setBit PWR_LASER_PRESENT k 1) (unitLight k)
def laserRemove (k : Nat) : Act := .seq (setBit PWR_LASER_PRESENT k 0) (unitDark k)

/-- A seated unit cannot hold its comb. -/
def laserFault (k : Nat) : Act := .ask fun s =>
  .when (!s.off && bitAt (s.get PWR_LASER_PRESENT) k) (.all [setBit PWR_LASER_FAULT k 1, unitDark k, alertRefresh])

/-- A write of ones to FAULT: a unit whose fault is cleared lights unless it is held dark. -/
def laserFaultClear (v : Nat) : Act := .ask fun s =>
  let ks := (List.range 3).filter fun k => bitAt v k && bitAt (s.get PWR_LASER_FAULT) k
  .all [.each ks (fun k => setBit PWR_LASER_FAULT k 0), .each ks unitLight, alertRefresh]

def execLaserOff (k : Fin 3) (off : Bool) (s : State) : Host.Outcome State Fault Refusal := live (laserOff k.val off) s
def execLaserInsert (k : Fin 3) (s : State) : Host.Outcome State Fault Refusal := .next ((laserInsert k.val).run s)
def execLaserRemove (k : Fin 3) (s : State) : Host.Outcome State Fault Refusal := .next ((laserRemove k.val).run s)
def execLaserFault (k : Fin 3) (s : State) : Host.Outcome State Fault Refusal := .next ((laserFault k.val).run s)

end Sys2Proof.Machine
end

