-- ==== Sys2Proof/Machine/Ready.lean ====
section
/-!
DEFINITION. Which alternative of a station's current step is ready, for every kind of station (R36, R37), and the WAITING bits that a read
computes from it (R59, R100, R117).
-/

namespace Sys2Proof.Machine

open Reg

/-- Readiness of an alternative at an endpoint, or in a half of a split bench. -/
def State.readyAt (s : State) (e part : Nat) (a : Alt) : Bool :=
  if e < 0x120 then
    match e % 8 with
    | 4 => s.vecReady (e / 8) a
    | 5 => s.convReady (e / 8) a
    | 6 => s.memReady e a
    | 7 => s.deskReady a
    | b => s.benchReady (e / 8) b part a
  else if e < 0x124 then s.vsyReady a
  else if isMemory e then s.memReady e a
  else if e = 0x170 then s.hostReady a
  else if e = 0x178 then s.chestReady a
  else s.altReady a

/-- WAITING: the station may fire, it has no firing in progress, and its current step has no ready alternative (R36, R59). -/
def State.waiting (s : State) (e part : Nat) : Bool :=
  s.get (STN_CTRL_ENABLE e) = 1 && !s.busy e && (s.curStep e part).isSome && (s.firstReady e part (s.readyAt e part)).isNone

/-- The part that CLU_STN_STATUS describes: half L of a split bench (R112). -/
def State.statusPart (s : State) (e : Nat) : Nat :=
  if e < 0x120 && e % 8 < 4 && s.get (CLU_BENCH_CFG_SPLIT (e / 8) (e % 8)) = 1 then 1 else 0

/-- The WAITING bit in the word at an offset: bit 3 of xxx_STN_STATUS, bit 1 of CLU_BENCH_HSTATUS; 0 elsewhere. -/
def State.waitingBits (s : State) (off : Nat) : Nat :=
  match allStations.find? fun e => stnPage e + 4 = off || (e < 0x120 && e % 8 < 4 && stnPage e + 8 = off) with
  | some e =>
    if off = stnPage e + 4 then b2n (s.waiting e (s.statusPart e)) <<< 3
    else b2n (s.get (CLU_BENCH_CFG_SPLIT (e / 8) (e % 8)) = 1 && s.waiting e 2) <<< 1
  | none => 0

end Sys2Proof.Machine
end

