-- ==== Sys2Proof/Machine/RegCmds.lean ====
section
/-!
DEFINITION. Writes and reads of BAR0 as a whole (R2–R6, R376, R424): for each register whose write does more than its access code says,
the effect of its chapter; reads with what they clear or advance; the host's and the desk's register commands (R144, R379); and host
writes to memory (R375, R205).
-/

namespace Sys2Proof.Machine

open Reg

/-! Registers whose writes have effects of their own. -/

/-- A register array with the effect of a 32-bit write: element, byte offset within it, value. -/
structure Special where
  base : Nat
  stride : Nat
  count : Nat
  size : Nat
  act : Nat → Nat → Nat → Act

/-- The element and the byte within it at which an offset lies. -/
def Special.covers (x : Special) (off : Nat) : Option (Nat × Nat) :=
  if off < x.base then none
  else
    let d := off - x.base
    let i := if x.stride = 0 then 0 else d / x.stride
    if i < x.count && d - i * x.stride < x.size then some (i, d - i * x.stride) else none

/-- A single register. -/
def one (base : Nat) (act : Nat → Act) : Special := ⟨base, 0, 1, 4, fun _ _ v => act v⟩

/-- A value of which 0 stores 1. -/
def atLeastOne (v lo w : Nat) : Nat := if bits v lo w = 0 then setBits v lo w 1 else v

/-- Each set bit of a clear register clears a counter. -/
def clearBits (v lo n : Nat) (f : Nat → Act) : Act := .each ((List.range n).filter fun i => bitAt v (lo + i)) f

/-- A write of STN_CTRL (R59–R61). -/
def stnCtrlWrite (e v : Nat) : Act :=
  if bitAt v 1 then stationAbort e else if bitAt v 0 then resumeStation e else quiesceStation e

/-- Streams, milestones and stations (R32, R47–R53, R59–R61, R91). -/
def specialsCore : List Special := [
  ⟨0x03000000, 0x40, 262144, 64, fun n o v => contextWrite n (o / 4) v⟩,
  ⟨0x02800000, 8, 65536, 8, fun m o v => if o = 0 then mlsWrite m (some v) none else mlsWrite m none (some v)⟩,
  ⟨0x02900000, 4, 65536, 4, fun m _ v => .seq (plainWrite (0x02900000 + 4 * m) v) (mlsRefresh m)⟩,
  ⟨0x02F00000, 0, 1, 8, fun _ _ _ => .skip⟩,
  ⟨0x00080000, 0x10, 16384, 16, fun n o v => plainWrite (0x00080000 + 0x10 * n + o) (if o = 4 then setBits v 0 8 (clampE v) else v)⟩] ++
  allStations.map fun e => ⟨stnPage e, 0, 1, 4, fun _ _ v => stnCtrlWrite e v⟩

/-- Where the 32 bits of CLU_VEC_DBG_DATA stand (R148): an address register is named by REG[1:0] (DESIGN CHOICE, log entry 16). KIND 1 with
LANE 32–255 and KIND 3 name nothing: they read 0 and discard writes (DESIGN CHOICE, log entry 129). -/
def dbgPlace (s : State) (c : Nat) : Option (Bank × Nat × Nat) :=
  let lane := s.get (CLU_VEC_DBG_ADDR_LANE c)
  let reg := s.get (CLU_VEC_DBG_ADDR_REG c)
  match s.get (CLU_VEC_DBG_ADDR_KIND c) with
  | 0 => some (.vreg, 32 * c + reg, 32 * lane)
  | 1 => if lane < 32 then some (.vmask, 8 * c + reg % 8, 32 * lane) else none
  | 2 => some (.vaddr, 4 * c + reg % 4, 0)
  | _ => none

def dbgWrite (c v : Nat) : Act := .ask fun s =>
  .when (s.get (STN_STATUS_QUIESCED (8 * c + 4)) = 1) (match dbgPlace s c with
    | some (b, k, lo) => .put b k (setBits (s.rd b k) lo 32 v)
    | none => .skip)

def State.dbgWord (s : State) (c : Nat) : Nat :=
  match dbgPlace s c with
  | some (b, k, lo) => bits (s.rd b k) lo 32
  | none => 0

/-- Clusters (R88, R111, R121, R139, R148, R207). -/
def specialsCluster : List Special :=
  (List.range 4).flatMap (fun b => [
    ⟨0x01000010 + 0x1000 * b, 0x10000, 36, 4, fun c _ v => plainWrite (0x01000010 + 0x1000 * b + 0x10000 * c) (atLeastOne v 4 5)⟩,
    ⟨0x01000014 + 0x1000 * b, 0x10000, 36, 4, fun c _ v => .all [
      .when (bitAt v 0) (clrChkfailL c b), .when (bitAt v 1) (clrChkfailH c b), .when (bitAt v 2) (clrChkskip c b),
      .when (bitAt v 3) (clrAcc c b)]⟩]) ++ [
  ⟨0x01004014, 0x10000, 36, 4, fun c _ v => dbgWrite c v⟩,
  ⟨0x01004020, 0x10000, 36, 8, fun c _ _ => imemStep c⟩,
  ⟨0x01005010, 0x10000, 36, 4, fun c _ v => .seq (.when (bitAt v 0) (clrLost c)) (clearBits v 1 8 fun k => clrAmax c k)⟩,
  ⟨0x01006008, 0x10000, 36, 4, fun c _ v => .seq (.when (bitAt v 0) (clrDrwCe c)) (.when (bitAt v 1) (clrDrwUe c))⟩,
  ⟨0x01007024, 0x10000, 36, 4, fun c _ v => deskMemAccess c (some v)⟩,
  ⟨0x01007100, 0x10000, 36, 256, fun c o v => .ask fun s =>
    .when (s.get (STN_STATUS_QUIESCED (deskEp c)) = 1) (deskSet c (o / 4) v)⟩]

/-- Shelves, router, links and discovery (R207, R237, R242, R270). -/
def specialsFabric : List Special := [
  ⟨0x02100028, 0x1000, 16, 4, fun ch _ v => .seq (.when (bitAt v 0) (clrShfCe ch)) (.when (bitAt v 1) (clrShfUe ch))⟩,
  one 0x02110000 fun v => plainWrite 0x02110000 (atLeastOne v 8 8),
  one 0x02040008 fun v => clearBits v 0 9 fun i => countClear (LNK_RT_COUNTER_COUNT i) (LNK_RT_COUNTER_OVF i),
  ⟨0x02050C00, 4, 64, 4, fun i _ v => fenceWrite i (bits v 0 24) (bits v 31 1)⟩,
  ⟨0x0200000C, 0x1000, 36, 4, fun l _ v => .all [
    darkWrite l (bits v 0 1), .when (bitAt v 1) (retrain l),
    clearBits v 8 8 fun i => countClear (LNK_COUNTER_COUNT l i) (LNK_COUNTER_OVF l i)]⟩,
  one 0x0203101C fun v => plainWrite 0x0203101C (atLeastOne v 0 8)]

/-- Vusyn and steps (R176, R303, R310, R313, R340). -/
def specialsVusyn : List Special := [
  ⟨0x00000200, 0x40, 8, 4, fun g _ v => stepNumWrite g v⟩,
  ⟨0x0000020C, 0x40, 8, 4, fun g _ v => .all [
    .when (bitAt v 0) (haltFor g haltHost), .when (bitAt v 1) (resume g), .when (bitAt v 2) (rollback g), .when (bitAt v 3) (raiseSource g 9)]⟩,
  one 0x00000010 fun v => roleWrite (bits v 0 2),
  one 0x02240000 fun v => plainWrite 0x02240000 (atLeastOne v 0 8),
  one 0x02240008 fun v => .when (bitAt v 31) (failDeclare (bits v 0 24)),
  one 0x02240038 fun v => clearBits v 0 5 fun i => countClear (VSY_CNT_COUNT i) (VSY_CNT_OVF i),
  one 0x02240100 fun v => .seq (plainWrite 0x02240100 v) (.when (bitAt v 25) lagClear),
  one 0x02250000 fun v => plainWrite 0x02250000 (setBits v 0 5 (clampL (bits v 0 5))),
  one 0x02250008 fun v => clearBits v 0 3 fun i => countClear (VSY_GRAD_CNT_COUNT i) (VSY_GRAD_CNT_OVF i)]

/-- A write of a word of GLB_PLAN_ADDR: discarded except in IDLE (R351). -/
def planAddrWrite (o v : Nat) : Act := .ask fun s =>
  .when (s.get GLB_PLAN_STATUS_LOAD_STATE = loadIdle) (plainWrite (0x40 + o) v)

/-- A write of GLB_PLAN_CTRL (R351, R363). -/
def planCtrlWrite (v : Nat) : Act := .seq (plainWrite 0x48 v) (planCtrl (bitAt v 0) (bitAt v 1))

/-- A write of GLB_BUDGET_SET (R367, R368). -/
def budgetWrite (v : Nat) : Act :=
  .seq (budgetSelect (bits v 0 2) false) (.ask fun s => plainWrite 0x20 (setBits v 0 2 (s.get GLB_BUDGET_SET_SEL)))

/-- Plans, budgets, snapshots and recovery (R351, R367, R473, R484). -/
def specialsPlan : List Special := [
  ⟨0x00000040, 0, 1, 8, fun _ o v => planAddrWrite o v⟩,
  one 0x00000048 planCtrlWrite, one 0x00000020 budgetWrite,
  one 0x02500000 fun v => .when (bitAt v 0) snapRequest,
  one 0x02500014 fun v => .seq (.when (bitAt v 0) (countClear CNT_FLT_LOST_COUNT CNT_FLT_LOST_OVF))
    (.when (bitAt v 1) (countClear CNT_DRAIN_DROP_COUNT CNT_DRAIN_DROP_OVF)),
  one 0x02500200 fun v => plainWrite 0x02500200 (atLeastOne v 0 16),
  one 0x02500204 fun v => .when (bitAt v 3) (rewindRequest (bits v 0 3) false)]

/-! Host rings and queues (R386, R392). -/

/-- A write of a command ring's register that needs STOPPED = 1. -/
def ringStopped (r : Nat) (a : Act) : Act := .ask fun s => .when (s.get (HST_CMD_STATUS_STOPPED r) = 1) a

/-- A write of a word of a command ring's block. -/
def cmdRingWrite (r o v : Nat) : Act :=
  if o < 8 then ringStopped r (plainWrite (0x00100000 + 0x40 * r + o) v)
  else if o = 8 then
    ringStopped r (.seq (.when (4 ≤ bits v 0 5 && bits v 0 5 ≤ 16) (.set (HST_CMD_CFG_SIZE_LOG2 r) v)) (.set (HST_CMD_CFG_CPL_RING r) (bits v 8 6)))
  else if o = 0xC then .ask fun s => .set (HST_CMD_PTR_TAIL r) (bits v 0 16 % s.cmdSize r)
  else if o = 0x14 then ringStopped r (.seq (.set (HST_CMD_SEQ_NEXT_SEQ r) v) (.set (HST_CMD_SEQ_ACCEPTED_SEQ r) (v + 2 ^ 32 - 1)))
  else if o = 0x18 then
    .seq (ringRun r (bits v 0 1)) (.when (bitAt v 1) (if bitAt v 2 then abortWaits r else ringReset r))
  else plainWrite (0x00100000 + 0x40 * r + o) v

/-- A write of a word of a completion ring's block. -/
def cplRingWrite (n o v : Nat) : Act :=
  if o < 8 then .ask fun s =>
    let old := s.get (HST_CPL_BASE_ADDR n)
    cplBase n (if o = 0 then setBits old 0 26 (bits v 6 26) else setBits old 26 32 v)
  else if o = 8 then .seq (cplSizeWrite n (bits v 0 5)) (.ask fun s => plainWrite (0x00101008 + 0x40 * n) (setBits v 0 5 (s.get (HST_CPL_CFG_SIZE_LOG2 n))))
  else if o = 0xC then .ask fun s => .set (HST_CPL_PTR_HEAD n) (bits v 0 16 % s.cplSize n)
  else if o = 0x14 then cplSeqNext n v
  else plainWrite (0x00101000 + 0x40 * n + o) v

/-- A write of a word of a tile queue's block. -/
def queueWrite (q o v : Nat) : Act := .ask fun s =>
  let a := 0x00102000 + 0x40 * q + o
  if o < 0x10 || o = 0x14 || (0x20 ≤ o && o < 0x28) then
    if s.get (STN_STATUS_QUIESCED 0x170) = 1 then
      if o = 8 && 16 < bits v 0 5 then plainWrite a (setBits v 0 5 (s.get (HST_TQ_CFG_SLOTS_LOG2 q))) else plainWrite a v
    else .set (HST_TQ_STATUS_WR_REJECT q) 1
  else if o = 0x10 then .set (HST_TQ_PTR_HOST_IDX q) (bits v 0 16 % s.tqSize q)
  else plainWrite a v

/-- A write of an MSI-X table word: unmasking a vector whose pending bit is set signals it (log entry 5). -/
def msixWrite (n o v : Nat) : Act :=
  .seq (plainWrite (0x00E00000 + 0x10 * n + o) v) (signalPending n)

def specialsHost : List Special := [
  ⟨0x00100000, 0x40, 64, 0x20, cmdRingWrite⟩, ⟨0x00101000, 0x40, 64, 0x18, cplRingWrite⟩,
  ⟨0x00102000, 0x40, 64, 0x30, queueWrite⟩, ⟨0x00E00000, 0x10, 256, 16, msixWrite⟩]

/-! Security, power, check units and chest. -/

/-- A write of SEC_EXT_CTRL (R408). -/
def extCtrlWrite (v : Nat) : Act := .seq (plainWrite 0x02700020 v) (.when (bitAt v 4) (measExtend (bits v 0 4) false))

/-- Bytes of the staging window (R404). -/
def stagingWrite (o v : Nat) : Act := .each (List.range 4) fun i => .put .staging (o + i) (bits v (8 * i) 8)

def specialsSecurity : List Special := [
  one 0x02700010 fun v => secCmd (bits v 0 8) (bits v 8 1) false,
  one 0x02700020 extCtrlWrite,
  ⟨0x02710000, 0, 1, 65536, fun _ o v => stagingWrite o v⟩]

/-- A write of PWR_STATE_CTRL (R427, R432). -/
def stateCtrlWrite (v : Nat) : Act := .seq (if bitAt v 0 then idleRequest else idleExit) (.when (bitAt v 8) offRequest)

/-- A write of PWR_LASER (R497, R498): FAULT is cleared after OFF is written. -/
def laserWrite (v : Nat) : Act := .ask fun s =>
  .seq (.each ((List.range 3).filter fun k => bitAt v k != bitAt (s.get PWR_LASER_OFF) k) fun k => laserOff k (bitAt v k))
    (laserFaultClear (bits v 12 3))

/-- PERIOD_MS as a write stores it (R438). -/
def clampPeriod (v : Nat) : Nat := max 1 (min 1000 v)

def specialsPower : List Special := [
  one 0x02600000 fun v => .seq (modeRequest (bits v 0 2)) (.ask fun s => plainWrite 0x02600000 (setBits v 0 2 (s.get PWR_OPMODE_REQ))),
  one 0x02600010 stateCtrlWrite,
  one 0x02600014 fun v => .seq (.when (bitAt v 0) armWatch) (.when (bitAt v 1) cancelWatch),
  one 0x02600020 fun v => plainWrite 0x02600020 (setBits v 0 10 (clampPeriod (bits v 0 10))),
  one 0x02600024 fun v => .seq (plainWrite 0x02600024 v) alertRefresh,
  one 0x02600040 laserWrite]

/-- The old value of a 64-bit register with one 32-bit half replaced. -/
def withHalf (old o v : Nat) : Nat := if o = 0 then setBits old 0 32 v else setBits old 32 32 v

/-- A write of a word of a check unit's block (R448). -/
def chkWrite (n o v : Nat) : Act := .ask fun s =>
  if o = 8 then chkConfigWrite n 0 v
  else if o = 0xC then .when (bitAt v 0) (clrMismatch n)
  else if 0x10 ≤ o && o < 0x18 then chkConfigWrite n 1 (withHalf (s.get (CHK_POLY_VALUE n)) (o - 0x10) v)
  else if 0x18 ≤ o && o < 0x20 then chkConfigWrite n 2 (withHalf (s.get (CHK_INIT_VALUE n)) (o - 0x18) v)
  else if 0x20 ≤ o && o < 0x28 then chkConfigWrite n 3 (withHalf (s.get (CHK_XOROUT_VALUE n)) (o - 0x20) v)
  else if 0x28 ≤ o && o < 0x30 then chkStateWrite n (withHalf (s.get (CHK_STATE_VALUE n)) (o - 0x28) v)
  else plainWrite (0x02400000 + 0x1000 * n + o) v

/-- A write of CHS_CMD (R459), with a medium that neither fails nor retires blocks: the rows of the chest commands carry what it
does. -/
def chestCmdWrite (v : Nat) : Act :=
  let k := bits v 8 7
  match bits v 0 8 with
  | 1 => chestOpen k []
  | 2 => chestSeal k []
  | 3 => chestErase k []
  | 4 => chestPark k [] false
  | 5 => chestUnpark k []
  | 6 => chestRewind k
  | 7 => .ask fun s => chestFormat ((s.blkState.filter fun x => bitAt x.2 2).map (·.1)) []
  | _ => chestDone chsBadArg

def specialsUnits : List Special := [
  ⟨0x02400008, 0x1000, 16, 0x28, fun n o v => chkWrite n (8 + o) v⟩,
  one 0x0230000C fun v => plainWrite 0x0230000C (atLeastOne v 0 8),
  one 0x02500100 fun v => plainWrite 0x02500100 (setBits v 16 1 0),
  one 0x02300010 chestCmdWrite,
  one 0x0230002C fun v => clearBits v 0 6 fun i => countClear (CHS_COUNTER_COUNT i) (CHS_COUNTER_OVF i)]

/-- Every register whose write does more than its access code says. -/
def specials : List Special :=
  specialsCore ++ specialsCluster ++ specialsFabric ++ specialsVusyn ++ specialsPlan ++ specialsHost ++ specialsSecurity ++ specialsPower ++
  specialsUnits

/-- A 32-bit write. -/
def wordWrite (off v : Nat) : Act :=
  match specials.findSome? fun x => (x.covers off).map fun p => x.act p.1 p.2 v with
  | some a => a
  | none => plainWrite off v

/-- 64-bit registers that take a 64-bit write as one: MLS_INC and the vector instruction memory only so, a milestone entry and the
64-bit registers of a check unit as a whole (R47, R48, R148). -/
def doubleWrite (off v : Nat) : Option Act :=
  if off = 0x02F00000 then some (mlsAdd (bits v 0 16) (bits v 32 32) none)
  else if 0x02800000 ≤ off && off < 0x02880000 then some (mlsWrite ((off - 0x02800000) / 8) (some (bits v 0 32)) (some (bits v 32 32)))
  else if 0x01000000 ≤ off && off < 0x01240000 && off % 0x10000 = 0x4020 then some (imemAccess ((off - 0x01000000) / 0x10000) (some v))
  else if 0x02400000 ≤ off && off < 0x02410000 then
    let n := (off - 0x02400000) / 0x1000
    match off % 0x1000 with
    | 0x10 => some (chkConfigWrite n 1 v)
    | 0x18 => some (chkConfigWrite n 2 v)
    | 0x20 => some (chkConfigWrite n 3 v)
    | 0x28 => some (chkStateWrite n v)
    | _ => none
  else none

/-- A write of BAR0 by size and alignment (R376). -/
def alignedWrite (off size v : Nat) : Act :=
  if size = 4 && off % 4 = 0 then wordWrite off (v % 2 ^ 32)
  else if size = 8 && off % 8 = 0 then
    match doubleWrite off v with
    | some a => a
    | none => .seq (wordWrite off (v % 2 ^ 32)) (wordWrite (off + 4) (bits v 32 32))
  else .skip

/-- Offsets that answer in ROM recovery: GLB_BOOT_STATUS and the SEC block (R405). -/
def inSec (off : Nat) : Bool := off = 0x30 || (0x02700000 ≤ off && off < 0x02720000)

/-- A write by an agent (R2, R20, R376, R405): in P2 and P3 only the REQ latch takes one; a chip that start-up has stopped takes none
but those of ROM recovery. -/
def regWrite (off size v : Nat) : Act := .ask fun s =>
  if s.running then alignedWrite off size v
  else if s.asleep then .when ((size = 4 || size = 8) && off = 0x02600000) (modeRequest (bits v 0 2))
  else .when (s.enumerated && inSec off) (alignedWrite off size v)

/-- Whether an access answers: its size and alignment, and in ROM recovery its offset. -/
def State.answers (s : State) (off size : Nat) : Bool :=
  ((size = 4 && off % 4 = 0) || (size = 8 && off % 8 = 0)) && (s.running || (s.enumerated && inSec off))

/-- What the hardware sets in the cycle of a write: the W1C bits of R4, and CODE of a milestone, where the hardware's value stays
(R52). -/
def coincident (off size v hw : Nat) : Act :=
  let word (o v hw : Nat) : Act :=
    if 0x02900000 ≤ o && o < 0x02940000 && o % 4 = 0 then
      let m := (o - 0x02900000) / 4
      .seq (hardwareSets o v hw) (.when (bits hw 0 8 ≠ 0) (.seq (.set (MLS_STATUS_CODE m) (bits hw 0 8)) (mlsRefresh m)))
    else hardwareSets o v hw
  .when (hw ≠ 0) (.seq (word off v hw) (.when (size = 8) (word (off + 4) (bits v 32 32) (bits hw 32 32))))

/-- A write with what the hardware sets in its cycle. -/
def regWriteWith (off size v hw : Nat) : Act := .ask fun s =>
  .seq (regWrite off size v) (.when (s.answers off size) (coincident off size v hw))

/-! Reads (R2, R3, R148, R376, R475). -/

/-- The state that a read of BAR0 sees: shadows where SHADOW = 1 and the register has one (R475). -/
def State.viewed (s : State) (off : Nat) : State :=
  if s.get CNT_VIEW_SHADOW = 1 && shadowed off then { s with regs := s.shadow } else s

/-- A 32-bit word as a read returns it. -/
def State.readWord (s : State) (off : Nat) : Nat :=
  if 0x02710000 ≤ off && off < 0x02720000 then packFast 8 ((List.range 4).map fun i => s.rd .staging (off - 0x02710000 + i))
  else if 0x01000000 ≤ off && off < 0x01240000 then
    let c := (off - 0x01000000) / 0x10000
    match off % 0x10000 with
    | 0x4014 => s.dbgWord c
    | 0x4020 => bits (s.rd .vimem (2048 * c + s.get (CLU_VEC_IMEM_ADDR_INDEX c))) 0 32
    | 0x4024 => bits (s.rd .vimem (2048 * c + s.get (CLU_VEC_IMEM_ADDR_INDEX c))) 32 32
    | 0x7024 => s.deskMemWord c
    | _ => (s.viewed off).word off ||| s.waitingBits off
  else (s.viewed off).word off ||| s.waitingBits off

/-- What a read of a word does: RC fields clear, and an index with AUTOINC advances (R148). -/
def readEffect (off upd : Nat) : Act := .ask fun s =>
  let c := (off - 0x01000000) / 0x10000
  if 0x01000000 ≤ off && off < 0x01240000 && off % 0x10000 = 0x7024 then
    .when (s.get (CLU_DESK_MEM_ADDR_AUTOINC c) = 1) (.modify (CLU_DESK_MEM_ADDR_ADDR c) (· + 4))
  else if 0x01000000 ≤ off && off < 0x01240000 && off % 0x10000 / 8 = 0x4020 / 8 then imemStep c
  else .when (!(s.get CNT_VIEW_SHADOW = 1 && shadowed off)) (readClear off upd)

/-- The value that a read returns. -/
def State.readValue (s : State) (off size : Nat) : Nat :=
  if !s.answers off size then 0
  else if size = 4 then s.readWord off
  else s.readWord off + (s.readWord (off + 4)) <<< 32

/-- CLU_VEC_IMEM_DATA of some cluster: an aligned 64-bit access is one access (R148). -/
def isImemData (off : Nat) : Bool := 0x01000000 ≤ off && off < 0x01240000 && off % 0x10000 = 0x4020

/-- What a read by an agent leaves behind, with what the hardware counts or sets in the RC fields in the same cycle (R3). -/
def readEffects (off size upd : Nat) : Act := .ask fun s =>
  .when (s.answers off size) (.seq (readEffect off upd)
    (.when (size = 8 && !isImemData off) (readEffect (off + 4) (bits upd 32 32))))

/-- A host read: what it returned stands in `readOut`. -/
def regRead (off size upd : Nat) : Act := .ask fun s => .seq (.upd (.readOut (s.readValue off size))) (readEffects off size upd)

def execRegisterWrite (off : BitVec 26) (size : Nat) (val hw : BitVec 64) (s : State) : Host.Outcome State Fault Refusal :=
  .next ((regWriteWith off.toNat size val.toNat hw.toNat).run s)

/-! REG_WR and REG_RD (R379). -/

def regWrCmd (c : HostCmd) : Act := .seq (regWrite (c.arg 16 4) (c.arg 20 1) (c.arg 24 8)) (finishCmd c stOk 0)
def regRdCmd (c : HostCmd) : Act := .ask fun s =>
  .seq (readEffects (c.arg 16 4) (c.arg 20 1) 0) (finishCmd c stOk (s.readValue (c.arg 16 4) (c.arg 20 1)))

def execRegWr (r : Ring) (s : State) : Host.Outcome State Fault Refusal := live (startCmd r.val opRegWr regWrCmd) s
def execRegRd (r : Ring) (s : State) : Host.Outcome State Fault Refusal := live (startCmd r.val opRegRd regRdCmd) s

/-! LDX and STX (R144, R147). -/

/-- An access at RA + IMM14 in the cluster's window, or its fault: the range is judged before alignment. -/
def deskWindow (c : Nat) (ra : BitVec 6) (imm : BitVec 14) (f : Nat → Act) : Act := deskOp c fun _ pc => .ask fun s =>
  let o := (s.sreg c ra.toNat + imm14 imm) % 2 ^ 32
  if 0xFFFF < o then deskFault c causeRegRange pc
  else if o % 4 ≠ 0 then deskFault c causeMisalign pc
  else .seq (deskNext c pc) (f (0x01000000 + 0x10000 * c + o))

def deskLdx (c : Nat) (rd ra : BitVec 6) (imm : BitVec 14) : Act := deskWindow c ra imm fun off => .ask fun s =>
  .seq (readEffects off 4 0) (deskSet c rd.toNat (s.readValue off 4))
def deskStx (c : Nat) (rb ra : BitVec 6) (imm : BitVec 14) : Act := deskWindow c ra imm fun off => .ask fun s =>
  regWrite off 4 (s.sreg c rb.toNat)

def execDeskLdx (c : Cluster) (rd ra : BitVec 6) (imm : BitVec 14) (s : State) : Host.Outcome State Fault Refusal :=
  deskMeaning c (.deskLdx c rd ra imm) (deskLdx c rd ra imm) s
def execDeskStx (c : Cluster) (rb ra : BitVec 6) (imm : BitVec 14) (s : State) : Host.Outcome State Fault Refusal :=
  deskMeaning c (.deskStx c rb ra imm) (deskStx c rb ra imm) s

/-! Host writes to memory (R197, R205, R375). -/

/-- The device address that a BAR offset reaches; none beyond the BAR. -/
def State.barAddress (s : State) (bar4 : Bool) (off : Nat) : Option Nat :=
  if bar4 then
    if off < 2 ^ s.bar4Log then some (shelfBase + s.get HST_BAR4_WIN_WIN % 2 ^ (42 - s.bar4Log) * 2 ^ s.bar4Log + off) else none
  else if off < 2 ^ 31 then some off else none

/-- A host write; the bytes that lie in a hole are discarded. -/
def barWrite (bar4 : Bool) (off : Nat) (data : List Byte) : Act := .ask fun s =>
  match s.barAddress bar4 off with
  | some a => hostStore a data
  | none => .skip

/-- A host read of `n` bytes of device memory through BAR2 or BAR4, in `readOut` as a little-endian number: holes, and offsets beyond the
drawers or the BAR, read 0, and the errors of the units read are counted (R192, R197, R375, R376). -/
def barRead (bar4 : Bool) (off n : Nat) : Act := .ask fun s =>
  match s.barAddress bar4 off with
  | some a => .seq (.upd (.readOut (leNat (s.bytesAt a n)))) (.when (0 < n) (hostVisit a n))
  | none => .upd (.readOut 0)

/-- `stalls`: firings of drawers that host accesses which waited 256 cycles stalled (R190). -/
def execBarMemoryWrite (bar4 : Bool) (off : BitVec 42) (data : List Byte) (stalls : List (Cluster × Graph)) (s : State) :
    Host.Outcome State Fault Refusal :=
  live (Act.seq (barWrite bar4 off.toNat data) (drawerStalls stalls)) s

/-- A host read: of the register block with what the hardware counts or sets in its RC fields in the same cycle (R3), or of memory with
the stalls it causes (R190); the windows on memory answer while the chip runs (R375, R376). -/
def windowRead (bar : Bar) (off size upd : Nat) (stalls : List (Cluster × Graph)) : Act :=
  match bar with
  | .bar0 => regRead off size upd
  | .bar2 => .ask fun s => .when s.running (.seq (barRead false off size) (drawerStalls stalls))
  | .bar4 => .ask fun s => .when s.running (.seq (barRead true off size) (drawerStalls stalls))

def execRcRead (bar : Bar) (off : BitVec 42) (size : Nat) (upd : BitVec 64) (stalls : List (Cluster × Graph)) (s : State) :
    Host.Outcome State Fault Refusal :=
  .next ((windowRead bar off.toNat size upd.toNat stalls).run s)

/-! The clocks (R471). -/

/-- Fifths of an SCLK cycle in one cycle of the 25 MHz AO clock: 400, 320 and 250 MHz in modes P, B and E (R11, R420). -/
def sclkFifths (mode : Nat) : Nat := if mode = 1 then 64 else if mode = 2 then 50 else 80

/-- A tick with no command waiting: one AO cycle (log entry 17). CNT_AO_CYCLE counts it while the AO domain has power, and CNT_CYCLE
counts the SCLK cycles that end in it while the synchronous clocks run; both wrap. -/
def tick : Act := .ask fun s =>
  let x := s.sclkPart + sclkFifths s.mode
  .seq (.when s.running (.seq (.modify CNT_CYCLE_COUNT (· + x / 5)) (.upd (.sclkPart (x % 5)))))
    (.when (!s.off) (.modify CNT_AO_CYCLE_COUNT (· + 1)))

end Sys2Proof.Machine
end

