-- ==== Sys2Proof/Machine/Dispatch.lean ====
section
/-!
DEFINITION. The command's effect: one arm per constructor of Instr, each a direct call of the command's meaning.
-/

namespace Sys2Proof.Machine

/-- The effect of a command on everything but the queue. -/
def exec (i : Instr) (s : State) : Host.Outcome State Fault Refusal :=
  match i with
  | .registerWrite off size val hw => Sys2Proof.Machine.execRegisterWrite off size val hw s
  | .rcRead bar off size upd stalls => Sys2Proof.Machine.execRcRead bar off size upd stalls s
  | .barMemoryWrite bar4 off data stalls => Sys2Proof.Machine.execBarMemoryWrite bar4 off data stalls s
  | .modeRequest m => Sys2Proof.Machine.execModeRequest m s
  | .stbyPllLock => Sys2Proof.Machine.execStbyPllLock s
  | .supplyRaiseSettled => Sys2Proof.Machine.execSupplyRaiseSettled s
  | .budgetPeriodBoundary => Sys2Proof.Machine.execBudgetPeriodBoundary s
  | .budgetSetSelect sel late => Sys2Proof.Machine.execBudgetSetSelect sel late s
  | .streamContextWrite n word val => Sys2Proof.Machine.execStreamContextWrite n word val s
  | .nextSeqRewrite n seq => Sys2Proof.Machine.execNextSeqRewrite n seq s
  | .streamFaultClear n bits hw => Sys2Proof.Machine.execStreamFaultClear n bits hw s
  | .streamWatchdogFire n => Sys2Proof.Machine.execStreamWatchdogFire n s
  | .mlsIncWrite m amount => Sys2Proof.Machine.execMlsIncWrite m amount s
  | .milestoneEntryWrite m count target => Sys2Proof.Machine.execMilestoneEntryWrite m count target s
  | .stationQuiesce e => Sys2Proof.Machine.execStationQuiesce e s
  | .stationResume e => Sys2Proof.Machine.execStationResume e s
  | .stationAbort e => Sys2Proof.Machine.execStationAbort e s
  | .convert c => Sys2Proof.Machine.execConvert c s
  | .stashEnc c => Sys2Proof.Machine.execStashEnc c s
  | .stashDec c => Sys2Proof.Machine.execStashDec c s
  | .copy c => Sys2Proof.Machine.execCopy c s
  | .compensate c => Sys2Proof.Machine.execCompensate c s
  | .clrLost c => Sys2Proof.Machine.execClrLost c s
  | .clrAmax c k => Sys2Proof.Machine.execClrAmax c k s
  | .benchLoad c b half overlap => Sys2Proof.Machine.execBenchLoad c b half overlap s
  | .benchStream c b half overlap stall => Sys2Proof.Machine.execBenchStream c b half overlap stall s
  | .clrChkfailL c b => Sys2Proof.Machine.execClrChkfailL c b s
  | .clrChkfailH c b => Sys2Proof.Machine.execClrChkfailH c b s
  | .clrChkskip c b => Sys2Proof.Machine.execClrChkskip c b s
  | .clrAcc c b => Sys2Proof.Machine.execClrAcc c b s
  | .vecRun c => Sys2Proof.Machine.execVecRun c s
  | .vadd c x => Sys2Proof.Machine.execVadd c x s
  | .vsub c x => Sys2Proof.Machine.execVsub c x s
  | .vmul c x => Sys2Proof.Machine.execVmul c x s
  | .vfma c x => Sys2Proof.Machine.execVfma c x s
  | .vmax c x => Sys2Proof.Machine.execVmax c x s
  | .vmin c x => Sys2Proof.Machine.execVmin c x s
  | .vabs c x => Sys2Proof.Machine.execVabs c x s
  | .vneg c x => Sys2Proof.Machine.execVneg c x s
  | .vdot4 c x => Sys2Proof.Machine.execVdot4 c x s
  | .vdot2 c x => Sys2Proof.Machine.execVdot2 c x s
  | .vrcp c x => Sys2Proof.Machine.execVrcp c x s
  | .vrsqrt c x => Sys2Proof.Machine.execVrsqrt c x s
  | .vexp2 c x => Sys2Proof.Machine.execVexp2 c x s
  | .vlog2 c x => Sys2Proof.Machine.execVlog2 c x s
  | .vdiv c x => Sys2Proof.Machine.execVdiv c x s
  | .vsqrt c x => Sys2Proof.Machine.execVsqrt c x s
  | .vcmp c x => Sys2Proof.Machine.execVcmp c x s
  | .vsel c x => Sys2Proof.Machine.execVsel c x s
  | .mand c x => Sys2Proof.Machine.execMand c x s
  | .mor c x => Sys2Proof.Machine.execMor c x s
  | .mnot c x => Sys2Proof.Machine.execMnot c x s
  | .mpop c x => Sys2Proof.Machine.execMpop c x s
  | .vand c x => Sys2Proof.Machine.execVand c x s
  | .vor c x => Sys2Proof.Machine.execVor c x s
  | .vxor c x => Sys2Proof.Machine.execVxor c x s
  | .vshl c x => Sys2Proof.Machine.execVshl c x s
  | .vshr c x => Sys2Proof.Machine.execVshr c x s
  | .vsar c x => Sys2Proof.Machine.execVsar c x s
  | .vcvt c x => Sys2Proof.Machine.execVcvt c x s
  | .vmov c x => Sys2Proof.Machine.execVmov c x s
  | .vbrd c x => Sys2Proof.Machine.execVbrd c x s
  | .vxb c x => Sys2Proof.Machine.execVxb c x s
  | .vrot c x => Sys2Proof.Machine.execVrot c x s
  | .vbcl c x => Sys2Proof.Machine.execVbcl c x s
  | .vidx c x => Sys2Proof.Machine.execVidx c x s
  | .vrsum c x => Sys2Proof.Machine.execVrsum c x s
  | .vrprod c x => Sys2Proof.Machine.execVrprod c x s
  | .vrmax c x => Sys2Proof.Machine.execVrmax c x s
  | .vrmin c x => Sys2Proof.Machine.execVrmin c x s
  | .vramax c x => Sys2Proof.Machine.execVramax c x s
  | .vramin c x => Sys2Proof.Machine.execVramin c x s
  | .vld c x => Sys2Proof.Machine.execVld c x s
  | .vst c x => Sys2Proof.Machine.execVst c x s
  | .vldh c x => Sys2Proof.Machine.execVldh c x s
  | .vseth c x => Sys2Proof.Machine.execVseth c x s
  | .vrng c x => Sys2Proof.Machine.execVrng c x s
  | .vout c x => Sys2Proof.Machine.execVout c x s
  | .vseta c x => Sys2Proof.Machine.execVseta c x s
  | .vadda c x => Sys2Proof.Machine.execVadda c x s
  | .vloop c x => Sys2Proof.Machine.execVloop c x s
  | .vend c => Sys2Proof.Machine.execVend c s
  | .vecImemDataAccess c val => Sys2Proof.Machine.execVecImemDataAccess c val s
  | .deskMemDataAccess c val => Sys2Proof.Machine.execDeskMemDataAccess c val s
  | .deskRun c => Sys2Proof.Machine.execDeskRun c s
  | .deskAdd c rd ra rb => Sys2Proof.Machine.execDeskAdd c rd ra rb s
  | .deskSub c rd ra rb => Sys2Proof.Machine.execDeskSub c rd ra rb s
  | .deskAnd c rd ra rb => Sys2Proof.Machine.execDeskAnd c rd ra rb s
  | .deskOr c rd ra rb => Sys2Proof.Machine.execDeskOr c rd ra rb s
  | .deskXor c rd ra rb => Sys2Proof.Machine.execDeskXor c rd ra rb s
  | .deskSll c rd ra rb => Sys2Proof.Machine.execDeskSll c rd ra rb s
  | .deskSrl c rd ra rb => Sys2Proof.Machine.execDeskSrl c rd ra rb s
  | .deskSra c rd ra rb => Sys2Proof.Machine.execDeskSra c rd ra rb s
  | .deskSlt c rd ra rb => Sys2Proof.Machine.execDeskSlt c rd ra rb s
  | .deskSltu c rd ra rb => Sys2Proof.Machine.execDeskSltu c rd ra rb s
  | .deskMul c rd ra rb => Sys2Proof.Machine.execDeskMul c rd ra rb s
  | .deskMulhu c rd ra rb => Sys2Proof.Machine.execDeskMulhu c rd ra rb s
  | .deskDivu c rd ra rb => Sys2Proof.Machine.execDeskDivu c rd ra rb s
  | .deskAddi c rd ra imm => Sys2Proof.Machine.execDeskAddi c rd ra imm s
  | .deskAndi c rd ra imm => Sys2Proof.Machine.execDeskAndi c rd ra imm s
  | .deskOri c rd ra imm => Sys2Proof.Machine.execDeskOri c rd ra imm s
  | .deskSlli c rd ra sh => Sys2Proof.Machine.execDeskSlli c rd ra sh s
  | .deskSrli c rd ra sh => Sys2Proof.Machine.execDeskSrli c rd ra sh s
  | .deskSrai c rd ra sh => Sys2Proof.Machine.execDeskSrai c rd ra sh s
  | .deskLui c rd imm => Sys2Proof.Machine.execDeskLui c rd imm s
  | .deskLw c rd ra imm => Sys2Proof.Machine.execDeskLw c rd ra imm s
  | .deskSw c rb ra imm => Sys2Proof.Machine.execDeskSw c rb ra imm s
  | .deskLbu c rd ra imm => Sys2Proof.Machine.execDeskLbu c rd ra imm s
  | .deskSb c rb ra imm => Sys2Proof.Machine.execDeskSb c rb ra imm s
  | .deskBeq c ra rb imm => Sys2Proof.Machine.execDeskBeq c ra rb imm s
  | .deskBne c ra rb imm => Sys2Proof.Machine.execDeskBne c ra rb imm s
  | .deskBlt c ra rb imm => Sys2Proof.Machine.execDeskBlt c ra rb imm s
  | .deskBge c ra rb imm => Sys2Proof.Machine.execDeskBge c ra rb imm s
  | .deskBltu c ra rb imm => Sys2Proof.Machine.execDeskBltu c ra rb imm s
  | .deskBgeu c ra rb imm => Sys2Proof.Machine.execDeskBgeu c ra rb imm s
  | .deskJal c rd imm => Sys2Proof.Machine.execDeskJal c rd imm s
  | .deskJalr c rd ra imm => Sys2Proof.Machine.execDeskJalr c rd ra imm s
  | .deskFadd c rd ra rb => Sys2Proof.Machine.execDeskFadd c rd ra rb s
  | .deskFsub c rd ra rb => Sys2Proof.Machine.execDeskFsub c rd ra rb s
  | .deskFmul c rd ra rb => Sys2Proof.Machine.execDeskFmul c rd ra rb s
  | .deskFlt c rd ra rb => Sys2Proof.Machine.execDeskFlt c rd ra rb s
  | .deskFcvtws c rd ra => Sys2Proof.Machine.execDeskFcvtws c rd ra s
  | .deskFcvtsw c rd ra => Sys2Proof.Machine.execDeskFcvtsw c rd ra s
  | .deskMwait c rd ra => Sys2Proof.Machine.execDeskMwait c rd ra s
  | .mwaitTimeout c => Sys2Proof.Machine.execMwaitTimeout c s
  | .deskMinc c ra rb => Sys2Proof.Machine.execDeskMinc c ra rb s
  | .deskMtgt c ra rb => Sys2Proof.Machine.execDeskMtgt c ra rb s
  | .deskMrd c rd ra => Sys2Proof.Machine.execDeskMrd c rd ra s
  | .deskCsrr c rd csr => Sys2Proof.Machine.execDeskCsrr c rd csr s
  | .deskCsrw c rb csr => Sys2Proof.Machine.execDeskCsrw c rb csr s
  | .deskLdx c rd ra imm => Sys2Proof.Machine.execDeskLdx c rd ra imm s
  | .deskStx c rb ra imm => Sys2Proof.Machine.execDeskStx c rb ra imm s
  | .deskTin c rd ra bind => Sys2Proof.Machine.execDeskTin c rd ra bind s
  | .deskTout c ra bind => Sys2Proof.Machine.execDeskTout c ra bind s
  | .deskHalt c => Sys2Proof.Machine.execDeskHalt c s
  | .memWrite e => Sys2Proof.Machine.execMemWrite e s
  | .memRead e strikes => Sys2Proof.Machine.execMemRead e strikes s
  | .drawerScrub c w err => Sys2Proof.Machine.execDrawerScrub c w err s
  | .shelfScrub ch line err raced stalled n => Sys2Proof.Machine.execShelfScrub ch line err raced stalled n s
  | .shelfRefresh ch stalled n => Sys2Proof.Machine.execShelfRefresh ch stalled n s
  | .drwClrCe c => Sys2Proof.Machine.execDrwClrCe c s
  | .drwClrUe c => Sys2Proof.Machine.execDrwClrUe c s
  | .shfClrCe ch => Sys2Proof.Machine.execShfClrCe ch s
  | .shfClrUe ch => Sys2Proof.Machine.execShfClrUe ch s
  | .tileCellRx src c parity => Sys2Proof.Machine.execTileCellRx src c parity s
  | .creditCellSend n => Sys2Proof.Machine.execCreditCellSend n s
  | .creditCellRx src c parity => Sys2Proof.Machine.execCreditCellRx src c parity s
  | .mlsIncCell src c => Sys2Proof.Machine.execMlsIncCell src c s
  | .cellRoute src vc parity => Sys2Proof.Machine.execCellRoute src vc parity s
  | .mcastCell src vc parity => Sys2Proof.Machine.execMcastCell src vc parity s
  | .noticeCell src c => Sys2Proof.Machine.execNoticeCell src c s
  | .fenceEntryWrite x chip valid => Sys2Proof.Machine.execFenceEntryWrite x chip valid s
  | .mcastFencedWrite g mask => Sys2Proof.Machine.execMcastFencedWrite g mask s
  | .routerCounterClear mask => Sys2Proof.Machine.execRouterCounterClear mask s
  | .frameTx l struck => Sys2Proof.Machine.execFrameTx l struck s
  | .frameRx l frame bad corr uncorr lossy => Sys2Proof.Machine.execFrameRx l frame bad corr uncorr lossy s
  | .replayTimeout l => Sys2Proof.Machine.execReplayTimeout l s
  | .nakRetryTimeout l => Sys2Proof.Machine.execNakRetryTimeout l s
  | .linkLightLost l lit => Sys2Proof.Machine.execLinkLightLost l lit s
  | .linkLightPresent l => Sys2Proof.Machine.execLinkLightPresent l s
  | .linkLockDone l => Sys2Proof.Machine.execLinkLockDone l s
  | .linkFecDone l => Sys2Proof.Machine.execLinkFecDone l s
  | .linkFrameDone l => Sys2Proof.Machine.execLinkFrameDone l s
  | .creditHandshake l ns => Sys2Proof.Machine.execCreditHandshake l ns s
  | .linkStageTimeout l => Sys2Proof.Machine.execLinkStageTimeout l s
  | .dark l on => Sys2Proof.Machine.execDark l on s
  | .retrain l => Sys2Proof.Machine.execRetrain l s
  | .linkCounterClear l mask => Sys2Proof.Machine.execLinkCounterClear l mask s
  | .waymarkSend l => Sys2Proof.Machine.execWaymarkSend l s
  | .waymarkRx l => Sys2Proof.Machine.execWaymarkRx l s
  | .electionRecompute stale => Sys2Proof.Machine.execElectionRecompute stale s
  | .discSettle => Sys2Proof.Machine.execDiscSettle s
  | .coll v parity => Sys2Proof.Machine.execColl v parity s
  | .pieceSend t k struck => Sys2Proof.Machine.execPieceSend t k struck s
  | .pieceMessage cells struck => Sys2Proof.Machine.execPieceMessage cells struck s
  | .collCredit c => Sys2Proof.Machine.execCollCredit c s
  | .abortCell c => Sys2Proof.Machine.execAbortCell c s
  | .enterCell c => Sys2Proof.Machine.execEnterCell c s
  | .collWatchdogFire t => Sys2Proof.Machine.execCollWatchdogFire t s
  | .lagClear => Sys2Proof.Machine.execLagClear s
  | .collCounterClear mask => Sys2Proof.Machine.execCollCounterClear mask s
  | .commitAttempt g => Sys2Proof.Machine.execCommitAttempt g s
  | .commitCell c => Sys2Proof.Machine.execCommitCell c s
  | .commitWatchdogFire g => Sys2Proof.Machine.execCommitWatchdogFire g s
  | .stepHalt g => Sys2Proof.Machine.execStepHalt g s
  | .resume g => Sys2Proof.Machine.execResume g s
  | .rollback g => Sys2Proof.Machine.execRollback g s
  | .forceFail g => Sys2Proof.Machine.execForceFail g s
  | .stepNumWrite g v => Sys2Proof.Machine.execStepNumWrite g v s
  | .failHoldExpiry chip => Sys2Proof.Machine.execFailHoldExpiry chip s
  | .failDeclare chip => Sys2Proof.Machine.execFailDeclare chip s
  | .failNotice => Sys2Proof.Machine.execFailNotice s
  | .fabricRoleWrite r => Sys2Proof.Machine.execFabricRoleWrite r s
  | .bucket v parity => Sys2Proof.Machine.execBucket v parity s
  | .bucketFinish t col parity => Sys2Proof.Machine.execBucketFinish t col parity s
  | .sampleMessage cells struck => Sys2Proof.Machine.execSampleMessage cells struck s
  | .publish v parity => Sys2Proof.Machine.execPublish v parity s
  | .gather v => Sys2Proof.Machine.execGather v s
  | .publicationMessage cells struck => Sys2Proof.Machine.execPublicationMessage cells struck s
  | .gradCounterClear mask => Sys2Proof.Machine.execGradCounterClear mask s
  | .planCtrlLoad => Sys2Proof.Machine.execPlanCtrlLoad s
  | .abandon load => Sys2Proof.Machine.execAbandon load s
  | .tollgateCheck => Sys2Proof.Machine.execTollgateCheck s
  | .quiescentPoint => Sys2Proof.Machine.execQuiescentPoint s
  | .activationCycle => Sys2Proof.Machine.execActivationCycle s
  | .commandAccept r entry => Sys2Proof.Machine.execCommandAccept r entry s
  | .nop r => Sys2Proof.Machine.execNop r s
  | .regWr r => Sys2Proof.Machine.execRegWr r s
  | .regRd r => Sys2Proof.Machine.execRegRd r s
  | .mlsInc r => Sys2Proof.Machine.execMlsInc r s
  | .mlsWait r => Sys2Proof.Machine.execMlsWait r s
  | .copyH2D r hseq data err stalls => Sys2Proof.Machine.execCopyH2D r hseq data err stalls s
  | .copyD2H r hseq n err stalls => Sys2Proof.Machine.execCopyD2H r hseq n err stalls s
  | .planLoad r => Sys2Proof.Machine.execPlanLoad r s
  | .budget r late => Sys2Proof.Machine.execBudget r late s
  | .snapshot r => Sys2Proof.Machine.execSnapshot r s
  | .fence r => Sys2Proof.Machine.execFence r s
  | .coalTimerExpiry n => Sys2Proof.Machine.execCoalTimerExpiry n s
  | .cmdRingRun r run => Sys2Proof.Machine.execCmdRingRun r run s
  | .cmdRingReset r => Sys2Proof.Machine.execCmdRingReset r s
  | .abortWaits r => Sys2Proof.Machine.execAbortWaits r s
  | .cplRingConfigWrite n base size seq => Sys2Proof.Machine.execCplRingConfigWrite n base size seq s
  | .put begins => Sys2Proof.Machine.execPut begins s
  | .get frame begins => Sys2Proof.Machine.execGet frame begins s
  | .conventionalReset data o => Sys2Proof.Machine.execConventionalReset data o s
  | .functionLevelReset data => Sys2Proof.Machine.execFunctionLevelReset data s
  | .getCert vendor type => Sys2Proof.Machine.execGetCert vendor type s
  | .getReport vendor type mask nonce => Sys2Proof.Machine.execGetReport vendor type mask nonce s
  | .fwWrite slot again => Sys2Proof.Machine.execFwWrite slot again s
  | .fwSeal slot again => Sys2Proof.Machine.execFwSeal slot again s
  | .setPref slot again => Sys2Proof.Machine.execSetPref slot again s
  | .commitSvn again => Sys2Proof.Machine.execCommitSvn again s
  | .enroll again load => Sys2Proof.Machine.execEnroll again load s
  | .debugUnlock again load => Sys2Proof.Machine.execDebugUnlock again load s
  | .measExtend idx again => Sys2Proof.Machine.execMeasExtend idx again s
  | .powerOn o => Sys2Proof.Machine.execPowerOn o s
  | .bootWatchdogExpiry o => Sys2Proof.Machine.execBootWatchdogExpiry o s
  | .rootLockLost o => Sys2Proof.Machine.execRootLockLost o s
  | .idleRequest => Sys2Proof.Machine.execIdleRequest s
  | .idleExit => Sys2Proof.Machine.execIdleExit s
  | .arm => Sys2Proof.Machine.execArm s
  | .cancel => Sys2Proof.Machine.execCancel s
  | .watchCommit d3 clkreq o => Sys2Proof.Machine.execWatchCommit d3 clkreq o s
  | .watchSample t light o => Sys2Proof.Machine.execWatchSample t light o s
  | .smbusAddressMatch addr window read o => Sys2Proof.Machine.execSmbusAddressMatch addr window read o s
  | .wakeNLow low held input o => Sys2Proof.Machine.execWakeNLow low held input o s
  | .pcieWake d0 o => Sys2Proof.Machine.execPcieWake d0 o s
  | .off => Sys2Proof.Machine.execOff s
  | .inputPowerLoss cut => Sys2Proof.Machine.execInputPowerLoss cut s
  | .moduleWithdrawal cut => Sys2Proof.Machine.execModuleWithdrawal cut s
  | .thermalTrip cut => Sys2Proof.Machine.execThermalTrip cut s
  | .snapshotRequest => Sys2Proof.Machine.execSnapshotRequest s
  | .snapshotComplete => Sys2Proof.Machine.execSnapshotComplete s
  | .faultRecordPost recent cycles => Sys2Proof.Machine.execFaultRecordPost recent cycles s
  | .clrFltLost => Sys2Proof.Machine.execClrFltLost s
  | .clrDrainDrop => Sys2Proof.Machine.execClrDrainDrop s
  | .rewind g outcome => Sys2Proof.Machine.execRewind g outcome s
  | .rewindDrainEnd g => Sys2Proof.Machine.execRewindDrainEnd g s
  | .fold u => Sys2Proof.Machine.execFold u s
  | .checkSeal u => Sys2Proof.Machine.execCheckSeal u s
  | .verify u => Sys2Proof.Machine.execVerify u s
  | .checkStateWrite u v => Sys2Proof.Machine.execCheckStateWrite u v s
  | .checkConfigWrite u reg v => Sys2Proof.Machine.execCheckConfigWrite u reg v s
  | .clrMismatch u => Sys2Proof.Machine.execClrMismatch u s
  | .append units bad => Sys2Proof.Machine.execAppend units bad s
  | .chestRead units reads => Sys2Proof.Machine.execChestRead units reads s
  | .chestOpen k bad again => Sys2Proof.Machine.execChestOpen k bad again s
  | .chestSeal k bad again => Sys2Proof.Machine.execChestSeal k bad again s
  | .erase k bad again => Sys2Proof.Machine.execErase k bad again s
  | .park k bad media again => Sys2Proof.Machine.execPark k bad media again s
  | .unpark k reads again => Sys2Proof.Machine.execUnpark k reads again s
  | .chestRewind k again => Sys2Proof.Machine.execChestRewind k again s
  | .format factory bad again => Sys2Proof.Machine.execFormat factory bad again s
  | .chestScrubPass reads bad => Sys2Proof.Machine.execChestScrubPass reads bad s
  | .chestCounterClear mask => Sys2Proof.Machine.execChestCounterClear mask s
  | .laserOff k off => Sys2Proof.Machine.execLaserOff k off s
  | .laserInsert k => Sys2Proof.Machine.execLaserInsert k s
  | .laserRemove k => Sys2Proof.Machine.execLaserRemove k s
  | .laserFault k => Sys2Proof.Machine.execLaserFault k s
  | .temperatureRefresh t => Sys2Proof.Machine.execTemperatureRefresh t s
  | .illegalInstruction c => Sys2Proof.Machine.execIllegalInstruction c s
  | .pcieLinkTraining rate width flit cfg => Sys2Proof.Machine.execPcieLinkTraining rate width flit cfg s
  | .doeInvalidRequest vendor type => Sys2Proof.Machine.execDoeInvalidRequest vendor type s

end Sys2Proof.Machine
end

