-- ==== Sys2Proof/Machine/Step.lean ====
section
/-!
DEFINITION. One step of the block: the command at the front of the queue takes effect with the queue's rest; with an empty queue one
tick of the cycle counters passes (RegCmds.lean). No row of the table spells a command in bits, so that no word places one.
-/

namespace Sys2Proof.Machine

/-- One step. -/
def step (s : State) : Host.Outcome State Fault Refusal :=
  match s.pending with
  | [] => .next (tick.run s)
  | c :: rest => exec c { s with pending := rest }

/-- The state with the command that a word spells in front of its queue: no row gives bits, and no word spells one. -/
def State.withFetchWord (s : State) (nbits w : Nat) : State :=
  match decodeTableWord nbits w with
  | some c => { s with pending := c :: s.pending }
  | none => s

end Sys2Proof.Machine
end

