-- ==== Sys2Proof/Safety.lean ====
section
/-!
DEFINITION. What statements about runs are written in: a safe step, the canonical form of the state, and frames, which say what a
command leaves as it was.
-/

namespace Sys2Proof.Machine

/-- A step that ends neither in a fault nor in a refusal. -/
def Safe (s : State) : Prop := ∃ t, step s = .next t

/-! The canonical form: equal contents are equal data. -/

/-- Keys strictly rising. -/
def Map.rising : Map → Bool
  | [] => true
  | (k, _) :: t => (t.all fun p => k < p.1) && Map.rising t

/-- Keys strictly rising, and no listed zero: the form of a bank. -/
def Map.wf (m : Map) : Bool := m.rising && m.all fun p => p.2 ≠ 0

/-- Memory, registers and banks are in their canonical form. -/
def Canonical (s : State) : Prop := Memory.wf s.mem = true ∧ s.regs.rising = true ∧ ∀ b : Bank, (s.bank b).wf = true

/-! Frames. -/

/-- The parts of the state beside registers, banks, memory and the queue of commands. -/
inductive Part where
  | free
  | allow
  | slots
  | progs
  | regions
  | insts
  | waitMsgs
  | vsyCells
  | sentCounts
  | takenCounts
  | exacts
  | earlyAborts
  | passes
  | commitCells
  | enters
  | detours
  | coords
  | failed
  | marks
  | vecs
  | desks
  | period
  | supply
  | selLate
  | faultSeq
  | seed
  | egress
  | rxBuf
  | copies
  | txq
  | cellIds
  | heldFrames
  | wire
  | admitted
  | pcie
  | pmPmes
  | doeObject
  | smb
  | fwBody
  | chestSys
  | places
  | stripes
  | faultDue
  | fibre
  | notices
  | inflight
  | hostOut
  | msix
  | readOut
  | doe
  | chest
  | bar4Log
  | alert
  | tripped
  | wakeLow
  | sclkPart
  deriving DecidableEq, Repr

/-- Two states agree on a part. -/
def Part.same (p : Part) (s t : State) : Prop :=
  match p with
  | .free => t.free = s.free
  | .allow => t.allow = s.allow
  | .slots => t.slots = s.slots
  | .progs => t.progs = s.progs
  | .regions => t.regions = s.regions
  | .insts => t.insts = s.insts
  | .waitMsgs => t.waitMsgs = s.waitMsgs
  | .vsyCells => t.vsyCells = s.vsyCells
  | .sentCounts => t.sentCounts = s.sentCounts
  | .takenCounts => t.takenCounts = s.takenCounts
  | .exacts => t.exacts = s.exacts
  | .earlyAborts => t.earlyAborts = s.earlyAborts
  | .passes => t.passes = s.passes
  | .commitCells => t.commitCells = s.commitCells
  | .enters => t.enters = s.enters
  | .detours => t.detours = s.detours
  | .coords => t.coords = s.coords
  | .failed => t.failed = s.failed
  | .marks => t.marks = s.marks
  | .vecs => t.vecs = s.vecs
  | .desks => t.desks = s.desks
  | .period => t.period = s.period
  | .supply => t.supply = s.supply
  | .selLate => t.selLate = s.selLate
  | .faultSeq => t.faultSeq = s.faultSeq
  | .seed => t.seed = s.seed
  | .egress => t.egress = s.egress
  | .rxBuf => t.rxBuf = s.rxBuf
  | .copies => t.copies = s.copies
  | .txq => t.txq = s.txq
  | .cellIds => t.cellIds = s.cellIds
  | .heldFrames => t.heldFrames = s.heldFrames
  | .wire => t.wire = s.wire
  | .admitted => t.admitted = s.admitted
  | .pcie => t.pcie = s.pcie
  | .pmPmes => t.pmPmes = s.pmPmes
  | .doeObject => t.doeObject = s.doeObject
  | .smb => t.smb = s.smb
  | .fwBody => t.fwBody = s.fwBody
  | .chestSys => t.chestSys = s.chestSys
  | .places => t.places = s.places
  | .stripes => t.stripes = s.stripes
  | .faultDue => t.faultDue = s.faultDue
  | .fibre => t.fibre = s.fibre
  | .notices => t.notices = s.notices
  | .inflight => t.inflight = s.inflight
  | .hostOut => t.hostOut = s.hostOut
  | .msix => t.msix = s.msix
  | .readOut => t.readOut = s.readOut
  | .doe => t.doe = s.doe
  | .chest => t.chest = s.chest
  | .bar4Log => t.bar4Log = s.bar4Log
  | .alert => t.alert = s.alert
  | .tripped => t.tripped = s.tripped
  | .wakeLow => t.wakeLow = s.wakeLow
  | .sclkPart => t.sclkPart = s.sclkPart

/-- What a command may touch: register keys (bit addresses in BAR0), cells of banks, bytes of device memory, and parts. -/
structure Foot where
  keys : Nat → Prop
  cells : Bank → Nat → Prop
  bytes : Nat → Prop
  parts : Part → Prop

/-- `t` agrees with `s` on everything that the footprint does not name, the queue of commands among it. -/
structure Frame (F : Foot) (s t : State) : Prop where
  queue : t.pending = s.pending
  regs : ∀ f : Field, ¬ F.keys f.key → t.get f = s.get f
  cells : ∀ b k, ¬ F.cells b k → t.rd b k = s.rd b k
  bytes : ∀ a, ¬ F.bytes a → t.byte a = s.byte a
  parts : ∀ p, ¬ F.parts p → p.same s t

/-- Two footprints together. -/
def Foot.or (F G : Foot) : Foot where
  keys k := F.keys k ∨ G.keys k
  cells b k := F.cells b k ∨ G.cells b k
  bytes a := F.bytes a ∨ G.bytes a
  parts p := F.parts p ∨ G.parts p

/-- A footprint without memory: registers by key, any cell of the banks, the parts. -/
def Foot.of (keys : Nat → Prop) (banks : List Bank) (parts : List Part) : Foot where
  keys := keys
  cells b _ := b ∈ banks
  bytes _ := False
  parts p := p ∈ parts

/-- Registers alone, named field by field. -/
def Foot.fields (l : List Field) : Foot := Foot.of (fun k => ∃ f ∈ l, k = f.key) [] []

/-- What a write leaves in a field by its access code (R2): `x` is what the write carries for the field. -/
def accessResult (acc : Access) (w old x : Nat) : Nat :=
  match acc with
  | .rw => x
  | .w1c => old &&& (2 ^ w - 1 - x)
  | .w1s => old ||| x
  | .ro | .wo | .rc => old

/-- The commands that do something, or may, on a chip that does not run: register accesses, the always-on and power events, the
laser units, the resets, and the security block, which answers in ROM recovery (R405, R426, R430, R497). -/
def alwaysOn : Instr → Bool
  | .registerWrite _ _ _ _ | .rcRead _ _ _ _ _ | .modeRequest _ | .pcieLinkTraining _ _ _ _ | .inputPowerLoss _
  | .moduleWithdrawal _ | .thermalTrip _ | .temperatureRefresh _ | .watchCommit _ _ _ | .watchSample _ _ _
  | .smbusAddressMatch _ _ _ _ | .wakeNLow _ _ _ _ | .pcieWake _ _ | .laserInsert _ | .laserRemove _ | .laserFault _
  | .powerOn _ | .conventionalReset _ _ | .bootWatchdogExpiry _ | .rootLockLost _ | .getCert _ _ | .getReport _ _ _ _
  | .fwWrite _ _ | .fwSeal _ _ | .setPref _ _ | .commitSvn _ | .enroll _ _ | .debugUnlock _ _ | .measExtend _ _
  | .doeInvalidRequest _ _ => true
  | _ => false

/-- The instructions of a vector program (R127, R130–R135). -/
def isVector : Instr → Bool
  | .vadd _ _ | .vsub _ _ | .vmul _ _ | .vfma _ _ | .vmax _ _ | .vmin _ _ | .vabs _ _ | .vneg _ _ | .vdot4 _ _ | .vdot2 _ _
  | .vrcp _ _ | .vrsqrt _ _ | .vexp2 _ _ | .vlog2 _ _ | .vdiv _ _ | .vsqrt _ _ | .vcmp _ _ | .vsel _ _ | .mand _ _
  | .mor _ _ | .mnot _ _ | .mpop _ _ | .vand _ _ | .vor _ _ | .vxor _ _ | .vshl _ _ | .vshr _ _ | .vsar _ _ | .vcvt _ _
  | .vmov _ _ | .vbrd _ _ | .vxb _ _ | .vrot _ _ | .vbcl _ _ | .vidx _ _ | .vrsum _ _ | .vrprod _ _ | .vrmax _ _
  | .vrmin _ _ | .vramax _ _ | .vramin _ _ | .vld _ _ | .vst _ _ | .vldh _ _ | .vseth _ _ | .vrng _ _ | .vout _ _
  | .vseta _ _ | .vadda _ _ | .vloop _ _ | .vend _ => true
  | _ => false

/-! Register blocks, by key. -/

/-- A register is in bytes `lo` up to `hi` of BAR0. -/
def inBytes (lo hi k : Nat) : Prop := lo * 8 ≤ k ∧ k < hi * 8

/-- Stream contexts (R30). -/
def streamKeys (k : Nat) : Prop := 0x03000000 * 8 ≤ k

/-- The context of one stream (R30). -/
def ctxKeys (n k : Nat) : Prop := inBytes (0x03000000 + 0x40 * n) (0x03000040 + 0x40 * n) k

/-- Milestones (R47). -/
def mlsKeys (k : Nat) : Prop := inBytes 0x02800000 0x02940000 k

/-- Command and completion rings and MSI-X (R386, R393). -/
def hostKeys (k : Nat) : Prop := inBytes 0x00100000 0x00102000 k ∨ inBytes 0x00E00000 0x00E01020 k

/-- Desk registers and desk state of the clusters (R138, R148). -/
def deskKeys (k : Nat) : Prop := ∃ c, c < 36 ∧ inBytes (0x01007008 + c * 0x10000) (0x01007200 + c * 0x10000) k

/-- Step registers of the graphs (R176, R177). -/
def stepKeys (k : Nat) : Prop := inBytes 0x200 0x400 k

/-- LEFT, error counters and error log of a memory station (R201, R207). -/
def memKeys (e k : Nat) : Prop :=
  (e < 0x120 ∧ inBytes (0x0100600C + e / 8 * 0x10000) (0x01006028 + e / 8 * 0x10000) k) ∨
  (0x130 ≤ e ∧ inBytes (0x0210000C + (e - 0x130) * 0x1000) (0x02100028 + (e - 0x130) * 0x1000) k)

/-- The commit flags of the graphs' attempts: sources seen and classes (R177). -/
def flagKeys (k : Nat) : Prop := ∃ g, k = (Reg.GLB_STEP_FLAGS_SRC g).key ∨ k = (Reg.GLB_STEP_FLAGS_LOCAL g).key

/-- Control and status of a station (R59). -/
def stationKeys (e k : Nat) : Prop := inBytes (Reg.stnPage e) (Reg.stnPage e + 8) k

/-! Footprints of the shared operations. -/

/-- What the completion of a host command reaches: rings, posted entries, interrupts (R383–R394). -/
def Foot.hostDone : Foot :=
  Foot.of hostKeys [.cplPhase, .cplSince, .resetAsked] [.inflight, .hostOut, .msix]

/-- What a change of a milestone reaches: the milestone, the interrupt, the waiting desks and host commands, the commit attempt that
it starts, and MILESTONE_OVERFLOW of a stream of `ns` (R49–R53, R178). -/
def Foot.milestone (ns : List Nat) : Foot :=
  Foot.or Foot.hostDone (Foot.of (fun k => mlsKeys k ∨ deskKeys k ∨ ∃ n ∈ ns, ctxKeys n k) [.commitDue] [.desks])

/-- What the tiles of a firing reach: streams and slots, milestones, cells to the router, the budget, and the sticky flags with the
commit sources they raise (R26, R33–R36, R40, R158, R177). -/
def Foot.tiles (ns : List Nat) : Foot :=
  Foot.or (Foot.milestone ns) (Foot.of flagKeys [.rxSeq, .tilesSince, .stepTile, .begun, .fireLen] [.slots, .egress, .allow])

/-- A whole firing of a station: its tiles and its own status (R36, R59). -/
def Foot.firing (e : Nat) (ns : List Nat) : Foot := Foot.or (Foot.tiles ns) (Foot.of (stationKeys e) [.runAlt] [])

/-- A firing of a memory station: its tiles, its registers, NEXT_DIRTY of its graph, the marks of struck check units, and `n` bytes
from `lo` (R174, R202). -/
def Foot.memory (e : Nat) (ns : List Nat) (g lo n : Nat) : Foot :=
  Foot.or (Foot.firing e ns) {
    keys := fun k => memKeys e k ∨ k = (Reg.GLB_STEP_STATE_NEXT_DIRTY g).key
    cells := fun b _ => b = .drwErr ∨ b = .shfErr
    bytes := fun x => lo ≤ x ∧ x < lo + n
    parts := fun p => p = .faultDue }

/-- What a firing of bench `b` of cluster `c` reaches beside its tiles: what is loaded, the check counters and FAIL_INFO, the rows that are
left, the accumulator, what overlaps, and the event of a failed check (R97–R117, R477). -/
def Foot.bench (c b : Nat) : Foot :=
  Foot.of (fun k => inBytes (0x01000018 + c * 0x10000 + b * 0x1000) (0x01000048 + c * 0x10000 + b * 0x1000) k ∨
      k = (Reg.CLU_BENCH_HSTATUS_STEP_IDX_H c b).key)
    [.stationary, .statExp, .lastFire, .streamRow, .runAlt, .accRow, .accPoison, .fireLen] [.allow, .faultDue]

/-- What ENABLE = 0 of a LINK station takes from its link: the data cells of its unacknowledged frames, with the count of the lost, and
what is queued for it (R64, R255). -/
def Foot.linkStop (l : Nat) : Foot :=
  Foot.of (fun k => k = (Reg.LNK_COUNTER_COUNT l 5).key ∨ k = (Reg.LNK_COUNTER_OVF l 5).key) []
    [.heldFrames, .txq, .copies, .rxBuf, .egress]

/-- The residual counts that an abort of a station returns to 0, with the place of its run, the second half of a split bench, and what
the end of a desk firing shows (R61, R116, R201). -/
def Foot.leftOf (e : Nat) : Foot :=
  Foot.of (fun k => k = (Reg.CLU_BENCH_LEFT_L_ROWS (e / 8) (e % 8)).key ∨ k = (Reg.CLU_BENCH_LEFT_H_ROWS (e / 8) (e % 8)).key ∨
      k = (Reg.CLU_BENCH_HSTATUS_STEP_IDX_H (e / 8) (e % 8)).key ∨ k = (Reg.CLU_DRW_LEFT_RECORDS (e / 8)).key ∨
      k = (Reg.SHF_LEFT_RECORDS (e - 0x130)).key ∨ k = Reg.CHS_LEFT_RECORDS.key ∨ ∃ g, k = (Reg.GLB_STEP_STATE_IDLE g).key)
    [.runAlt, .streamRow, .abortDue] []

/-! The vector engine. -/

/-- A vector instruction of cluster `c`: its destination, cell `k` of bank `b`, the engine's state, the flags of the firing's streams with
the sources they raise (R131), and the allowance of the firing (R40). -/
def Foot.vec (c : Nat) (b : Bank) (k : Nat) (ns : List Nat) : Foot where
  keys x := inBytes (0x01004008 + c * 0x10000) (0x01004010 + c * 0x10000) x ∨ flagKeys x ∨ ∃ n ∈ ns, ctxKeys n x
  cells b' k' := (b' = b ∧ k' = k) ∨ b' = .fireLen
  bytes _ := False
  parts p := p = .vecs ∨ p = .allow

/-- The state of cluster `c`'s vector engine and its allowance alone. -/
def Foot.engine (c : Nat) : Foot :=
  Foot.of (inBytes (0x01004008 + c * 0x10000) (0x01004010 + c * 0x10000)) [.fireLen] [.vecs, .allow]

/-- The firing goes on: its clock has risen, and what it has run since it last paid is charged to its graph's vector-time allowance
(R40, R122). -/
def VecPaid (c : Nat) (v : VecFiring) (s t : State) : Prop :=
  ∃ v', t.vec c = some v' ∧ v.clock < v'.clock ∧ v'.paid = v'.clock ∧
    (v.alt.streams ≠ [] → t.allowance (allowKey (vecEp c) 0 v.graph) =
      s.allowance (allowKey (vecEp c) 0 v.graph) - ((v'.clock - v.paid : Nat) : Int))

/-- What a vector instruction leaves apart from its result: all but its footprint, its cycles are charged, and the next instruction
follows unless a loop is open. -/
def VecStep (c : Nat) (v : VecFiring) (b : Bank) (k : Nat) (s t : State) : Prop :=
  Frame (Foot.vec c b k v.alt.streams) s t ∧ VecPaid c v s t ∧
  (v.loops = [] → t.get (Reg.CLU_VEC_STATE_PC c) = (s.get (Reg.CLU_VEC_STATE_PC c) + 1) % 2 ^ 11)

/-- Element by element, VD holds `f` where the element is active, 0 or its old value by MZ where it is masked off, and its old value
where the instruction does not name it (R120, R127, R128). -/
def VecOut (c : Nat) (i : VInsn) (w : Nat) (named : Nat → Bool) (f : Nat → Nat) (s t : State) : Prop :=
  ∀ e < 8192 / w, bits (t.vreg1 c i.vd.toNat) (e * w) w =
    if named e = false then bits (s.vreg1 c i.vd.toNat) (e * w) w
    else if bitAt (s.activeBits c i (8192 / w)) e then f e % 2 ^ w
    else if i.mz then 0 else bits (s.vreg1 c i.vd.toNat) (e * w) w

/-- A vector instruction of cluster `c` completes with VD as `VecOut` says. -/
def VecRuns (cmd : Instr) (c : Nat) (v : VecFiring) (i : VInsn) (w : Nat) (named : Nat → Bool) (f : Nat → Nat) (s : State) : Prop :=
  ∃ t, exec cmd s = .next t ∧ VecOut c i w named f s t ∧ VecStep c v .vreg (32 * c + i.vd.toNat) s t

/-- The tile of output binding `b` of a vector firing as VEND completes it (R124). -/
def VecFiring.outTile (v : VecFiring) (b : Nat) : Tile :=
  Tile.of ((v.heads[b]?).getD 0) ((v.bufs[b]?).getD 0 % 2 ^ (8 * hPayloadLen ((v.heads[b]?).getD 0)))

/-! The cluster desk. -/

/-- The desk of cluster `c` runs a script and takes its next instruction at word `pc` (R141, R142). -/
structure DeskRuns (c : Nat) (d : DeskFiring) (pc : Nat) (s : State) : Prop where
  on : s.running = true
  firing : s.desk c = some d
  enabled : s.get (Reg.STN_CTRL_ENABLE (deskEp c)) = 1
  noWait : d.wait = none
  awake : s.get Reg.PWR_STATE_STATUS_STATE = 0
  at' : s.get (Reg.CLU_DESK_STATE_PC c) = pc
  inside : 0x1000 ≤ pc

/-- The desk of cluster `c` stopped with a fault (R147, R477): the cause and word address stand in the record and an event waits for its
own, unless one was held; the firing is gone, the station is disabled, and nothing changes but what an abort of the station reaches. -/
structure DeskFaulted (c cause pc : Nat) (s t : State) : Prop where
  gone : t.desk c = none
  run : t.get (Reg.CLU_DESK_STATE_RUN c) = 4
  valid : t.get (Reg.CLU_DESK_FAULT_VALID c) = 1
  record : s.get (Reg.CLU_DESK_FAULT_VALID c) = 0 →
    t.get (Reg.CLU_DESK_FAULT_CAUSE c) = cause ∧ t.get (Reg.CLU_DESK_FAULT_PC c) = pc % 2 ^ 14
  due : s.get (Reg.CLU_DESK_FAULT_VALID c) = 0 →
    ⟨12, deskEp c, s.chipId, ((s.desk c).map fun d => deskGraph d.alt.op).getD 0, cause + pc <<< 4⟩ ∈ t.faultDue
  disabled : t.get (Reg.STN_CTRL_ENABLE (deskEp c)) = 0
  frame : Frame (Foot.or (Foot.firing (deskEp c) (s.heldStreams (deskEp c) ++ s.boundStreams (deskEp c)))
    (Foot.or (Foot.leftOf (deskEp c)) (Foot.of (fun _ => False) [] [.faultDue]))) s t

/-- A desk instruction of cluster `c` completes: RD takes `v`, which a write to s0 discards, and the next word follows. -/
def DeskGives (cmd : Instr) (c pc : Nat) (rd : BitVec 6) (v : Nat) (s : State) : Prop :=
  ∃ t, exec cmd s = .next t ∧ t.sreg c rd.toNat = (if rd = 0 then 0 else v % 2 ^ 32) ∧
    t.get (Reg.CLU_DESK_STATE_PC c) = (pc + 1) % 2 ^ 14 ∧
    Frame (Foot.fields [Reg.CLU_DESK_SREG_VALUE c rd.toNat, Reg.CLU_DESK_STATE_PC c]) s t

/-! The router. -/

/-- A cell was dropped for reason `i` (R242): its counter rises, to at most 2^48 − 1, and the log takes it unless it holds a record, and an event
then waits for its own (R477). -/
structure Dropped (i : Nat) (src : Option Nat) (c : Cell) (s t : State) : Prop where
  counted : t.get (Reg.LNK_RT_COUNTER_COUNT i) = min (s.get (Reg.LNK_RT_COUNTER_COUNT i) + 1) (2 ^ 48 - 1)
  logged : s.get Reg.LNK_DROP_LOG_VALID = 0 → t.get Reg.LNK_DROP_LOG_VALID = 1 ∧ t.get Reg.LNK_DROP_LOG_REASON = i ∧
    t.get Reg.LNK_DROP_LOG_DEST = c.dest.toNat ∧ t.get Reg.LNK_DROP_LOG_ENDPT = c.endpt.toNat ∧
    t.get Reg.LNK_DROP_LOG_KIND = c.kind.toNat ∧ t.get Reg.LNK_DROP_LOG_TRANSIT = if src.isSome then 1 else 0
  due : s.get Reg.LNK_DROP_LOG_VALID = 0 →
    ⟨13, (src.map fun l => 0x140 + l).getD 0x1F0, c.dest.toNat, 0, i + (if src.isSome then 1 else 0) <<< 4⟩ ∈ t.faultDue

/-- The registers that counting and logging a drop reaches. -/
def dropKeys (i k : Nat) : Prop :=
  k = (Reg.LNK_RT_COUNTER_COUNT i).key ∨ k = (Reg.LNK_RT_COUNTER_OVF i).key ∨ inBytes 0x02040100 0x02040108 k

/-- What counting and logging a drop reaches. -/
def Foot.drop (i : Nat) : Foot := Foot.of (dropKeys i) [] [.faultDue]

/-- A cell that comes by a link while a plan activates waits in the link's receive buffer (R357). -/
def State.holdsCell (s : State) (l : Link) (c : Cell) (parity : Bool) : State :=
  { s with rxBuf := s.rxBuf ++ [⟨s.cellIds, l.val, { c with poison := c.poison || parity }⟩], cellIds := s.cellIds + 1 }

/-! Dolte links. -/

/-- A frame left on link `l` with these cells and this trailer (R223, R245): its bytes, and the codewords that the stream then completes,
striped on the lanes. -/
structure LineSent (l : Nat) (cells : List Cell) (tr : Trailer) (s t : State) : Prop where
  wire : t.wire = s.wire ++ [(l, frameBytes (cells ++ List.replicate (16 - cells.length) padCell) tr)]
  fibre : ∃ ms : List Nat, t.fibre = s.fibre ++ ms.map fun m => (l, stripe (rsCodeword m))

/-- What sending a frame on a link reaches: the line's coding, what is on the fibre, and the NAK that the frame carries. -/
def Foot.line (l : Nat) : Foot where
  keys _ := False
  cells b k := (b = .scram ∨ b = .lineBits ∨ b = .nakDue) ∧ k = l
  bytes _ := False
  parts p := p = .wire ∨ p = .fibre

/-- What a change of a link's bring-up state reaches: the link's state, and the stage of start-up. -/
def Foot.linkState (l : Nat) : Foot where
  keys k := k = (Reg.LNK_STATE_STATE l).key ∨ k = (Reg.LNK_STATE_CAUSE l).key ∨ k = Reg.GLB_BOOT_STATUS_STAGE.key
  cells b k := (b = .crSteps ∨ b = .crinitLeft) ∧ k = l
  bytes _ := False
  parts _ := False

/-- What a fall of a link reaches: its state, its peer record, its counter of lost cells, all it was about to send or to have acknowledged,
and the notice with its event (R250). -/
def Foot.linkFall (l : Nat) : Foot :=
  Foot.or (Foot.linkState l) {
    keys := fun k => k ∈ [(Reg.LNK_STATE_DOWN_REASON l).key, (Reg.LNK_STATE_PLAN_DIFF l).key, (Reg.LNK_PEER_INFO_VALID l).key,
      (Reg.LNK_COUNTER_COUNT l 5).key, (Reg.LNK_COUNTER_OVF l 5).key]
    cells := fun b k => b ∈ [.replayLeft, .replayAseq, .replayFails, .nakDue, .nakHold] ∧ k = l
    bytes := fun _ => False
    parts := fun p => p ∈ [.heldFrames, .txq, .copies, .rxBuf, .egress, .notices, .faultDue] }

/-- Link `l`, which had passed the handshake, fell to state `st` for a reason (R250): its peer record is cleared, what awaited an
acknowledgement is gone, and a notice with its event is there. -/
structure Fell (l st why : Nat) (s t : State) : Prop where
  state : t.get (Reg.LNK_STATE_STATE l) = st
  reason : t.get (Reg.LNK_STATE_DOWN_REASON l) = why
  peer : t.get (Reg.LNK_PEER_INFO_VALID l) = 0
  held : t.heldFrames = s.heldFrames.filter fun h => h.link ≠ l
  queue : ∀ q ∈ t.txq, q.link ≠ l
  notice : t.notices = s.notices ++ [s.linkNotice 0x03 l why]
  due : t.faultDue.length = s.faultDue.length + 1

/-- The stage of start-up follows the links (R414): stage 7 gives way once every lit link is past the handshake or retries. -/
def Staged (s t : State) : Prop :=
  t.get Reg.GLB_BOOT_STATUS_STAGE = if s.get Reg.GLB_BOOT_STATUS_STAGE = 7 ∧ t.linksUp = true
    then (if s.get Reg.LNK_DISC_STABLE = 1 then 9 else 8) else s.get Reg.GLB_BOOT_STATUS_STAGE

/-- What a frame from the far end reaches: the error counters, the credits, the replay state, and the receive buffer (R225, R251, R252). -/
def Foot.frameRx (l : Nat) : Foot where
  keys k := ∃ i ∈ [0, 1, 2, 3, 6], k = (Reg.LNK_COUNTER_COUNT l i).key ∨ k = (Reg.LNK_COUNTER_OVF l i).key
  cells b k := (b ∈ [.fexpect, .nakHold, .nakDue, .replayLeft, .replayAseq, .replayFails] ∧ k = l) ∨ b = .portLast ∨
    (b ∈ [.txCred, .lastCr, .rxRel] ∧ k / 8 = l)
  bytes _ := False
  parts p := p ∈ [.heldFrames, .copies, .txq, .rxBuf, .cellIds]

/-! What a firing does with its tiles (R33–R36). -/

/-- A tile was produced on stream `n`: NEXT_SEQ advances, a credit is taken, and the tile stands in a slot of an on-chip
destination, or its cells wait for the router. -/
structure Emitted (s t : State) (n : Nat) (x : Tile) : Prop where
  seq : t.get (Reg.STR_NEXT_SEQ n) = seqNext (s.get (Reg.STR_NEXT_SEQ n))
  credit : t.get (Reg.STR_CREDITS n) = s.get (Reg.STR_CREDITS n) - 1
  onChip : s.get (Reg.STR_REMOTE n) = 0 → wholeSlot n (s.get (Reg.STR_NEXT_SEQ n)) x ∈ t.slots
  across : s.get (Reg.STR_REMOTE n) = 1 → ⟨some (s.get (Reg.STR_GRAPH n)), false, s.tileCells n x⟩ ∈ t.egress

/-- The next tile of stream `n` was consumed: its slot is free, the stream moves on, the tile is counted, the watchdog starts
again, and on chip the credit is back. -/
structure Consumed (s t : State) (n : Nat) : Prop where
  freed : ∀ x ∈ t.slots, x.stream = n → x.seq ≠ s.nextIn n
  next : t.nextIn n = seqNext (s.nextIn n)
  done : t.get (Reg.STR_TILES_DONE n) = (s.get (Reg.STR_TILES_DONE n) + 1) % 2 ^ 32
  watch : t.get (Reg.STR_WD_COUNT n) = 0
  credit : s.get (Reg.STR_REMOTE n) = 0 →
    t.get (Reg.STR_CREDITS n) = min (s.get (Reg.STR_CREDITS n) + 1) (s.get (Reg.STR_CREDIT_MAX n))

/-- Whether an input tile of an alternative is poisoned (R26). -/
def State.poisonedIn (s : State) (a : Alt) : Bool := a.inputs.any fun n => hPoison (s.inputD n).head

/-- The tile as an alternative sends it on stream `n`: poisoned by its inputs, stamped with SEQ, STEP and ORIGIN (R26, R84). -/
def State.sent (s : State) (a : Alt) (n : Nat) (x : Tile) : Tile :=
  (x.withPoison (s.poisonedIn a)).stamp (s.get (Reg.STR_NEXT_SEQ n)) (s.stepNum (s.altGraph a)) s.chipId

/-- An alternative fired with these outputs: they are sent, its inputs are consumed, poison reaches its streams, and the slots of
other streams are as they were. -/
structure Moved (a : Alt) (outs : List (Nat × Tile)) (s t : State) : Prop where
  sent : ∀ o ∈ outs, Emitted s t o.1 (s.sent a o.1 o.2)
  consumed : ∀ n ∈ a.inputs, Consumed s t n
  poison : s.poisonedIn a = true → ∀ n ∈ a.streams, t.get (Reg.STR_POISONED n) = 1
  others : ∀ x : Slot, x.stream ∉ a.streams → (x ∈ t.slots ↔ x ∈ s.slots)

/-- The station went on to the step that its program names next (R36). -/
def Advanced (e : Nat) (s t : State) : Prop :=
  ∀ st, s.curStep e 0 = some st → t.get (Reg.STN_STATUS_STEP_IDX e) = st.next % 2 ^ 16

/-- A whole firing of station `e` on an alternative. -/
structure Fired (e : Nat) (a : Alt) (outs : List (Nat × Tile)) (s t : State) : Prop where
  moved : Moved a outs s t
  advanced : Advanced e s t

/-- BAD_HEADER rose on stream `n`, and the event waits for its record (R25, R477). -/
def State.rejected (s : State) (n : Nat) : State :=
  (Upd.faultDue (s.faultDue ++ [⟨1, s.streamStation n, s.streamChip n, s.get (Reg.STR_GRAPH n), n + 3 <<< 18⟩])).apply
    (s.set (Reg.STR_BAD_HEADER n) 1)

/-! Collectives. -/

/-- The error registers of memory MEM (R207). -/
def errKeys (mem k : Nat) : Prop :=
  if mem < 64 then inBytes (0x0100600C + mem * 0x10000) (0x01006028 + mem * 0x10000) k
  else inBytes (0x0210000C + (mem - 64) * 0x1000) (0x02100028 + (mem - 64) * 0x1000) k

/-- What a Vusyn station's work for descriptor `t` reaches: the tiles of streams `ns`, the instance with its milestone, the errors of the
regions that it reads, and named bytes of memory (R279–R291). -/
def Foot.vusyn (s : State) (t : Nat) (ns : List Nat) (bytes : Nat → Prop) : Foot :=
  Foot.or (Foot.tiles ns) {
    keys := fun k => k = (Reg.VSY_DESC_STATE t).key ∨
      ∃ p ∈ [s.get (Reg.VSY_DESC_WORK t), s.get (Reg.VSY_BUCKET_ERR t)], ∃ r, s.region p = some r ∧ errKeys r.mem k
    cells := fun b _ => b ∈ [.drwErr, .shfErr, .playWork]
    bytes := bytes
    parts := fun p => p ∈ [.insts, .exacts, .faultDue] }

/-- The bytes of elements `l` in the WORK region of descriptor `t` (R280). -/
def State.inWork (s : State) (t : Nat) (l : List Nat) (x : Nat) : Prop :=
  ∃ r, s.region (s.get (Reg.VSY_DESC_WORK t)) = some r ∧ ∃ i ∈ l,
    memBase r.mem + r.base + workBytes (s.geo t).et * i ≤ x ∧
    x < memBase r.mem + r.base + workBytes (s.geo t).et * i + workBytes (s.geo t).et

/-- Element `i` of actor `a` holds word `w` in `t`: in the WORK region of descriptor `tag`, or in the store of the position it plays
(R280, R306). -/
def State.workHolds (s t : State) (tag a i w : Nat) : Prop :=
  (a = 0 → ∀ r b, s.region (s.get (Reg.VSY_DESC_WORK tag)) = some r → b < workBytes (s.geo tag).et →
    t.byte (memBase r.mem + r.base + workBytes (s.geo tag).et * i + b) = BitVec.ofNat 8 (w >>> (8 * b))) ∧
  (a ≠ 0 → t.rd .playWork (2 ^ 32 * tag + i) = w)

/-- The contribution tile of stream `i` was staged behind `done` elements (R279, R285, R296): its elements stand in WORK, it is consumed,
and poison or a parity error poisons the elements and the streams. -/
structure TileStaged (tag : Nat) (flush : Bool) (streams : List Nat) (done i : Nat) (parity : Bool) (s t : State) : Prop where
  consumed : Consumed s t i
  words : ∀ j < (tileElems (s.geo tag).et (s.inputD i)).length,
    s.workHolds t tag 0 ((s.contribution (s.geo tag)).1 + done + j)
      (stageWord (s.geo tag).et flush (s.tileExp (s.inputD i).head) ((tileElems (s.geo tag).et (s.inputD i)).getD j 0)).1
  counted : ∀ y, t.inst tag = some y → y.staged = done + (tileElems (s.geo tag).et (s.inputD i)).length
  poisoned : (hPoison (s.inputD i).head || parity) = true → (∀ n ∈ streams, t.get (Reg.STR_POISONED n) = 1) ∧
    ∀ y, t.inst tag = some y → ∀ j < (tileElems (s.geo tag).et (s.inputD i)).length,
      (0, (s.contribution (s.geo tag)).1 + done + j, 1) ∈ y.poisoned
  source : parity = true → s.get (Reg.VSY_DESC_VALID tag) = 1 → bitAt (t.get (Reg.GLB_STEP_FLAGS_SRC (s.descGraph tag))) 8 = true

/-- An instance of descriptor `tag` with streams `streams` and number `num` ended as the abort `p` says (R293, R294, R313, R477). -/
structure InstAborted (tag num p : Nat) (streams : List Nat) (s t : State) : Prop where
  gone : t.inst tag = none
  state : t.get (Reg.VSY_DESC_STATE tag) = 2
  counted : t.get (Reg.VSY_CNT_COUNT 0) = min (s.get (Reg.VSY_CNT_COUNT 0) + 1) (2 ^ 48 - 1)
  streams : ∀ n ∈ streams, t.get (if bits p 112 8 = 3 then Reg.STR_ABORTED n else Reg.STR_SIG_MISMATCH n) = 1
  code : s.get (Reg.MLS_STATUS_CODE (s.get (Reg.VSY_DESC_MLS_DONE tag))) = 0 →
    t.get (Reg.MLS_STATUS_CODE (s.get (Reg.VSY_DESC_MLS_DONE tag))) = if bits p 112 8 = 3 then codeAborted else codeSigMismatch
  logged : s.get Reg.VSY_ABORT_LOG_VALID = 0 → t.get Reg.VSY_ABORT_LOG_VALID = 1 ∧ t.get Reg.VSY_ABORT_LOG_TAG = tag % 4096 ∧
    t.get Reg.VSY_ABORT_LOG_REASON = bits p 112 8 % 4 ∧ t.get Reg.VSY_ABORT_LOG_RANK = bits p 160 24 ∧
    t.get Reg.VSY_ABORT_LOG_EPOCH = bits p 96 16
  recorded : (tag, num, p) ∈ t.earlyAborts
  due : ⟨9, s.descEndpt tag, bits p 128 24, s.descGraph tag, tag + bits p 112 8 % 4 <<< 12⟩ ∈ t.faultDue

/-- What an abort of an instance with streams `ns` reaches, its forwarding too (R293, R294). -/
def Foot.abort (t : Nat) (ns : List Nat) : Foot :=
  Foot.or (Foot.milestone ns)
    (Foot.of (fun k => k = (Reg.VSY_DESC_STATE t).key ∨ k = (Reg.VSY_CNT_COUNT 0).key ∨ k = (Reg.VSY_CNT_OVF 0).key ∨
      inBytes 0x02240080 0x02240088 k) [] [.insts, .exacts, .waitMsgs, .takenCounts, .egress, .earlyAborts, .faultDue])

/-- What acting on a message for descriptor `t` reaches, whatever its verdict: its combining, an abort, and the credit that releases it
(R290, R291). -/
def Foot.settled (s : State) (t : Nat) (ns : List Nat) (bytes : Nat → Prop) : Foot :=
  Foot.or (Foot.or (Foot.vusyn s t ns bytes) (Foot.abort t ns)) (Foot.of (fun k => ∃ i ∈ [1, 2], k = (Reg.VSY_CNT_COUNT i).key ∨
    k = (Reg.VSY_CNT_OVF i).key) [] [.vsyCells])

/-- A message that leaves a station's waiting messages is released (R290): one from another chip returns a CREDIT cell. -/
def Released (m : PieceMsg) (s t : State) : Prop :=
  phChip m.head.toNat ≠ s.chipId → ∃ q ∈ t.egress, ∃ c ∈ q.cells, c.kind = 2#5 ∧ c.dest = BitVec.ofNat 24 (phChip m.head.toNat) ∧
    c.endpt = m.endpt ∧ c.stream = m.stream

/-- The lateness window and the laggard (R311, R313). -/
def lagKeys (k : Nat) : Prop := inBytes 0x02240108 0x02240110 k ∨ inBytes 0x02270000 0x02274000 k

/-- What entering an instance reaches beside its first tile (R279, R294, R311). -/
def Foot.enter (t : Nat) (ns : List Nat) : Foot :=
  Foot.or (Foot.abort t ns)
    (Foot.of (fun k => lagKeys k ∨ k ∈ [(Reg.VSY_DESC_INST t).key, (Reg.VSY_BKT_STAT_SAMPLES t).key, (Reg.VSY_BKT_STAT_PLAYING t).key])
      [.playWork] [.enters, .sentCounts])

/-! Commits. -/

/-- A commit attempt of graph `g` ended with outcome `o`, combined classes `cls` and sources `src` (R178, R180, R181, R477). -/
structure AttemptEnded (g o cls src : Nat) (s t : State) : Prop where
  outcome : t.get (Reg.GLB_STEP_STATE_LAST_OUTCOME g) = o % 8
  ended : t.get (Reg.GLB_STEP_STATE_IN_COMMIT g) = 0
  combined : t.get (Reg.GLB_STEP_FLAGS_LAST_COMBINED g) = cls % 16
  sources : t.get (Reg.GLB_STEP_FLAGS_LAST_SRC g) = src
  cleared : t.get (Reg.GLB_STEP_FLAGS_LOCAL g) = 0 ∧ t.get (Reg.GLB_STEP_FLAGS_SRC g) = 0 ∧ t.get (Reg.GLB_STEP_STATE_NEXT_DIRTY g) = 0
  step : t.get (Reg.GLB_STEP_NUM_STEP g) =
    if o = outPass ∨ o = outSkip then (s.get (Reg.GLB_STEP_NUM_STEP g) + 1) % 2 ^ 32 else s.get (Reg.GLB_STEP_NUM_STEP g)
  half : t.get (Reg.GLB_STEP_STATE_CUR_HALF g) =
    if o = outPass then 1 - s.get (Reg.GLB_STEP_STATE_CUR_HALF g) else s.get (Reg.GLB_STEP_STATE_CUR_HALF g)
  halted : t.get (Reg.GLB_STEP_STATE_HALTED g) = if o = outPass ∨ o = outSkip ∨ o = outRerun then s.get (Reg.GLB_STEP_STATE_HALTED g) else 1
  attempt : t.get (Reg.GLB_STEP_STATE_ATTEMPT g) = if o = outPass ∨ o = outSkip then 0
    else if o = outRerun then min (s.get (Reg.GLB_STEP_STATE_ATTEMPT g) + 1) 255 else s.get (Reg.GLB_STEP_STATE_ATTEMPT g)
  passes : o = outPass → t.get (Reg.GLB_STEP_PASSES_COUNT g) = min (s.get (Reg.GLB_STEP_PASSES_COUNT g) + 1) (2 ^ 48 - 1)
  skips : o = outSkip → t.get (Reg.GLB_STEP_SKIPS_COUNT g) = min (s.get (Reg.GLB_STEP_SKIPS_COUNT g) + 1) (2 ^ 48 - 1)
  reruns : o = outRerun → t.get (Reg.GLB_STEP_RERUNS_COUNT g) = min (s.get (Reg.GLB_STEP_RERUNS_COUNT g) + 1) (2 ^ 48 - 1)
  marked : o ≠ outHalt → s.get (Reg.GLB_STEP_CFG_ENABLE g) = 1 → ∃ m ∈ t.marks, m.graph = g
  done : t.get (Reg.MLS_ENTRY_COUNT (s.get (Reg.GLB_STEP_GROUP_DONE_MLS g))) =
    min (s.get (Reg.MLS_ENTRY_COUNT (s.get (Reg.GLB_STEP_GROUP_DONE_MLS g))) + 1) 0xFFFFFFFF
  due : o = outSkip ∨ o = outRerun → ⟨10, 0x1F0, s.chipId, g, o + src <<< 4⟩ ∈ t.faultDue

/-- What a commit attempt of graph `g` reaches: its step registers and scale slots, its passes and cells, marks, bucket status, DONE_MLS,
and a snapshot (R178, R298–R300). -/
def Foot.commit (g : Nat) : Foot :=
  Foot.or (Foot.milestone [])
    (Foot.of (fun k => inBytes (0x200 + 0x40 * g) (0x240 + 0x40 * g) k ∨ inBytes 0x80000 0xC0000 k ∨ inBytes 0x022E0000 0x022E4000 k ∨
        k = Reg.CNT_SNAP_STATUS_PENDING.key ∨ k = Reg.CNT_RECOV_STATUS_BUSY.key ∨ k = (Reg.VSY_CNT_COUNT 3).key ∨
        k = (Reg.VSY_CNT_OVF 3).key)
      [.aDone, .aOut, .stepTile, .vecOrd, .nanFresh, .shadow, .draining] [.passes, .commitCells, .egress, .marks, .faultDue])

/-! Bigefel. -/

/-- A SEC command completed with a status code, BUSY where SEC_CMD was written in the course of it, and SEC_STATE and SEC_FW_INFO report
what slots, metadata, fuses and keys hold (R404, R418, R419). -/
structure SecEnds (code : Nat) (again : Bool) (s t : State) : Prop where
  done : t.get Reg.SEC_CMD_STATUS_DONE = 1
  code : t.get Reg.SEC_CMD_STATUS_CODE = if again then secBusy else code
  other : t.get Reg.SEC_STATE_OTHER_VALID = b2n (t.slotValid (1 - s.get Reg.SEC_STATE_BOOT_SLOT))
  version : t.get Reg.SEC_FW_INFO_OTHER_VERSION = if t.slotValid (1 - s.get Reg.SEC_STATE_BOOT_SLOT)
    then fwVersion (t.fwRaw (1 - s.get Reg.SEC_STATE_BOOT_SLOT)) else 0
  pref : t.get Reg.SEC_STATE_PREF_SLOT = t.prefSlot
  policy : t.get Reg.SEC_STATE_REQUIRE_SIGNED = t.rd .bootMeta 1 % 2
  svn : t.get Reg.SEC_STATE_FUSE_SVN = t.rd .fuse 4 % 2 ^ 7
  keys : ∀ k < 4, bitAt (t.get Reg.SEC_STATE_KEYS) k = decide (t.rd .custKey k ≠ 0)

/-- What the completion of a SEC command reaches, beside named fields and banks. -/
def Foot.sec (l : List Field) (banks : List Bank) : Foot :=
  Foot.of (fun k => ∃ f ∈ l ++ [Reg.SEC_STATE_OTHER_VALID, Reg.SEC_FW_INFO_OTHER_VERSION, Reg.SEC_STATE_PREF_SLOT,
    Reg.SEC_STATE_REQUIRE_SIGNED, Reg.SEC_STATE_FUSE_SVN, Reg.SEC_STATE_KEYS, Reg.SEC_CMD_STATUS_DONE, Reg.SEC_CMD_STATUS_CODE],
    k = f.key) banks []

/-- The fields of a measurement register. -/
def measFields (i : Nat) : List Field := (List.range 16).map fun k => Reg.SEC_MEAS_VALUE i k

/-! Start-up and power states. -/

/-- The chest after the mount of a start-up or a wake (R458, R467): with no valid directory copy it is unmounted, and otherwise its slots
are what the copy in force records, those it records OPEN being TORN; `scrub` says that a scrub pass starts. -/
structure Mounts (o : StartUp) (scrub : Prop) (s t : State) : Prop where
  channels : t.get Reg.CHS_STATUS_CH_OK = o.chOk.toNat
  without : (s.set Reg.CHS_STATUS_CH_OK o.chOk.toNat).dirInForce o.dirOk = none → t.get Reg.CHS_STATUS_MOUNTED = 0
  mounted : ∀ c, (s.set Reg.CHS_STATUS_CH_OK o.chOk.toNat).dirInForce o.dirOk = some c → t.get Reg.CHS_STATUS_MOUNTED = 1 ∧
    (scrub → t.get Reg.CHS_STATUS_SCRUBBING = 1) ∧
    ∀ k < 80, t.get (Reg.CHS_SLOT_INFO_STATE k) = (if s.rd .chestDir (dcWord c k 0) % 4 = slotOpen then slotTorn
        else s.rd .chestDir (dcWord c k 0) % 4) ∧
      ∀ x ∈ (slotFields k).zipIdx, x.2 ≠ 0 → t.get x.1 = s.rd .chestDir (dcWord c k x.2) % 2 ^ x.1.width

/-- Stages 4 to 7 of start-up (R414, R497): one that hangs shows its number; without a hang the chip is in stage 7 with BOOT_OK, and each
seated unit that is neither held dark nor faulty is lit. -/
structure BootsOn (o : StartUp) (scrub : Prop) (s t : State) : Prop where
  hangs : ∀ h, o.hang = some h → t.get Reg.GLB_BOOT_STATUS_STAGE = h.val + 4
  done : o.hang = none → t.get Reg.GLB_BOOT_STATUS_STAGE = 7 ∧ t.get Reg.GLB_BOOT_STATUS_BOOT_OK = 1 ∧ t.rd .bootMeta 3 = 0 ∧
    ∀ k < 3, bitAt (t.get Reg.PWR_LASER_LIT) k = (bitAt (t.get Reg.PWR_LASER_PRESENT) k && !bitAt (t.get Reg.PWR_LASER_OFF) k &&
      !bitAt (t.get Reg.PWR_LASER_FAULT) k)
  mounts : o.hang = none ∨ o.hang = some 2 → Mounts o scrub s t

/-- Shelf training with the M2 of its result (R191, R407). -/
structure Trained (o : StartUp) (t : State) : Prop where
  sockets : ∀ ch d, ch < 16 → o.dimms[ch]? = some d → t.get (Reg.SHF_DIMM_PRESENT ch) = b2n d.present ∧
    t.get (Reg.SHF_DIMM_TRAINED ch) = b2n (d.present && d.trained) ∧ t.get (Reg.SHF_DIMM_FAST ch) = b2n (d.present && d.fast) ∧
    t.get (Reg.SHF_DIMM_CAP ch) = (if d.present && d.trained then d.cap.toNat else 0) % 2 ^ (Reg.SHF_DIMM_CAP ch).width
  speed : t.get Reg.SHF_GLB_CFG_SPEED = b2n ((o.dimms.take 16).all fun d => !d.present || d.fast)
  measured : t.meas 2 = shake256 64 (leBytes 64 0 ++ shake256 64 (Config.measItem 2 t.shelfItem))

/-- The device started up with nothing of what it held (R377, R401, R405, R407, R414, R416): no plan, no tile, no command in flight, memory
of zeros, and stream contexts, milestones and host registers at reset. Without root lock it stops in stage 2, without a valid slot in ROM
recovery; the slot that it boots runs with its measurement. -/
structure Booted (o : StartUp) (scrub : Prop) (s t : State) : Prop where
  queue : t.pending = s.pending
  empty : t.progs = [] ∧ t.slots = [] ∧ t.inflight = [] ∧ t.insts = [] ∧ t.vecs = [] ∧ t.desks = [] ∧ t.txq = [] ∧ t.rxBuf = [] ∧
    t.copies = [] ∧ t.egress = [] ∧ t.heldFrames = [] ∧ t.admitted = none
  memory : ∀ a < 2 ^ 64, t.byte a = 0#8
  registers : ∀ f : Field, streamKeys f.key ∨ mlsKeys f.key ∨ hostKeys f.key → t.get f = f.reset % 2 ^ f.width
  kept : t.flash = s.flash ∧ t.fuse = s.fuse ∧ t.custKey = s.custKey ∧ t.chest = s.chest ∧ (∀ i, i ≠ 3 → t.rd .bootMeta i = s.rd .bootMeta i)
  serial : ∀ f : Field, inBytes 0x02031000 0x02031008 f.key → t.get f = s.get f
  noLock : o.lock = false → t.get Reg.GLB_BOOT_STATUS_STAGE = 2 ∧ t.get Reg.GLB_BOOT_STATUS_FAIL = 1 ∧
    t.get Reg.GLB_BOOT_STATUS_RECOVERY = 0 ∧ t.get Reg.PWR_CLK_STATUS_ROOT_LOCK = 0 ∧ t.enumerated = false
  locked : o.lock = true → t.get Reg.PWR_CLK_STATUS_ROOT_LOCK = 1 ∧ t.get Reg.PWR_CLK_STATUS_TX_LOCK = 1 ∧ t.enumerated = true ∧
    t.meas 0 = shake256 64 (leBytes 64 0 ++ shake256 64 (Config.measItem 0 s.fuseItem))
  recovery : o.lock = true → s.bootChoice = none → t.get Reg.GLB_BOOT_STATUS_STAGE = 3 ∧ t.get Reg.GLB_BOOT_STATUS_FAIL = 1 ∧
    t.get Reg.GLB_BOOT_STATUS_RECOVERY = 1 ∧ t.running = false
  boots : ∀ k, o.lock = true → s.bootChoice = some k → t.get Reg.SEC_STATE_BOOT_SLOT = k ∧
    t.get Reg.SEC_STATE_FELL_BACK = b2n (k ≠ s.prefSlot) ∧ t.get Reg.SEC_STATE_RUN_SVN = fwSvn (s.fwRaw k) % 2 ^ 6 ∧
    t.get Reg.SEC_FW_INFO_RUN_VERSION = fwVersion (s.fwRaw k) ∧ t.fwBody = fwBodyOf (s.fwRaw k) ∧
    t.meas 1 = shake256 64 (leBytes 64 0 ++ shake256 64 (rawBytes (s.fwRaw k) 0 (fwLength (s.fwRaw k)))) ∧
    t.get Reg.GLB_BOOT_STATUS_FAIL = 0 ∧ t.running = true ∧ BootsOn o scrub s t ∧
    (o.hang ≠ some 0 → Trained o t) ∧ ∀ h, o.hang = some h → t.get Reg.GLB_BOOT_STATUS_BOOT_OK = 0 ∧
      t.rd .bootMeta 3 = 1

/-- The module is in P3 (R432, R438, R490): its rails are off, volatile state is lost, every register but the fused serial, the seats of the
laser units and the state itself is at reset, and flash, fuses, keys and the pages of the chest stay. -/
structure Off (trip : Bool) (s t : State) : Prop where
  queue : t.pending = s.pending
  state : t.get Reg.PWR_STATE_STATUS_STATE = 3
  alert : t.tripped = trip ∧ t.alert = trip
  empty : t.progs = [] ∧ t.slots = [] ∧ t.inflight = [] ∧ t.insts = [] ∧ t.vecs = [] ∧ t.desks = [] ∧ t.txq = [] ∧ t.rxBuf = []
  memory : ∀ a < 2 ^ 64, t.byte a = 0#8
  registers : ∀ f : Field, ¬ inBytes 0x02031000 0x02031008 f.key → f.key ≠ Reg.PWR_STATE_STATUS_STATE.key →
    ¬ (Reg.PWR_LASER_PRESENT.key ≤ f.key ∧ f.key < Reg.PWR_LASER_PRESENT.key + 3) → t.get f = f.reset % 2 ^ f.width
  seats : t.get Reg.PWR_LASER_PRESENT = s.get Reg.PWR_LASER_PRESENT
  kept : t.flash = s.flash ∧ t.fuse = s.fuse ∧ t.custKey = s.custKey ∧ t.slotMeta = s.slotMeta ∧ t.bootMeta = s.bootMeta ∧
    t.chest = s.chest ∧ t.places = s.places

/-- The registers that P2 keeps (R20, R430, R438): those of the AO domain with the REQ latch, the SEC block, the trained PCIe link and
PRESERVE, the serial, the AO cycle counter, and what shelf training stored. -/
def watchKeys (k : Nat) : Prop :=
  inBytes 0x02600010 0x02600044 k ∨ (Reg.PWR_OPMODE_REQ.key ≤ k ∧ k < Reg.PWR_OPMODE_REQ.key + 2) ∨ inBytes 0x02700000 0x02710000 k ∨
  inBytes 0x00103004 0x0010300C k ∨ inBytes 0x02031000 0x02031008 k ∨ inBytes 0x02500020 0x02500028 k ∨
  (∃ ch < 16, inBytes (0x02100008 + ch * 0x1000) (0x0210000C + ch * 0x1000) k) ∨ k = Reg.SHF_GLB_CFG_SPEED.key

/-- The AO fields that entering P2, a wake or the start of the device writes. -/
def powerFields : List Field :=
  [Reg.PWR_STATE_STATUS_STATE, Reg.PWR_STATE_STATUS_ARMED, Reg.PWR_LASER_LIT, Reg.PWR_CLK_STATUS_ROOT_LOCK, Reg.PWR_CLK_STATUS_TX_LOCK]

/-- The chip is in P2 (R429, R430): links dark, the plan and its work gone, shelves with their contents and the errors in them, the registers of
`watchKeys` kept and all others at reset. -/
structure Watching (d3 : Bool) (s t : State) : Prop where
  queue : t.pending = s.pending
  state : t.get Reg.PWR_STATE_STATUS_STATE = 2 ∧ t.get Reg.PWR_STATE_STATUS_ARMED = 0 ∧ t.get Reg.PWR_LASER_LIT = 0 ∧
    t.get Reg.PWR_CLK_STATUS_ROOT_LOCK = 0 ∧ t.get Reg.PWR_CLK_STATUS_TX_LOCK = 0
  d3 : t.pcie.d3hot = d3
  empty : t.progs = [] ∧ t.slots = [] ∧ t.inflight = [] ∧ t.insts = [] ∧ t.vecs = [] ∧ t.desks = [] ∧ t.txq = [] ∧ t.rxBuf = []
  memory : ∀ a, t.byte a = if a < shelfBase then 0#8 else s.byte a
  errors : t.shfErr = s.shfErr
  kept : ∀ f : Field, watchKeys f.key → (∀ x ∈ powerFields, f.key ≠ x.key) → t.get f = s.get f
  lost : ∀ f : Field, ¬ watchKeys f.key → t.get f = f.reset % 2 ^ f.width
  medium : t.flash = s.flash ∧ t.fuse = s.fuse ∧ t.custKey = s.custKey ∧ t.chest = s.chest ∧ t.fwBody = s.fwBody

/-- The chip woke from P2 by the sources `c` (R20, R430, R431): WAKE_CAUSE, WAKES, the mode of REQ, start-up from stage 2 on without
verification or measurement, shelves and the SEC block as they were, and PM_PME where PCIe is no cause and PME_En is set. -/
structure Woke (c : Nat) (o : StartUp) (s t : State) : Prop where
  queue : t.pending = s.pending
  state : t.get Reg.PWR_STATE_STATUS_STATE = 0
  cause : t.get Reg.PWR_STATE_STATUS_WAKE_CAUSE = (c ||| (o.more.toNat &&& s.get Reg.PWR_WATCH_CFG_EN)) % 2 ^ 6
  counted : t.get Reg.PWR_STATE_STATUS_WAKES = (s.get Reg.PWR_STATE_STATUS_WAKES + 1) % 2 ^ 16
  mode : t.get Reg.PWR_OPMODE_CUR = s.get Reg.PWR_OPMODE_REQ ∧ t.supply = s.get Reg.PWR_OPMODE_REQ
  noLock : o.lock = false → t.get Reg.GLB_BOOT_STATUS_STAGE = 2 ∧ t.get Reg.GLB_BOOT_STATUS_FAIL = 1 ∧ t.pmPmes = s.pmPmes
  locked : o.lock = true → t.get Reg.PWR_CLK_STATUS_ROOT_LOCK = 1 ∧ t.get Reg.PWR_CLK_STATUS_TX_LOCK = 1 ∧
    BootsOn o (s.rd .chestDir cdPowered = 1) s t ∧
    (if (o.hang = none ∨ o.hang = some 2) ∧ bitAt c 5 = false ∧ s.pcie.pmeEn = true then
      t.pcie = { s.pcie with pmeStatus := true } ∧ t.pmPmes = s.pmPmes + 1 else t.pcie = s.pcie ∧ t.pmPmes = s.pmPmes)
  kept : (∀ a, t.byte a = s.byte a) ∧ t.chest = s.chest ∧ t.fwBody = s.fwBody ∧
    ∀ f : Field, inBytes 0x02700000 0x02710000 f.key ∨ inBytes 0x02600020 0x02600030 f.key → t.get f = s.get f

/-! The chest. -/

/-- The pool as CHS_SPACE and LOW_SPARE report it, with the event of a rise (R464, R477). -/
def spaceKeys (k : Nat) : Prop := inBytes 0x02300030 0x02300038 k ∨ k = Reg.CHS_STATUS_LOW_SPARE.key

/-- The counters of the chest (R469). -/
def chestCounters (k : Nat) : Prop := inBytes 0x02300040 0x02300070 k

/-- CHS_SLOT_INFO of a slot (R458). -/
def slotKeys (k x : Nat) : Prop := inBytes (0x02300100 + k * 0x20) (0x02300120 + k * 0x20) x

/-- What the medium takes when pages are programmed, with what retires and moves on the way (R463–R465). -/
def Foot.nand : Foot :=
  Foot.of (fun k => spaceKeys k ∨ chestCounters k) [.chestDir, .chestRec, .blkState, .blkErase] [.chest, .chestSys, .places, .stripes, .faultDue]

/-- What the end of a chest command reaches. -/
def Foot.chestDone : Foot :=
  Foot.of (fun k => spaceKeys k ∨ k = Reg.CHS_CMD_STATUS_DONE.key ∨ k = Reg.CHS_CMD_STATUS_CODE.key) [] [.faultDue]

/-- A chest command completed with a status code, BUSY where CHS_CMD was written meanwhile, and CHS_SPACE reports the pool of a mounted
chest (R459, R464, R470). -/
structure ChestEnds (code : Nat) (again : Bool) (t : State) : Prop where
  done : t.get Reg.CHS_CMD_STATUS_DONE = 1
  code : t.get Reg.CHS_CMD_STATUS_CODE = if again then chsBusy else code
  space : t.get Reg.CHS_STATUS_MOUNTED = 1 → t.get Reg.CHS_SPACE_FREE_PAGES = (t.chestPool - t.chestUsed) % 2 ^ 32 ∧
    t.get Reg.CHS_STATUS_LOW_SPARE = b2n (t.chestPool < t.chestUsed) ∧ t.get Reg.CHS_SPACE_PAGE_SEQ = t.rd .chestDir cdPageSeq % 2 ^ 32

/-- Both copies of the directory record every slot as it is (R458). -/
def Recorded (t : State) : Prop :=
  ∀ c < 2, 0 < t.rd .chestDir (dcSeq c) ∧ ∀ k < 80, ∀ j x, (t.slotRecord k)[j]? = some x → t.rd .chestDir (dcWord c k j) = x

/-- A counter of the chest rose by `n` (R469). -/
def ChestCounted (i n : Nat) (s t : State) : Prop :=
  t.get (Reg.CHS_COUNTER_COUNT i) = min (s.get (Reg.CHS_COUNTER_COUNT i) + n) (2 ^ 48 - 1)

/-- Page reads were counted: the bits corrected, and each failed page by the first test that it fails (R457). -/
def ReadsCounted (l : List PageSeen) (s t : State) : Prop :=
  ChestCounted 0 (l.map (·.corr)).sum s t ∧ ∀ i < 3, ChestCounted (1 + i) (l.filter fun x => x.failed = some i).length s t

/-- The slot data of pages: of each as many bytes as its FILL says (R456). -/
def seenBytes (l : List PageSeen) : List Byte := l.flatMap fun x => leBytes (min pageBytes (pgFill x.head)) x.data

/-! The laser units. -/

/-- What changes of unit `k` reach: its bit in PWR_LASER, its links with their falls, and ALERT_N. -/
def Foot.unit (k : Nat) : Foot where
  keys x := inBytes 0x02600040 0x02600044 x ∨ ∃ l, unitOf l = k ∧ (Foot.linkFall l).keys x
  cells b x := ∃ l, unitOf l = k ∧ (Foot.linkFall l).cells b x
  bytes _ := False
  parts p := p = .alert ∨ (Foot.linkFall 0).parts p

/-- Unit `k` went dark (R250, R497): its links are down, those past the handshake with the reason DARK and a notice. -/
structure UnitDark (k : Nat) (s t : State) : Prop where
  lit : t.get Reg.PWR_LASER_LIT = setBits (s.get Reg.PWR_LASER_LIT) k 1 0
  down : ∀ l : Link, unitOf l = k → t.get (Reg.LNK_STATE_STATE l) = 0
  fell : ∀ l : Link, unitOf l = k → 5 ≤ s.get (Reg.LNK_STATE_STATE l) → t.get (Reg.LNK_STATE_DOWN_REASON l) = downDark ∧
    t.get (Reg.LNK_PEER_INFO_VALID l) = 0 ∧ s.linkNotice 0x03 l downDark ∈ t.notices ∧ (∀ h ∈ t.heldFrames, h.link ≠ l) ∧ ∀ q ∈ t.txq, q.link ≠ l
  staged : Staged s t

/-- Unit `k` lights (R248, R497): the links of it that have light and are not held dark start bring-up, and the others stay. -/
structure UnitLit (k : Nat) (s t : State) : Prop where
  lit : t.get Reg.PWR_LASER_LIT = setBits (s.get Reg.PWR_LASER_LIT) k 1 1
  links : ∀ l : Link, unitOf l = k → t.get (Reg.LNK_STATE_STATE l) =
    if s.get (Reg.LNK_STATE_STATE l) = 0 ∧ s.get (Reg.LNK_CTRL_DARK l) = 0 ∧ s.get (Reg.LNK_STATE_LIT l) = 0xFF then 1
    else s.get (Reg.LNK_STATE_STATE l)
  notices : t.notices = s.notices
  stage : t.get Reg.GLB_BOOT_STATUS_STAGE = s.get Reg.GLB_BOOT_STATUS_STAGE

/-! Commands of the host rings (R378–R383). -/

/-- Command `c` of ring `r` has opcode `op`, and is the next that may start. -/
structure Starts (r : Ring) (op : Nat) (c : HostCmd) (s : State) : Prop where
  on : s.running = true
  first : ((s.ringCmds r).find? fun x => !x.started) = some c
  opcode : c.opcode = op
  may : s.mayStart c = true

/-- Command `c` is over with a status and a result: it is no longer in flight, and its completion is posted where it asks for one or
fails. -/
structure Completed (c : HostCmd) (status result : Nat) (t : State) : Prop where
  gone : ∀ x ∈ t.inflight, ¬ (x.ring = c.ring ∧ x.hseq = c.hseq)
  posted : c.cpl = true ∨ status ≠ 0 → ∃ a dseq phase, (a, cplEntry dseq c status phase result) ∈ t.hostOut

end Sys2Proof.Machine
end

