-- ==== Sys2Proof/Certificates/Slice0/Obligations.lean ====
section
/-!
DEFINITION. The statements about the model, one proposition each. Each docstring names the rules of spec/ that it formalises.
-/

open Sys2Proof Sys2Proof.Machine Sys2Proof.Machine.Reg

/-! The block and its queue. -/

/-- A step runs the command at the front of the queue with the queue's rest (the block's own interface). -/
def Obligations.StepRunsFrontCommand : Prop :=
  ∀ (c : Instr) (rest : List Instr) (s : State),
    step { s with pending := c :: rest } = exec c { s with pending := rest }

/-- With an empty queue a step is one tick of the two cycle counters of R471, the model's choice (log entry 17): one AO cycle, and the
SCLK cycles that end in it, which are 16, 64/5 and 10 for each in modes P, B and E (R11, R420); a chip that is powered but does not run
counts AO cycles alone, and in P3 nothing counts. -/
def Obligations.EmptyQueueTicksCycleCounters : Prop :=
  ∀ s : State, s.pending = [] →
    (s.running = true → ∃ t, step s = .next t ∧
      t.get CNT_AO_CYCLE_COUNT = (s.get CNT_AO_CYCLE_COUNT + 1) % 2 ^ 64 ∧ t.sclkPart < 5 ∧
      (∃ n, t.get CNT_CYCLE_COUNT = (s.get CNT_CYCLE_COUNT + n) % 2 ^ 64 ∧
        5 * n + t.sclkPart = s.sclkPart + (if s.mode = 1 then 64 else if s.mode = 2 then 50 else 80)) ∧
      Frame (Foot.of (fun k => k = CNT_CYCLE_COUNT.key ∨ k = CNT_AO_CYCLE_COUNT.key) [] [.sclkPart]) s t) ∧
    (s.running = false → s.off = false → step s = .next (s.set CNT_AO_CYCLE_COUNT (s.get CNT_AO_CYCLE_COUNT + 1))) ∧
    (s.off = true → step s = .next s)

/-- No command touches the queue of commands that wait; and every command but a vector instruction answers a next state, whatever the
state and its operands: it neither faults nor is refused. -/
def Obligations.CommandsLeaveQueueAlone : Prop :=
  (∀ (c : Instr) (s t : State), exec c s = .next t → t.pending = s.pending) ∧
  (∀ (c : Instr) (s : State), isVector c = false → ∃ t, exec c s = .next t ∧ t.pending = s.pending)

/-- Every step keeps memory, registers and banks in canonical form: equal contents stay equal data. -/
def Obligations.EveryStepKeepsCanonicalForm : Prop :=
  ∀ s t : State, Canonical s → step s = .next t → Canonical t

/-- The state after reset is in canonical form, no command waits, and no byte of memory is listed. -/
def Obligations.ResetIsCanonical : Prop := Canonical State.reset ∧ State.reset.pending = [] ∧ State.reset.mem = []

/-- After reset every field of the register map reads the reset value of its table (R2); some of them by name. -/
def Obligations.ResetGivesTableValues : Prop :=
  (∀ f : Field, f.reset < 2 ^ f.width → State.reset.get f = f.reset) ∧
  State.reset.get PWR_OPMODE_CUR = 0 ∧ State.reset.get PWR_OPMODE_REQ = 0 ∧ State.reset.get GLB_NUMCTL_FLUSH = 1 ∧
  (∀ m, State.reset.get (MLS_ENTRY_TARGET m) = 0xFFFFFFFF) ∧ (∀ e, State.reset.get (STN_STATUS_QUIESCED e) = 1) ∧
  (∀ g, State.reset.get (GLB_STEP_STATE_IDLE g) = 1) ∧ (∀ n, State.reset.get (CHK_POLY_VALUE n) = 0x1EDC6F41) ∧
  State.reset.get PWR_WATCH_CFG_PERIOD_MS = 1000 ∧ (∀ r, State.reset.get (HST_CMD_STATUS_STOPPED r) = 1)

/-- A chip that does not run takes no command of its synchronous parts: in P2, in P3 and after a start-up that stopped, nothing
changes (R426; that the other commands are these is the model's reading, log entry 18). -/
def Obligations.StoppedChipIgnoresSynchronousCommands : Prop :=
  ∀ (c : Instr) (s : State), s.running = false → alwaysOn c = false → exec c s = .next s

/-! Registers. -/

/-- REGISTER_WRITE (R2, R4): a 32-bit host write to a register whose writes have no effect of their own sets each field of the word by
its access code, of a field that straddles two words the part in this one, and changes nothing else; a W1C bit that the write clears and the hardware sets in the same cycle, one of `hw`, stays
set. -/
def Obligations.RegisterWriteFollowsAccessCodes : Prop :=
  ∀ (off : BitVec 26) (v hw : BitVec 64) (s : State) (a : Nat) (r : RegDef),
    s.running = true → off.toNat % 4 = 0 → (specials.findSome? fun x => x.covers off.toNat) = none →
    regAt off.toNat = some (a, r) →
    ∃ t, exec (.registerWrite off 4 v hw) s = .next t ∧
      (∀ f lo n p, f ∈ r.fields → f.part ((off.toNat - a) * 8) = some (lo, n, p) →
        t.get (f.at a) = setBits (s.get (f.at a)) lo n (accessResult f.acc n (bits (s.get (f.at a)) lo n) (bits v.toNat p n) |||
          (if f.acc = .w1c then bits v.toNat p n &&& bits hw.toNat p n else 0))) ∧
      Frame (Foot.fields ((r.fields.filter fun f => (f.part ((off.toNat - a) * 8)).isSome).map fun f => f.at a)) s t

/-- Undefined offsets, and accesses of another size or alignment (R6, R376): a write is discarded, and a read returns 0 and changes
nothing else. RC_READ (R2, R3): a 64-bit read of HST_TQ_REPEATS returns the counter and then clears it; what the hardware counts in the
same cycle, `upd`, stands in it after the clear, and nothing else changes. -/
def Obligations.UndefinedAccessesAndReadsThatClear : Prop :=
  (∀ (off : BitVec 26) (size : Nat) (v hw : BitVec 64) (l : List (Cluster × Graph)) (s : State), s.running = true →
    ((size = 4 ∧ off.toNat % 4 = 0 ∧ (specials.findSome? fun x => x.covers off.toNat) = none ∧ regAt off.toNat = none) ∨
      (size = 8 ∧ off.toNat % 8 = 0 ∧ ∀ k ∈ [off.toNat, off.toNat + 4],
        (specials.findSome? fun x => x.covers k) = none ∧ regAt k = none) ∨
      ¬ ((size = 4 ∧ off.toNat % 4 = 0) ∨ (size = 8 ∧ off.toNat % 8 = 0))) →
    exec (.registerWrite off size v hw) s = .next s ∧
    exec (.rcRead .bar0 (off.setWidth 42) size v l) s = .next ((Upd.readOut 0).apply s)) ∧
  (∀ (q : Ring) (upd : BitVec 64) (l : List (Cluster × Graph)) (s : State), s.running = true → s.get CNT_VIEW_SHADOW = 0 →
    ∃ t, exec (.rcRead .bar0 (BitVec.ofNat 42 (0x00102028 + q.val * 0x40)) 8 upd l) s = .next t ∧
      t.readOut = s.get (HST_TQ_REPEATS_COUNT q.val) + s.get (HST_TQ_REPEATS_OVF q.val) * 2 ^ 63 ∧
      t.get (HST_TQ_REPEATS_COUNT q.val) = bits upd.toNat 0 48 ∧ t.get (HST_TQ_REPEATS_OVF q.val) = bits upd.toNat 63 1 ∧
      Frame (Foot.or (Foot.fields [HST_TQ_REPEATS_COUNT q.val, HST_TQ_REPEATS_OVF q.val]) (Foot.of (fun _ => False) [] [.readOut])) s t)

/-- BAR_MEMORY_WRITE and RC_READ of memory (R190, R197, R205, R375, R376): through BAR2 the drawers, through BAR4 the window of the
shelves. A byte written in memory is stored, a byte in a hole is discarded, and every other byte and every register keeps its value; the
firings that the access stalls are charged. A read returns the bytes, changes none, and counts and logs the errors of what it touches;
beyond the BAR a read returns 0 and a write is discarded. -/
def Obligations.HostWriteStoresOutsideHoles : Prop :=
  ∀ (bar4 : Bool) (off : BitVec 42) (stalls : List (Cluster × Graph)) (s : State), s.running = true →
    (∀ (data : List Byte) (base : Nat), s.barAddress bar4 off.toNat = some base →
      ∃ t, exec (.barMemoryWrite bar4 off data stalls) s = .next t ∧
        (∀ a, t.byte a = if base ≤ a ∧ a < base + data.length ∧ s.mapped a = true then data.getD (a - base) 0#8 else s.byte a) ∧
        Frame { keys := fun _ => False, cells := fun b _ => b = .drwErr ∨ b = .shfErr ∨ b = .fireLen,
                bytes := fun a => base ≤ a ∧ a < base + data.length, parts := fun p => p = .allow } s t) ∧
    (∀ (n : Nat) (upd : BitVec 64) (base : Nat), s.barAddress bar4 off.toNat = some base →
      ∃ t, exec (.rcRead (if bar4 then .bar4 else .bar2) off n upd stalls) s = .next t ∧ t.readOut = leNat (s.bytesAt base n) ∧
        Frame (Foot.of (fun k => (∃ c, inBytes (0x0100600C + c * 0x10000) (0x01006028 + c * 0x10000) k) ∨
          ∃ ch, inBytes (0x0210000C + ch * 0x1000) (0x02100028 + ch * 0x1000) k) [.drwErr, .shfErr, .fireLen]
          [.readOut, .allow, .faultDue]) s t) ∧
    (s.barAddress bar4 off.toNat = none → stalls = [] →
      (∀ data, exec (.barMemoryWrite bar4 off data stalls) s = .next s) ∧
      (∀ n upd, exec (.rcRead (if bar4 then .bar4 else .bar2) off n upd stalls) s = .next ((Upd.readOut 0).apply s)))

/-! Operating modes and budget sets. -/

/-- MODE_REQUEST, STBY_PLL_LOCK, SUPPLY_RAISE_SETTLED and BUDGET_SET_SELECT (R15, R16, R20, R368): on a running chip a write of 3 changes
nothing; a write of m restarts the standby PLL, and PENDING is 1 exactly where m differs from CUR; in P2 and P3 the write is only latched.
While a switch is pending, the lock sets STBY_LOCK; once it is locked and the mode needs a higher supply, the raise brings the supply to
the level of the requested mode. Except while a plan activates, a write of SEL is stored, and PENDING tells whether it differs from CUR;
only the waiting BUDGET commands of the host end with it. -/
def Obligations.ModeAndBudgetChangesArePrepared : Prop :=
  ((∀ (m : BitVec 2) (s : State),
    (m = 3#2 → exec (.modeRequest m) s = .next s) ∧
    (m ≠ 3#2 → s.running = true →
      exec (.modeRequest m) s = .next (((s.set PWR_OPMODE_REQ m.toNat).set PWR_OPMODE_STBY_LOCK 0).set PWR_OPMODE_PENDING
        (if m.toNat = s.get PWR_OPMODE_CUR then 0 else 1))) ∧
    (m ≠ 3#2 → s.asleep = true → exec (.modeRequest m) s = .next (s.set PWR_OPMODE_REQ m.toNat))) ∧
  (∀ s : State, s.running = true → s.get PWR_OPMODE_PENDING = 1 →
    exec .stbyPllLock s = .next (s.set PWR_OPMODE_STBY_LOCK 1) ∧
    (s.get PWR_OPMODE_STBY_LOCK = 1 → s.get PWR_OPMODE_REQ < s.supply →
      exec .supplyRaiseSettled s = .next ((Upd.supply (s.get PWR_OPMODE_REQ)).apply s)))) ∧
  (∀ (sel : BitVec 2) (late : Bool) (s : State), s.running = true → s.get GLB_PLAN_STATUS_LOAD_STATE ≠ 3 →
    ∃ t, exec (.budgetSetSelect sel late) s = .next t ∧
      t.get GLB_BUDGET_SET_SEL = sel.toNat ∧ t.selLate = late ∧
      t.get GLB_BUDGET_SET_PENDING = (if sel.toNat = s.get GLB_BUDGET_SET_CUR then 0 else 1) ∧
      t.get GLB_BUDGET_SET_CUR = s.get GLB_BUDGET_SET_CUR ∧
      Frame (Foot.or Foot.hostDone (Foot.or (Foot.fields [GLB_BUDGET_SET_SEL, GLB_BUDGET_SET_PENDING])
        (Foot.of (fun _ => False) [] [.selLate]))) s t)

/-- BUDGET_PERIOD_BOUNDARY (R16, R19, R39, R41, R368): a pending switch whose PLL is locked and whose supply is settled takes effect,
as does a pending change of budget set, together; every allowance is its share of CAP less the carried debt, by the new set and the
new mode; the members of each port that are counted in CAP show in its UP field, and the period is counted. Nothing changes beside the
fields of the mode and of the budget set, the watchdogs' counts that a new set starts again, the host commands that wait for it, and
the budget. An allowance is ⌊share × CAP ÷ 1,024⌋, with CAP in twentieths of a unit so that it is exact in every mode, less the debt
carried, which is at most its limit; a positive rest is not carried. -/
def Obligations.PeriodBoundaryAppliesSwitchSetAndAllowances : Prop :=
  (∀ s : State, s.running = true →
    ∃ t, exec .budgetPeriodBoundary s = .next t ∧
      (s.switchReady = true → t.get PWR_OPMODE_CUR = s.get PWR_OPMODE_REQ ∧ t.get PWR_OPMODE_PENDING = 0 ∧
        t.get PWR_OPMODE_DONE = 1 ∧ t.get PWR_OPMODE_SWITCH_SEQ = (s.get PWR_OPMODE_SWITCH_SEQ + 1) % 2 ^ 16) ∧
      (s.switchReady = false → t.get PWR_OPMODE_CUR = s.get PWR_OPMODE_CUR ∧
        t.get PWR_OPMODE_SWITCH_SEQ = s.get PWR_OPMODE_SWITCH_SEQ) ∧
      (s.selLate = false → s.get GLB_BUDGET_SET_PENDING = 1 → t.get GLB_BUDGET_SET_CUR = s.get GLB_BUDGET_SET_SEL ∧
        t.get GLB_BUDGET_SET_PENDING = 0 ∧ t.get GLB_BUDGET_SET_DONE = 1 ∧
        t.get GLB_BUDGET_SET_CHANGE_SEQ = (s.get GLB_BUDGET_SET_CHANGE_SEQ + 1) % 2 ^ 16) ∧
      (s.selLate = true ∨ s.get GLB_BUDGET_SET_PENDING = 0 → t.get GLB_BUDGET_SET_CUR = s.get GLB_BUDGET_SET_CUR) ∧
      t.allow = (changeSet.run (switchMode.run s)).allowances true ∧ t.period = s.period + 1 ∧
      (∀ p : Fin 16, t.get (LNK_PORT_CFG_UP p) = s.portUp p) ∧
      Frame (Foot.or Foot.hostDone (Foot.of (fun k => inBytes 0x02600000 0x02600004 k ∨ inBytes 0x20 0x24 k ∨ streamKeys k ∨
        ∃ p, p < 16 ∧ k = (LNK_PORT_CFG_UP p).key) [.lastFire] [.supply, .selLate, .allow, .period])) s t) ∧
  (∀ (share cap limit : Nat) (old : Int),
    (0 ≤ old → freshAllow share (20 * cap) old limit = ((share * cap / 1024 : Nat) : Int)) ∧
    (0 ≤ old → freshAllow share cap old limit = ((share * cap / (20 * 1024) : Nat) : Int)) ∧
    (old < 0 → -old ≤ limit → freshAllow share cap old limit = ((share * cap / (20 * 1024) : Nat) : Int) + old) ∧
    (old < 0 → (limit : Int) < -old → freshAllow share cap old limit = ((share * cap / (20 * 1024) : Nat) : Int) - limit))

/-! Stream contexts. -/

/-- STREAM_CONTEXT_WRITE (R30, R32): every write completes, within the context, its slots and what its milestone reaches. A write to a
word with RW fields while a station of the context is not quiesced is discarded and sets WR_REJECT; on a quiesced context every field of
the word takes its value by its access code, so that word 0 sets VALID, REMOTE, SIDE, GRAPH, the endpoints, the VC and WAIT_EN, and word 7
sets WD_LIMIT; word 3 is NEXT_SEQ_REWRITE and word 10 is STREAM_FAULT_CLEAR; nothing else changes. The W1C words 9 and 10, and the words
without a field that a write reaches, take a write whether or not a station is quiesced. -/
def Obligations.ContextWriteNeedsQuiescedStations : Prop :=
  ∀ (n : StreamNo) (w : Fin 16) (v : BitVec 32) (s : State), s.running = true →
    (strRwWord w.val = true → s.ctxQuiet n.toNat = false →
      exec (.streamContextWrite n w v) s = .next (s.set (STR_WR_REJECT n.toNat) 1)) ∧
    (∃ t, exec (.streamContextWrite n w v) s = .next t ∧ Frame (Foot.tiles [n.toNat]) s t) ∧
    exec (.streamContextWrite n 3 v) s = exec (.nextSeqRewrite n v) s ∧
    (w ≠ 3 → w ≠ 10 → (strRwWord w.val = false ∨ s.ctxQuiet n.toNat = true) →
      ∀ (a : Nat) (r : RegDef), regAt (strWord n.toNat w.val) = some (a, r) →
      ∃ t, exec (.streamContextWrite n w v) s = .next t ∧
        (∀ f lo b p, f ∈ r.fields → f.part ((strWord n.toNat w.val - a) * 8) = some (lo, b, p) →
          t.get (f.at a) = setBits (s.get (f.at a)) lo b (accessResult f.acc b (bits (s.get (f.at a)) lo b) (bits v.toNat p b))) ∧
        Frame (Foot.fields ((r.fields.filter fun f => (f.part ((strWord n.toNat w.val - a) * 8)).isSome).map fun f => f.at a)) s t) ∧
    (∃ t, exec (.streamContextWrite n 9 v) s = .next t ∧
      (∀ f i, (f, i) ∈ [(STR_NAN_IN n.toNat, 0), (STR_INVALID n.toNat, 1), (STR_OVERFLOW n.toNat, 2),
          (STR_DENORM_FLUSHED n.toNat, 3), (STR_SATURATE n.toNat, 4), (STR_INT_SAT n.toNat, 5), (STR_EMPTY n.toNat, 6),
          (STR_POISONED n.toNat, 7)] →
        t.get f = if bitAt v.toNat i then 0 else s.get f) ∧
      Frame (Foot.fields [STR_NAN_IN n.toNat, STR_INVALID n.toNat, STR_OVERFLOW n.toNat, STR_DENORM_FLUSHED n.toNat,
        STR_SATURATE n.toNat, STR_INT_SAT n.toNat, STR_EMPTY n.toNat, STR_POISONED n.toNat]) s t) ∧
    exec (.streamContextWrite n 10 v) s = exec (.streamFaultClear n v 0) s ∧
    (s.ctxQuiet n.toNat = true → ∃ t, exec (.streamContextWrite n 0 v) s = .next t ∧
      t.get (STR_VALID n.toNat) = bits v.toNat 0 1 ∧ t.get (STR_REMOTE n.toNat) = bits v.toNat 1 1 ∧
      t.get (STR_SIDE n.toNat) = bits v.toNat 2 1 ∧ t.get (STR_GRAPH n.toNat) = bits v.toNat 3 3 ∧
      t.get (STR_SRC_ENDPT n.toNat) = bits v.toNat 6 9 ∧ t.get (STR_DST_ENDPT n.toNat) = bits v.toNat 15 9 ∧
      t.get (STR_VC n.toNat) = bits v.toNat 24 3 ∧ t.get (STR_WAIT_EN n.toNat) = bits v.toNat 27 1 ∧
      Frame (Foot.fields [STR_VALID n.toNat, STR_REMOTE n.toNat, STR_SIDE n.toNat, STR_GRAPH n.toNat, STR_SRC_ENDPT n.toNat,
        STR_DST_ENDPT n.toNat, STR_VC n.toNat, STR_WAIT_EN n.toNat]) s t) ∧
    (s.ctxQuiet n.toNat = true → ∃ t, exec (.streamContextWrite n 7 v) s = .next t ∧
      t.get (STR_WD_LIMIT n.toNat) = bits v.toNat 0 24 ∧ Frame (Foot.fields [STR_WD_LIMIT n.toNat]) s t)

/-- NEXT_SEQ_REWRITE, STREAM_FAULT_CLEAR and STREAM_WATCHDOG_FIRE (R32, R56–R58): with a station not quiesced a rewrite is rejected; at the
receiving side of a cross-chip stream a move forward to b frees the slots that hold an earlier SEQ, counts every SEQ passed as completed,
and NEXT_SEQ is b, and any other move sets NEXT_SEQ alone; at the sending side only NEXT_SEQ changes. On chip the consumer's own SEQ moves
with it (log entry 6). A write of ones clears the named bits of word 10 but those that the hardware sets in the same cycle, and where it clears the
last stopping fault WD_COUNT becomes 0. A stream whose watchdog runs (R54, R55) is LOST where a tile is partly received and STALLED
otherwise, its completion milestone gets the code, and the event waits for its record (R477); a watchdog that does not run does not
fire. -/
def Obligations.StreamRewritesFaultClearsAndWatchdog : Prop :=
  (∀ (n : StreamNo) (b : BitVec 32) (s : State), s.running = true →
    (s.ctxQuiet n.toNat = false → exec (.nextSeqRewrite n b) s = .next (s.set (STR_WR_REJECT n.toNat) 1)) ∧
    (s.ctxQuiet n.toNat = true → s.receives n.toNat = false →
      exec (.nextSeqRewrite n b) s = .next (s.set (STR_NEXT_SEQ n.toNat) b.toNat)) ∧
    (s.ctxQuiet n.toNat = true → s.receives n.toNat = true → seqDiff b.toNat (s.nextIn n.toNat) > 0 →
      ∃ t, exec (.nextSeqRewrite n b) s = .next t ∧ t.get (STR_NEXT_SEQ n.toNat) = b.toNat ∧ t.nextIn n.toNat = b.toNat ∧
        t.slots = s.slots.filter (fun x =>
          !(x.stream = n.toNat && seqFwd x.seq (s.nextIn n.toNat) < seqFwd b.toNat (s.nextIn n.toNat))) ∧
        t.get (STR_TILES_DONE n.toNat) =
          (s.get (STR_TILES_DONE n.toNat) + seqFwd b.toNat (s.nextIn n.toNat)) % 2 ^ 32 ∧
        Frame (Foot.tiles [n.toNat]) s t) ∧
    (s.ctxQuiet n.toNat = true → s.receives n.toNat = true → ¬ seqDiff b.toNat (s.nextIn n.toNat) > 0 →
      ∃ t, exec (.nextSeqRewrite n b) s = .next t ∧ t.get (STR_NEXT_SEQ n.toNat) = b.toNat ∧ t.nextIn n.toNat = b.toNat ∧
        Frame ⟨fun k => k = (STR_NEXT_SEQ n.toNat).key, fun c k => c = .rxSeq ∧ k = n.toNat, fun _ => False, fun _ => False⟩ s t)) ∧
  (∀ (n : StreamNo) (v hw : BitVec 32) (s : State), s.running = true →
    ∃ t, exec (.streamFaultClear n v hw) s = .next t ∧
      (∀ f i, (f, i) ∈ [(STR_BENCH_CHECK_FAIL n.toNat, 0), (STR_MILESTONE_OVERFLOW n.toNat, 1), (STR_LOST n.toNat, 2),
          (STR_STALLED n.toNat, 3), (STR_SIG_MISMATCH n.toNat, 4), (STR_ABORTED n.toNat, 5), (STR_BAD_HEADER n.toNat, 6),
          (STR_WR_REJECT n.toNat, 7)] →
        t.get f = if bitAt v.toNat i then b2n (bitAt hw.toNat i) else s.get f) ∧
      (s.stopped n.toNat = true → t.stopped n.toNat = false → t.get (STR_WD_COUNT n.toNat) = 0) ∧
      (s.stopped n.toNat = false ∨ t.stopped n.toNat = true → t.get (STR_WD_COUNT n.toNat) = s.get (STR_WD_COUNT n.toNat)) ∧
      Frame (Foot.fields [STR_BENCH_CHECK_FAIL n.toNat, STR_MILESTONE_OVERFLOW n.toNat, STR_LOST n.toNat, STR_STALLED n.toNat,
        STR_SIG_MISMATCH n.toNat, STR_ABORTED n.toNat, STR_BAD_HEADER n.toNat, STR_WR_REJECT n.toNat, STR_WD_COUNT n.toNat]) s t) ∧
  (∀ (n : StreamNo) (s : State), s.running = true → s.wdRuns n.toNat = false → exec (.streamWatchdogFire n) s = .next s) ∧
  (∀ (n : StreamNo) (s : State), s.running = true → s.wdRuns n.toNat = true →
    ∃ t, exec (.streamWatchdogFire n) s = .next t ∧ t.get (STR_WD_COUNT n.toNat) = s.get (STR_WD_LIMIT n.toNat) ∧
      t.get (STR_LOST n.toNat) = (if s.partly n.toNat then 1 else s.get (STR_LOST n.toNat)) ∧
      t.get (STR_STALLED n.toNat) = (if s.partly n.toNat then s.get (STR_STALLED n.toNat) else 1) ∧
      t.stopped n.toNat = true ∧
      (s.get (MLS_STATUS_CODE (s.get (STR_MLS_DONE n.toNat))) = 0 →
        t.get (MLS_STATUS_CODE (s.get (STR_MLS_DONE n.toNat))) = if s.partly n.toNat then 3 else 4) ∧
      (∃ e, t.faultDue = s.faultDue ++ [e] ∧ e.cls = 1 ∧ e.source = s.streamStation n.toNat ∧ e.chip = s.streamChip n.toNat ∧
        e.graph = s.get (STR_GRAPH n.toNat) ∧ e.detail = n.toNat + if s.partly n.toNat then 0 else 2 ^ 18) ∧
      Frame (Foot.or (Foot.milestone [n.toNat]) (Foot.of (fun _ => False) [] [.faultDue])) s t)

/-! Milestones. -/

/-- MLS_INC_WRITE and MILESTONE_ENTRY_WRITE (R48–R50, R53): a 64-bit write to MLS_INC increments, and a 32-bit write to either half of
it is discarded; COUNT is the sum, or 0xFFFF_FFFF with OVF set where the sum exceeds it;
COUNT and TARGET take written values; REACHED tells COUNT ≥ TARGET or CODE ≠ 0 at once. -/
def Obligations.MilestonesCountAndReach : Prop :=
  ∀ (m : Mls) (s : State), s.running = true →
    (∀ k : BitVec 32, exec (.registerWrite 0x02F00000#26 8 (k ++ 0#16 ++ m) 0) s = exec (.mlsIncWrite m k) s) ∧
    (∀ v : BitVec 64, exec (.registerWrite 0x02F00000#26 4 v 0) s = .next s ∧
      exec (.registerWrite 0x02F00004#26 4 v 0) s = .next s) ∧
    exec (.mlsIncWrite m 0) s = .next s ∧
    (∀ k : BitVec 32, k ≠ 0 → ∃ t, exec (.mlsIncWrite m k) s = .next t ∧
      t.get (MLS_ENTRY_COUNT m.toNat) = min (s.get (MLS_ENTRY_COUNT m.toNat) + k.toNat) 0xFFFFFFFF ∧
      t.get (MLS_STATUS_OVF m.toNat) =
        (if 0xFFFFFFFF < s.get (MLS_ENTRY_COUNT m.toNat) + k.toNat then 1 else s.get (MLS_STATUS_OVF m.toNat)) ∧
      (t.get (MLS_STATUS_REACHED m.toNat) = 1 ↔
        t.get (MLS_ENTRY_TARGET m.toNat) ≤ t.get (MLS_ENTRY_COUNT m.toNat) ∨ t.get (MLS_STATUS_CODE m.toNat) ≠ 0) ∧
      t.get (MLS_ENTRY_TARGET m.toNat) = s.get (MLS_ENTRY_TARGET m.toNat) ∧
      t.get (MLS_STATUS_CODE m.toNat) = s.get (MLS_STATUS_CODE m.toNat) ∧ Frame (Foot.milestone []) s t) ∧
    (∀ cnt tgt : Option (BitVec 32), ∃ t, exec (.milestoneEntryWrite m cnt tgt) s = .next t ∧
      t.get (MLS_ENTRY_COUNT m.toNat) = (cnt.map (·.toNat)).getD (s.get (MLS_ENTRY_COUNT m.toNat)) ∧
      t.get (MLS_ENTRY_TARGET m.toNat) = (tgt.map (·.toNat)).getD (s.get (MLS_ENTRY_TARGET m.toNat)) ∧
      (t.get (MLS_STATUS_REACHED m.toNat) = 1 ↔
        t.get (MLS_ENTRY_TARGET m.toNat) ≤ t.get (MLS_ENTRY_COUNT m.toNat) ∨ t.get (MLS_STATUS_CODE m.toNat) ≠ 0) ∧
      Frame (Foot.milestone []) s t)

/-! Stations. -/

/-- STATION_QUIESCE (R60, R63): ENABLE becomes 0; a station other than a LINK, with no firing in progress, is then QUIESCED; a DESK stops at
its instruction and is QUIESCED at once; its program stays where it is. A LINK station loses the data cells that its unacknowledged frames
hold, and what it has queued on a data VC returns to where it came from (R64). STATION_RESUME (R55, R60, R427): ENABLE becomes 1, QUIESCED 0,
the step index stays, a chip in P1 returns to P0, and the watchdog of every stream of the station starts again where it was disabled.
STATION_ABORT (R61): with no vector firing in progress the station is disabled, QUIESCED and ABORT_DONE, its program back at step 0 and
waiting no more; each stream of which it held a tile is ABORTED; a vector firing in progress runs to its tile boundary first. An endpoint
that is no station takes none of these. -/
def Obligations.StationControlsStopResumeAndEmpty : Prop :=
  ((∀ (e : Endpt) (s : State), s.running = true → isStation e.toNat = false →
    exec (.stationQuiesce e) s = .next s ∧ exec (.stationResume e) s = .next s ∧ exec (.stationAbort e) s = .next s) ∧
  (∀ (e : Endpt) (s : State), s.running = true → isStation e.toNat = true →
    ∃ t, exec (.stationQuiesce e) s = .next t ∧ t.get (STN_CTRL_ENABLE e.toNat) = 0 ∧
      ((∀ v ∈ s.vecs, v.cluster.val * 8 + 4 ≠ e.toNat) → t.get (STN_STATUS_QUIESCED e.toNat) = 1) ∧
      ((∃ v ∈ s.vecs, v.cluster.val * 8 + 4 = e.toNat) → t.get (STN_STATUS_QUIESCED e.toNat) = 0 ∧
        t.get (STN_STATUS_BUSY e.toNat) = 1) ∧
      t.get (STN_STATUS_STEP_IDX e.toNat) = s.get (STN_STATUS_STEP_IDX e.toNat) ∧ t.slots = s.slots ∧ t.progs = s.progs ∧
      (isLink e.toNat = false → Frame (Foot.of (fun k => stationKeys e.toNat k ∨ deskKeys k) [] [.desks]) s t) ∧
      (isLink e.toNat = true →
        (∀ h ∈ t.heldFrames, h.link = e.toNat - 0x140 → ∀ c ∈ h.cells, isPad c = true ∨ c.vc = 0#3) ∧
        (∀ q ∈ t.txq, q.link = e.toNat - 0x140 → q.cell.vc = 0#3) ∧
        Frame (Foot.or (Foot.of (fun k => stationKeys e.toNat k ∨ deskKeys k) [] [.desks]) (Foot.linkStop (e.toNat - 0x140))) s t)) ∧
  (∀ (e : Endpt) (s : State), s.running = true → isStation e.toNat = true →
    ∃ t, exec (.stationResume e) s = .next t ∧ t.get (STN_CTRL_ENABLE e.toNat) = 1 ∧ t.get (STN_STATUS_QUIESCED e.toNat) = 0 ∧
      t.get (STN_STATUS_STEP_IDX e.toNat) = s.get (STN_STATUS_STEP_IDX e.toNat) ∧ t.get PWR_STATE_CTRL_IDLE = 0 ∧
      t.get PWR_STATE_STATUS_STATE = 0 ∧
      Frame (Foot.of (fun k => stationKeys e.toNat k ∨ streamKeys k ∨ k = PWR_STATE_STATUS_STATE.key ∨ k = PWR_STATE_CTRL_IDLE.key)
        [] []) s t)) ∧
  (∀ (e : Endpt) (s : State), s.running = true → isStation e.toNat = true →
    ∃ t, exec (.stationAbort e) s = .next t ∧ t.get (STN_CTRL_ENABLE e.toNat) = 0 ∧
      ((∃ v ∈ s.vecs, v.cluster.val * 8 + 4 = e.toNat) → t.get (STN_STATUS_QUIESCED e.toNat) = 0 ∧
        t.get (STN_STATUS_BUSY e.toNat) = 1 ∧ t.rd .abortDue e.toNat = 1 ∧
        Frame (Foot.of (stationKeys e.toNat) [.abortDue] []) s t) ∧
      ((∀ v ∈ s.vecs, v.cluster.val * 8 + 4 ≠ e.toNat) → t.get (STN_STATUS_QUIESCED e.toNat) = 1 ∧
        t.get (STN_STATUS_ABORT_DONE e.toNat) = 1 ∧ t.get (STN_STATUS_STEP_IDX e.toNat) = 0 ∧ t.waiting e.toNat 0 = false ∧
        (∀ d ∈ t.desks, d.cluster.val * 8 + 7 ≠ e.toNat) ∧
        (isVusyn e.toNat = false → (∀ n ∈ s.heldStreams e.toNat, t.get (STR_ABORTED n) = 1) ∧
          Frame (Foot.or (Foot.firing e.toNat (s.heldStreams e.toNat ++ s.boundStreams e.toNat))
            (Foot.or (if isLink e.toNat then Foot.linkStop (e.toNat - 0x140) else Foot.fields []) (Foot.leftOf e.toNat))) s t)))

/-! Firings. -/

/-- The end of a firing (R26, R33, R35, R36, R84): each output takes NEXT_SEQ and a credit of its stream and stands in a slot or waits
as cells, each input is consumed, poison is passed on, and the station goes to the step named next; nothing but those streams, their
milestones with what waits on these, the budget and the station's status changes. -/
def Obligations.FiringMovesTiles : Prop :=
  ∀ (e : Nat) (a : Alt) (outs : List (Nat × Tile)) (s : State),
    isStation e = true → a.streams.Nodup → (outs.map (·.1)).Nodup → (∀ o ∈ outs, o.1 ∈ a.outputs) →
    Fired e a outs s ((finishFiring e 0 a outs).run s) ∧ Frame (Foot.firing e a.streams) s ((finishFiring e 0 a outs).run s)

/-- CONVERT, STASH_ENC and STASH_DEC (R79–R90, R94), COPY (R83) and COMPENSATE (R172): a ready tile of an accepted format is converted
element by element, copied code by code where the raw codec stores it (that a tile of another exponent is converted is the model's choice,
log entry 30), copied whole, or updated with its compensation, and the firing moves the tiles; a tile whose result would be longer than
32,768 bytes is not consumed, and its stream gets BAD_HEADER. -/
def Obligations.ConverterFiringsConvertCopyCompensate : Prop :=
  ∀ (c : Cluster) (a : Alt) (s : State), s.running = true → a.streams.Nodup →
    s.firstReady (convEp c) 0 (fun a => s.altReady a && s.altFunded .vector (convEp c) 0 a) = some a →
    (∀ n ∈ a.inputs, headerValid (s.inputD n).head = true ∧ cwAccepts a.op (hFmt (s.inputD n).head) = true) →
    let ep := convEp c
    (∀ i o cmd, (cmd, cwKind a.op) ∈ [(Instr.convert c, 0), (.stashEnc c, 1), (.stashDec c, 2)] → a.inputs = [i] → a.outputs = [o] →
      let h := (s.inputD i).head
      let scaled := cwOutScaled a.op && scalable (cwDst a.op)
      let w := (elemBits (cwDst a.op)).getD 8
      let raw := rawStash a.op (s.tileExp h) (if scaled then s.slotExp (cwOutSlot a.op) else 0)
      (32768 < outLen (cwDst a.op) (hRows h) (hCols h) → s.get (STR_BAD_HEADER i) = 0 → exec cmd s = .next (s.rejected i)) ∧
      (outLen (cwDst a.op) (hRows h) (hCols h) ≤ 32768 →
      ∃ t pay, exec cmd s = .next t ∧ Fired ep a [(o, Tile.of (outHeader h (cwDst a.op) scaled (cwOutSlot a.op)) pay)] s t ∧
        (raw = true → ∀ r k, r < hRows h → k < hCols h →
          elemCode (outHeader h (cwDst a.op) scaled (cwOutSlot a.op)) pay w r k =
            elemCode h (s.inputD i).payload ((elemBits (hFmt h)).getD 8) r k) ∧
        (fmtBsk (cwDst a.op) = 0 → raw = false → ∀ r k, r < hRows h → k < hCols h →
          elemCode (outHeader h (cwDst a.op) scaled (cwOutSlot a.op)) pay w r k =
            (convertElem (cwDst a.op) (s.flushOf a) (s.satOf a)
              (srAt (cwRound a.op) s.seed (s.rd .stepTile o) o (s.stepNum (s.altGraph a)) r k)
              (((readElem (s.flushOf a) h (s.inputD i).payload r k).1.scale (-(s.tileExp h))).scale
                (if scaled then s.slotExp (cwOutSlot a.op) else 0))).1 % 2 ^ w) ∧
        Frame (Foot.or (Foot.firing ep a.streams) (Foot.fields [CLU_CONV_LOST_NONZERO_COUNT c, CLU_CONV_LOST_NONZERO_OVF c,
          CLU_CONV_AMAX_AMAX c (cwAmaxReg a.op), GLB_SCALE_SLOT_AMAX (cwOutSlot a.op), GLB_SCALE_SLOT_SAT_STEP (cwOutSlot a.op)])) s t)) ∧
    (∀ i o, cwKind a.op = 3 → a.inputs = [i] → a.outputs = [o] →
      ∃ t, exec (.copy c) s = .next t ∧ Fired ep a [(o, s.inputD i)] s t ∧ Frame (Foot.firing ep a.streams) s t) ∧
    (∀ p k u op oc, cwKind a.op = 4 → a.inputs = [p, k, u] → a.outputs = [op, oc] → s.compensateBad p k u = [] →
      let hp := (s.inputD p).head
      let rd (n r j : Nat) : Val × Nat :=
        readCode (s.flushOf a) (hFmt (s.inputD n).head)
          (elemCode (s.inputD n).head (s.inputD n).payload ((elemBits (hFmt (s.inputD n).head)).getD 8) r j)
      outLen 0x09 (hRows hp) (hCols hp) ≤ 32768 →
      ∃ t pp pc, exec (.compensate c) s = .next t ∧
        Fired ep a [(op, Tile.of (outHeader hp 0x09 false 0) pp), (oc, Tile.of (outHeader (s.inputD k).head 0x09 false 0) pc)] s t ∧
        (∀ r j, r < hRows hp → j < hCols hp →
          elemCode (outHeader hp 0x09 false 0) pp 16 r j =
            (compensateElem (s.flushOf a) (s.satOf a) (rd p r j) (rd k r j) (rd u r j)).1 % 2 ^ 16 ∧
          elemCode (outHeader hp 0x09 false 0) pc 16 r j =
            (compensateElem (s.flushOf a) (s.satOf a) (rd p r j) (rd k r j) (rd u r j)).2.1 % 2 ^ 16) ∧
        Frame (Foot.or (Foot.firing ep a.streams) (Foot.fields [CLU_CONV_AMAX_AMAX c (cwAmaxReg a.op)])) s t)

/-- A firing command with no ready alternative does nothing (R36): an enabled station with a program then waits, which its WAITING bit
shows (R59); an input whose header fails R24, or whose format its kind does not accept (R25, R505), is not consumed: its stream gets
BAD_HEADER, once an event waits for its record (R477), and nothing else changes. -/
def Obligations.StationsWaitAndRejectBadInput : Prop :=
  ∀ (c : Cluster) (u : CheckUnit) (s : State), s.running = true →
    let ready (a : Alt) : Bool := s.altReady a && s.altFunded .vector (convEp c) 0 a
    (∀ cmd ∈ [Instr.convert c, .stashEnc c, .stashDec c, .copy c, .compensate c], s.firstReady (convEp c) 0 ready = none →
      exec cmd s = .next s) ∧
    (s.get (STN_CTRL_ENABLE (convEp c)) = 1 → (s.curStep (convEp c) 0).isSome = true →
      (s.waiting (convEp c) 0 = true ↔ s.firstReady (convEp c) 0 ready = none)) ∧
    (∀ cmd ∈ [Instr.fold u, .checkSeal u, .verify u], s.get (STN_CTRL_ENABLE (0x180 + u.val)) = 0 → exec cmd s = .next s) ∧
    (∀ a i cmd, a.inputs = [i] → s.firstReady (convEp c) 0 ready = some a →
      (cmd, cwKind a.op) ∈ [(Instr.convert c, 0), (.stashEnc c, 1), (.stashDec c, 2), (.copy c, 3), (.compensate c, 4)] →
      (headerValid (s.inputD i).head = false ∨ cwAccepts a.op (hFmt (s.inputD i).head) = false) →
      s.get (STR_BAD_HEADER i) = 0 →
      exec cmd s = .next (s.rejected i))

/-- The clears of event counters (R87, R117, R207, R242, R270, R310, R340, R448, R463, R473): the named counter and its OVF read 0
(R471), CLR_AMAX gives +0, a masked clear acts on the counters whose bit is set, the lag record is emptied; nothing else changes. -/
def Obligations.CounterClearsZeroTheirCounters : Prop :=
  ∀ (c : Cluster) (b : BenchIx) (ch : Shelf) (u : CheckUnit) (l : Link) (s : State), s.running = true →
    (∀ q ∈ [(Instr.clrLost c, CLU_CONV_LOST_NONZERO_COUNT c, CLU_CONV_LOST_NONZERO_OVF c),
        (.clrChkfailL c b, CLU_BENCH_CHKFAIL_L_COUNT c b, CLU_BENCH_CHKFAIL_L_OVF c b),
        (.clrChkfailH c b, CLU_BENCH_CHKFAIL_H_COUNT c b, CLU_BENCH_CHKFAIL_H_OVF c b),
        (.clrChkskip c b, CLU_BENCH_CHKSKIP_COUNT c b, CLU_BENCH_CHKSKIP_OVF c b),
        (.drwClrCe c, CLU_DRW_ECC_CE_COUNT c, CLU_DRW_ECC_CE_OVF c), (.drwClrUe c, CLU_DRW_ECC_UE_COUNT c, CLU_DRW_ECC_UE_OVF c),
        (.shfClrCe ch, SHF_ECC_CE_COUNT ch, SHF_ECC_CE_OVF ch), (.shfClrUe ch, SHF_ECC_UE_COUNT ch, SHF_ECC_UE_OVF ch),
        (.clrFltLost, CNT_FLT_LOST_COUNT, CNT_FLT_LOST_OVF), (.clrDrainDrop, CNT_DRAIN_DROP_COUNT, CNT_DRAIN_DROP_OVF),
        (.clrMismatch u, CHK_MISMATCH_COUNT u, CHK_MISMATCH_OVF u)],
      ∃ t, exec q.1 s = .next t ∧ t.get q.2.1 = 0 ∧ t.get q.2.2 = 0 ∧ Frame (Foot.fields [q.2.1, q.2.2]) s t) ∧
    (∀ k : Fin 8, exec (.clrAmax c k) s = .next (s.set (CLU_CONV_AMAX_AMAX c k) 0)) ∧
    (∀ mask : Nat, ∀ q ∈ [(Instr.routerCounterClear (BitVec.ofNat 9 mask), 9, LNK_RT_COUNTER_COUNT, LNK_RT_COUNTER_OVF),
        (.linkCounterClear l (BitVec.ofNat 8 mask), 8, LNK_COUNTER_COUNT l, LNK_COUNTER_OVF l),
        (.collCounterClear (BitVec.ofNat 5 mask), 5, VSY_CNT_COUNT, VSY_CNT_OVF),
        (.gradCounterClear (BitVec.ofNat 3 mask), 3, VSY_GRAD_CNT_COUNT, VSY_GRAD_CNT_OVF),
        (.chestCounterClear (BitVec.ofNat 6 mask), 6, CHS_COUNTER_COUNT, CHS_COUNTER_OVF)],
      ∃ t, exec q.1 s = .next t ∧
        (∀ i < q.2.1, t.get (q.2.2.1 i) = (if bitAt mask i then 0 else s.get (q.2.2.1 i)) ∧
          t.get (q.2.2.2 i) = (if bitAt mask i then 0 else s.get (q.2.2.2 i))) ∧
        Frame (Foot.fields (((List.range q.2.1).map q.2.2.1) ++ ((List.range q.2.1).map q.2.2.2))) s t) ∧
    (∃ t, exec .lagClear s = .next t ∧ t.get VSY_LAGGARD_VALID = 0 ∧
      (∀ i < 1024, t.get (VSY_LAG_LAST_COUNT i) = 0 ∧ t.get (VSY_LAG_SUM_COUNT i) = 0 ∧ t.get (VSY_LAG_SUM_OVF i) = 0) ∧
      Frame (Foot.of (fun k => inBytes 0x02240108 0x02240110 k ∨ inBytes 0x02270000 0x02274000 k) [] []) s t)

/-! Benches. -/

/-- BENCH_LOAD and BENCH_STREAM (R98–R107, R114), CLR_ACC (R117). LOAD: a valid stationary tile of the shape and format that the step names
is loaded and consumed, one with K = 0 is loaded without a tile, and another tile gets BAD_HEADER. STREAM: each element is its initial value
(the accumulator's, a bias's, or 0) with the dot product of its row and column; with DRAIN = 1 the sums leave on the output, or in two
halves on two; with KEEP = 1 they stand in the accumulator; the inputs are consumed, the rows that are left are counted, and the last of
them ends the step; a firing that R100 does not let start gets BAD_HEADER on its first stream. A quiesced bench's accumulator is zeroed. The
order in which firings overlap and what stalls them come with the command. -/
def Obligations.BenchLoadsStreamsAndClears : Prop :=
  ∀ (c : Cluster) (b : BenchIx) (half : Bool) (part : Nat) (overlap stall : BitVec 16) (s : State), s.running = true →
    (∀ a : Alt, s.benchPart c b half = some part → a.streams.Nodup →
      s.firstReady (benchEp c b) part (s.benchReady c b part) = some a → bwKind a.op = 1 →
      (∀ i, a.inputs = [i] → a.outputs = [] → bwLoadK a.op ≠ 0 →
        let h := (s.inputD i).head
        let fits : Bool := headerValid h && hFmt h = bwFmt a.op && hRows h = bwLoadN a.op && hCols h = bwLoadK a.op
        (fits = true → ∃ t, exec (.benchLoad c b half overlap) s = .next t ∧ Moved a [] s t ∧ t.loaded c b part = true ∧
          t.loadedK c b part = bwLoadK a.op ∧ t.loadedN c b part = bwLoadN a.op ∧ t.loadedFmt c b part = bwFmt a.op ∧
          t.rd .stationary (partIx c b part) = (s.inputD i).raw ∧
          Frame (Foot.or (Foot.firing (benchEp c b) a.streams) (Foot.bench c b)) s t) ∧
        (fits = false → s.get (STR_BAD_HEADER i) = 0 → exec (.benchLoad c b half overlap) s = .next (s.rejected i))) ∧
      (bwLoadK a.op = 0 → ∃ t, exec (.benchLoad c b half overlap) s = .next t ∧ t.loaded c b part = true ∧
        t.loadedK c b part = 0 ∧ t.loadedN c b part = bwLoadN a.op ∧ t.loadedFmt c b part = bwFmt a.op ∧ t.slots = s.slots ∧
        Frame (Foot.or (Foot.firing (benchEp c b) []) (Foot.bench c b)) s t)) ∧
    (∀ (a : Alt) (ia ib : Option Nat), s.benchPart c b half = some part → a.streams.Nodup →
      s.firstReady (benchEp c b) part (s.benchReady c b part) = some a → bwKind a.op = 2 →
      streamBinds (s.loadedK c b part) a = (ia, ib) →
      let k := s.loadedK c b part
      let n := s.loadedN c b part
      let h := (ia.map fun i => (s.inputD i).head).getD 0
      let st : Tile := ⟨s.rd .stationary (partIx c b part)⟩
      let ewc := s.rd .statExp (partIx c b part)
      let scaled := (hScaled h && scalable (hFmt h)) || ewc ≠ 0
      let fmt := outFmtOf (bwFmt a.op) (k ≠ 0 && scaled)
      let left := s.benchLeft c b part (bwM a.op)
      let r := match ia with
        | some _ => hRows h
        | none => min 128 left
      let row (y : Tile) (i : Nat) : List (Val × Nat) := (List.range k).map fun q => readElem (s.flushOf a) y.head y.payload i q
      let first := s.rd .streamRow (partIx c b part)
      let bias : List Nat := match ib with
        | some i => (List.range n).map fun j => elemCode (s.inputD i).head (s.inputD i).payload 32 0 j
        | none => []
      let val (i j : Nat) : Nat :=
        let init := ((s.initRow c b part a.op n (first + i) bias)[j]?).getD 0
        let ai := (ia.map fun x => row (s.inputD x) i).getD []
        if fmt = 3 then (satInt 32 (signed 32 init + dotInt ai (row st j))).1
        else (dotFloat (bwFmt a.op) (s.flushOf a) (s.tileExp h + expOfCode ewc) init ai (row st j)).1
      (s.streamBlocked c b part a ia = true → ∀ i, streamReport a = some i → s.get (STR_BAD_HEADER i) = 0 →
        exec (.benchStream c b half overlap stall) s = .next (s.rejected i)) ∧
      (s.streamBlocked c b part a ia = false →
        (∀ i, ib = some i → headerValid (s.inputD i).head = true ∧ hRows (s.inputD i).head = 1 ∧ hCols (s.inputD i).head = n ∧
          hFmt (s.inputD i).head = fmt) →
        ∃ t, exec (.benchStream c b half overlap stall) s = .next t ∧ (∀ i ∈ a.inputs, Consumed s t i) ∧
          (bwDrain a.op = true → ∀ q o, a.outputs[q]? = some o → ∃ y, Emitted s t o y ∧ hFmt y.head = fmt ∧ hRows y.head = r ∧
            hCols y.head = (if a.outputs.length = 1 then n else if q = 0 then 64 else n - 64) ∧
            ∀ i j, i < r → j < hCols y.head → elemCode y.head y.payload 32 i j = val i (64 * q + j) % 2 ^ 32) ∧
          (bwKeep a.op = true → ∀ i j, i < r → j < n →
            bits (t.rd .accRow ((c.val * 4 + b.val) * 1024 + (bwAccBase a.op + first + i) % 1024)) (32 * (partCol part + j)) 32 =
              val i j % 2 ^ 32) ∧
          (if part = 2 then t.get (CLU_BENCH_LEFT_H_ROWS c b) else t.get (CLU_BENCH_LEFT_L_ROWS c b)) = left - r ∧
          (part = 0 → left = r → Advanced (benchEp c b) s t) ∧
          Frame (Foot.or (Foot.firing (benchEp c b) a.streams) (Foot.bench c b)) s t)) ∧
    (∃ t, exec (.clrAcc c b) s = .next t ∧
      (∀ r < 1024, t.rd .accRow ((c.val * 4 + b.val) * 1024 + r) =
          (if s.get (STN_STATUS_QUIESCED (benchEp c b)) = 1 then 0 else s.rd .accRow ((c.val * 4 + b.val) * 1024 + r)) ∧
        t.rd .accPoison ((c.val * 4 + b.val) * 1024 + r) =
          (if s.get (STN_STATUS_QUIESCED (benchEp c b)) = 1 then 0 else s.rd .accPoison ((c.val * 4 + b.val) * 1024 + r))) ∧
      Frame (Foot.of (fun _ => False) [.accRow, .accPoison] []) s t)

/-! Memory. -/

/-- MEM_WRITE and MEM_READ (R174, R188, R192, R200–R203): a valid tile that fits is stored as its record, byte for byte, and no other
byte changes, and another tile gets BAD_HEADER; a record whose header is sound and fits is emitted, poisoned where a unit is uncorrectable,
in the state `u` that the errors which struck it leave; LEFT falls by one, and the last record ends the step. -/
def Obligations.MemoryFiringsStoreAndEmitRecords : Prop :=
  ∀ (e : Endpt) (a : Alt) (off cap : Nat) (s : State), s.running = true → isMemory e.toNat = true → a.streams.Nodup →
    (∀ i, s.firstReady e.toNat 0 (s.memReady e.toNat) = some a → s.recordAt e.toNat a = some (off, cap) →
      mwKind a.op = 1 → a.inputs = [i] → a.outputs = [] →
      ((headerValid (s.inputD i).head = false ∨ cap < (s.inputD i).recordLen) → s.get (STR_BAD_HEADER i) = 0 →
        exec (.memWrite e) s = .next (s.rejected i)) ∧
      (headerValid (s.inputD i).head = true → (s.inputD i).recordLen ≤ cap →
      ∃ t, exec (.memWrite e) s = .next t ∧ Moved a [] s t ∧
        (∀ x, t.byte x =
          if memBase (memOf e.toNat) + off ≤ x ∧ x < memBase (memOf e.toNat) + off + (s.inputD i).recordLen
          then (s.inputD i).record.getD (x - (memBase (memOf e.toNat) + off)) 0#8 else s.byte x) ∧
        t.get (leftField e.toNat) = s.recordsLeft e.toNat a - 1 ∧
        (mwView a.op = 2 → t.get (GLB_STEP_STATE_NEXT_DIRTY (s.altGraph a)) = 1) ∧
        (s.recordsLeft e.toNat a = 1 → Advanced e.toNat s t) ∧
        Frame (Foot.memory e.toNat a.streams (s.altGraph a) (memBase (memOf e.toNat) + off) (s.inputD i).recordLen) s t)) ∧
    (∀ (o : Nat) (strikes : List (Nat × Nat)),
      let u := (Act.each strikes fun x => strike (memOf e.toNat) x.1 x.2).run s
      u.firstReady e.toNat 0 (u.memReady e.toNat) = some a → u.recordAt e.toNat a = some (off, cap) →
      mwKind a.op = 2 → a.inputs = [] → a.outputs = [o] →
      let h := Mem.nat s.mem (memBase (memOf e.toNat) + off) 32
      let n := 32 + hPayloadLen h
      (u.rangeBad (memOf e.toNat) off 64 = false → headerValid h = true → n ≤ cap →
        ∃ t, exec (.memRead e strikes) s = .next t ∧
          Moved a [(o, (Tile.mk (Mem.nat s.mem (memBase (memOf e.toNat) + off) n)).withPoison
            (u.rangeBad (memOf e.toNat) off n))] u t ∧
          t.get (leftField e.toNat) = s.recordsLeft e.toNat a - 1 ∧ (s.recordsLeft e.toNat a = 1 → Advanced e.toNat s t) ∧
          Frame (Foot.memory e.toNat a.streams 0 0 0) s t) ∧
      (u.rangeBad (memOf e.toNat) off 64 = true ∨ headerValid h = false ∨ cap < n →
        ∃ t, exec (.memRead e strikes) s = .next t ∧ t.get (STR_BAD_HEADER o) = 1 ∧
          t.get (STN_STATUS_STEP_IDX e.toNat) = s.get (STN_STATUS_STEP_IDX e.toNat) ∧ t.slots = s.slots ∧ t.egress = s.egress ∧
          Frame (Foot.memory e.toNat [o] 0 0 0) s t))

/-- DRAWER_SCRUB, SHELF_SCRUB and SHELF_REFRESH (R188, R189, R192–R194): with what the check bits show after an error has struck, a single
error is counted and corrected, an uncorrectable one counted and kept (in a shelf as poison, unless a write reached the line first);
data keeps its bytes; a stall charges the firing that it stops. -/
def Obligations.ScrubsCorrectAndCount : Prop :=
  ∀ (s : State), s.running = true →
    (∀ (c : Cluster) (w : BitVec 21) (err : Fin 3),
      let k := 2 ^ 21 * c.val + w.toNat
      let e := min 2 (s.rd .drwErr k + err.val)
      ∃ t, exec (.drawerScrub c w err) s = .next t ∧ t.rd .drwErr k = (if e ≤ 1 then 0 else e) ∧
        t.get (CLU_DRW_ECC_CE_COUNT c) =
          (if e = 1 then min (s.get (CLU_DRW_ECC_CE_COUNT c) + 1) (2 ^ 48 - 1) else s.get (CLU_DRW_ECC_CE_COUNT c)) ∧
        t.get (CLU_DRW_ECC_UE_COUNT c) =
          (if 2 ≤ e then min (s.get (CLU_DRW_ECC_UE_COUNT c) + 1) (2 ^ 48 - 1) else s.get (CLU_DRW_ECC_UE_COUNT c)) ∧
        (e = 0 → t.faultDue = s.faultDue) ∧
        Frame (Foot.or (Foot.fields [CLU_DRW_ECC_CE_COUNT c, CLU_DRW_ECC_CE_OVF c, CLU_DRW_ECC_UE_COUNT c, CLU_DRW_ECC_UE_OVF c,
          CLU_DRW_ERR_LOG_WORD c, CLU_DRW_ERR_LOG_UE c, CLU_DRW_ERR_LOG_SCRUB c, CLU_DRW_ERR_LOG_VALID c])
          ⟨fun _ => False, fun b x => b = .drwErr ∧ x = k, fun _ => False, fun p => p = .faultDue⟩) s t) ∧
    (∀ (ch : Shelf) (line : BitVec 32) (err : Fin 17) (raced : Bool) (stalled : Option Graph) (n : BitVec 16),
      let k := 2 ^ 32 * ch.val + line.toNat
      let e := joinErr (64 + ch.val) (s.rd .shfErr k) err.val
      ∃ t, exec (.shelfScrub ch line err raced stalled n) s = .next t ∧
        t.rd .shfErr k = (if raced ∨ e ≤ 10 then 0 else 16) ∧
        t.get (SHF_ECC_CE_COUNT ch) =
          (if 1 ≤ e ∧ e ≤ 10 then min (s.get (SHF_ECC_CE_COUNT ch) + 1) (2 ^ 48 - 1) else s.get (SHF_ECC_CE_COUNT ch)) ∧
        t.get (SHF_ECC_UE_COUNT ch) =
          (if 11 ≤ e then min (s.get (SHF_ECC_UE_COUNT ch) + 1) (2 ^ 48 - 1) else s.get (SHF_ECC_UE_COUNT ch)) ∧
        (e = 0 → t.faultDue = s.faultDue) ∧ (stalled = none → t.allow = s.allow) ∧
        (∀ g, stalled = some g → t.allowance (allowKey (0x130 + ch) 0 g) = s.allowance (allowKey (0x130 + ch) 0 g) - n.toNat) ∧
        Frame (Foot.or (Foot.fields [SHF_ECC_CE_COUNT ch, SHF_ECC_CE_OVF ch, SHF_ECC_UE_COUNT ch, SHF_ECC_UE_OVF ch,
          SHF_ERR_LOG_LINE ch, SHF_ERR_LOG_DEVICE ch, SHF_ERR_LOG_UE ch, SHF_ERR_LOG_SCRUB ch, SHF_ERR_LOG_VALID ch])
          ⟨fun _ => False, fun b x => (b = .shfErr ∧ x = k) ∨ b = .fireLen, fun _ => False,
            fun p => p = .faultDue ∨ p = .allow⟩) s t) ∧
    (∀ (ch : Shelf) (g : Graph) (n : BitVec 16),
      ∃ t, exec (.shelfRefresh ch (some g) n) s = .next t ∧
        t.allowance (allowKey (0x130 + ch) 0 g) = s.allowance (allowKey (0x130 + ch) 0 g) - n.toNat ∧
        Frame (Foot.of (fun _ => False) [.fireLen] [.allow]) s t) ∧
    (∀ (ch : Shelf) (n : BitVec 16), exec (.shelfRefresh ch none n) s = .next s)

/-! Check-value units. -/

/-- FOLD, SEAL and VERIFY (R441, R444–R446, R449, R477): FOLD passes the tile on and keeps the register; SEAL appends the check value;
VERIFY takes it off, and where it differs poisons the tile, counts, and leaves an event for its record; the last two start the register
again from INIT. A tile that would grow too long, or is too short to hold a check value, gets BAD_HEADER; a unit that checks a queue frame
waits. CHECK_STATE_WRITE and CHECK_CONFIG_WRITE (R448): on a quiesced station between queue frames a write of the register, and one that
leaves the configuration valid, take effect; every other sets WR_REJECT, and nothing else changes. -/
def Obligations.CheckUnitsFoldSealVerifyAndTakeWrites : Prop :=
  (∀ (u : CheckUnit) (s : State), s.get (CHK_STATUS_QBUSY u) = 1 →
    exec (.fold u) s = .next s ∧ exec (.checkSeal u) s = .next s ∧ exec (.verify u) s = .next s) ∧
  (∀ (u : CheckUnit) (a : Alt) (i : Nat) (s : State), s.running = true → s.get (CHK_STATUS_QBUSY u) = 0 → a.streams.Nodup →
    a.inputs = [i] → s.firstReady (0x180 + u.val) 0 s.altReady = some a → headerValid (s.inputD i).head = true →
    let x := s.inputD i
    let c := s.chkCfg u
    let k := hPayloadLen x.head
    let scope : Bool := s.get (CHK_CFG_SCOPE u) = 1
    let out (y : Tile) : List (Nat × Tile) := a.outputs.map fun o => (o, y)
    (ckKind a.op = 1 →
      let r := c.fold (s.chkStart u a) (foldedBytes scope x.head x.payload)
      ∃ t, exec (.fold u) s = .next t ∧ Fired (0x180 + u.val) a (out x) s t ∧ t.get (CHK_STATE_VALUE u) = r % 2 ^ 64 ∧
        t.get (CHK_RESULT_VALUE u) = c.check r % 2 ^ 64 ∧
        Frame (Foot.or (Foot.firing (0x180 + u.val) a.streams) (Foot.fields [CHK_STATE_VALUE u, CHK_RESULT_VALUE u])) s t) ∧
    (ckKind a.op = 2 → 32768 < k + c.bytes → s.get (STR_BAD_HEADER i) = 0 → exec (.checkSeal u) s = .next (s.rejected i)) ∧
    (ckKind a.op = 3 → (k < c.bytes ∨ headerValid (withLen x.head (k - c.bytes)) = false) → s.get (STR_BAD_HEADER i) = 0 →
      exec (.verify u) s = .next (s.rejected i)) ∧
    (ckKind a.op = 2 → k + c.bytes ≤ 32768 →
      let v := c.check (c.fold (s.chkStart u a) (foldedBytes scope x.head x.payload))
      ∃ t, exec (.checkSeal u) s = .next t ∧
        Fired (0x180 + u.val) a
          (out (Tile.of (withLen x.head (k + c.bytes)) (x.payload % 2 ^ (8 * k) + v <<< (8 * k)))) s t ∧
        t.get (CHK_STATE_VALUE u) = s.get (CHK_INIT_VALUE u) ∧ t.get (CHK_RESULT_VALUE u) = v % 2 ^ 64 ∧
        Frame (Foot.or (Foot.firing (0x180 + u.val) a.streams) (Foot.fields [CHK_STATE_VALUE u, CHK_RESULT_VALUE u])) s t) ∧
    (ckKind a.op = 3 → c.bytes ≤ k → headerValid (withLen x.head (k - c.bytes)) = true →
      let h := withLen x.head (k - c.bytes)
      let v := c.check (c.fold (s.chkStart u a) (foldedBytes scope h x.payload))
      let bad : Bool := bits x.payload (8 * (k - c.bytes)) (8 * c.bytes) ≠ v
      ∃ t, exec (.verify u) s = .next t ∧
        Fired (0x180 + u.val) a (out ((Tile.of h (x.payload % 2 ^ (8 * (k - c.bytes)))).withPoison bad)) s t ∧
        t.get (CHK_STATE_VALUE u) = s.get (CHK_INIT_VALUE u) ∧
        t.get (CHK_MISMATCH_COUNT u) =
          (if bad then min (s.get (CHK_MISMATCH_COUNT u) + 1) (2 ^ 48 - 1) else s.get (CHK_MISMATCH_COUNT u)) ∧
        (bad = true → ∀ n ∈ a.streams, t.get (STR_POISONED n) = 1) ∧
        t.faultDue = s.faultDue ++ (if bad then [⟨15, 0x180 + u.val, s.chipId, s.altGraph a, hSeq h⟩] else []) ∧
        Frame (Foot.or (Foot.firing (0x180 + u.val) a.streams) (Foot.of (fun k => k ∈ [(CHK_STATE_VALUE u).key,
          (CHK_RESULT_VALUE u).key, (CHK_MISMATCH_COUNT u).key, (CHK_MISMATCH_OVF u).key]) [] [.faultDue])) s t)) ∧
  (∀ (u : CheckUnit) (v : BitVec 64) (s : State), s.running = true →
    (s.chkOpen u = true → exec (.checkStateWrite u v) s = .next (s.set (CHK_STATE_VALUE u) v.toNat)) ∧
    (∀ q ∈ [((1 : Fin 4), { s.chkCfg u with poly := v.toNat }, CHK_POLY_VALUE u.val),
        (2, { s.chkCfg u with init := v.toNat }, CHK_INIT_VALUE u.val), (3, { s.chkCfg u with xorout := v.toNat }, CHK_XOROUT_VALUE u.val)],
      exec (.checkConfigWrite u q.1 v) s =
        .next (if s.chkOpen u && CrcCfg.valid q.2.1 then s.set q.2.2 v.toNat else s.set (CHK_STATUS_WR_REJECT u) 1)) ∧
    ((CrcCfg.valid { s.chkCfg u with width := v.toNat % 128 }) = false →
      exec (.checkConfigWrite u 0 v) s = .next (s.set (CHK_STATUS_WR_REJECT u) 1)) ∧
    (s.chkOpen u = true → (CrcCfg.valid { s.chkCfg u with width := v.toNat % 128 }) = true →
      ∃ t, exec (.checkConfigWrite u 0 v) s = .next t ∧ t.get (CHK_CFG_WIDTH u) = bits v.toNat 0 7 ∧
        t.get (CHK_CFG_REFIN u) = bits v.toNat 8 1 ∧ t.get (CHK_CFG_REFOUT u) = bits v.toNat 9 1 ∧
        t.get (CHK_CFG_SCOPE u) = bits v.toNat 10 1 ∧
        Frame (Foot.fields [CHK_CFG_WIDTH u, CHK_CFG_REFIN u, CHK_CFG_REFOUT u, CHK_CFG_SCOPE u]) s t) ∧
    (s.chkOpen u = false → exec (.checkStateWrite u v) s = .next (s.set (CHK_STATUS_WR_REJECT u) 1) ∧
      ∀ reg, exec (.checkConfigWrite u reg v) s = .next (s.set (CHK_STATUS_WR_REJECT u) 1)))

/-! The vector engine. -/

/-- VEC_RUN and VEND (R40, R122–R126): a ready alternative is admitted with its tiles, the desk's registers and ENTRY, and the 8 cycles
before its first instruction are charged; one with an input that fails R24 gets BAD_HEADER there, and a busy engine admits nothing. VEND
gives the queued values to the desk, sends each output that is valid, marks each that is not, consumes the inputs, and ends the firing; an
abort that waits for this boundary is then done. -/
def Obligations.VecFiringStartsAndEnds : Prop :=
  ∀ (c : Cluster) (s : State), s.running = true →
    (∀ v, s.vec c = some v → exec (.vecRun c) s = .next s) ∧
    (∀ a i, s.vec c = none → s.firstReady (vecEp c) 0 (fun a => s.altReady a && s.altFunded .vector (vecEp c) 0 a) = some a →
      bits a.op 0 4 = 1 → s.badInputs a = [i] → s.get (STR_BAD_HEADER i) = 0 → exec (.vecRun c) s = .next (s.rejected i)) ∧
    (∀ a, s.vec c = none → s.firstReady (vecEp c) 0 (fun a => s.altReady a && s.altFunded .vector (vecEp c) 0 a) = some a →
      bits a.op 0 4 = 1 → s.badInputs a = [] →
      ∃ t v, exec (.vecRun c) s = .next t ∧ t.vec c = some v ∧ v.alt = a ∧ v.graph = s.altGraph a ∧ v.flush = s.flushOf a ∧
        v.satEn = s.satOf a ∧ (∀ r < 64, v.sreg r = s.sreg c r) ∧
        (∀ (b n : Nat), a.ins[b]? = some (some n) → v.tiles[b]? = some (s.inputD n)) ∧
        (∀ n, a.ins[0]? = some (some n) → v.heads = [(s.inputD n).head, (s.inputD n).head]) ∧ v.bufs = [0, 0] ∧
        v.ord = s.rd .vecOrd (8 * c + s.altGraph a) ∧ v.clock = 8 ∧
        (a.streams ≠ [] → t.allowance (allowKey (vecEp c) 0 v.graph) = s.allowance (allowKey (vecEp c) 0 v.graph) - 8) ∧
        t.get (CLU_VEC_STATE_PC c) = bits a.op 4 11 ∧ t.get (STN_STATUS_BUSY (vecEp c)) = 1 ∧
        t.get (STN_STATUS_QUIESCED (vecEp c)) = 0 ∧ t.get (GLB_STEP_STATE_IDLE (s.altGraph a)) = 0 ∧
        Frame (Foot.of (fun k => inBytes (0x01004008 + c * 0x10000) (0x01004010 + c * 0x10000) k ∨ stationKeys (vecEp c) k ∨
          k = (GLB_STEP_STATE_IDLE (s.altGraph a)).key) [.vecOrd, .fireLen] [.vecs, .allow]) s t) ∧
    (∀ v, s.vec c = some v → v.alt.streams.Nodup → s.vecNext c = some (.vend c) →
      ∃ t, exec (.vend c) s = .next t ∧ t.vec c = none ∧
        (s.rd .abortDue (vecEp c) ≠ 1 →
          (∀ b n : Nat, v.alt.outs[b]? = some (some n) →
            if headerValid (v.outTile b).head = true ∧ bitAt v.failed b = false
            then Emitted s t n (s.sent v.alt n (v.outTile b))
            else t.get (STR_BAD_HEADER n) = 1 ∧ t.get (STR_NEXT_SEQ n) = s.get (STR_NEXT_SEQ n)) ∧
          (∀ n ∈ v.alt.inputs, Consumed s t n) ∧ Advanced (vecEp c) s t ∧
          (∀ r x, s.desk c = none → r ≠ 0#6 → (r, x) ∈ v.vouts → (∀ o ∈ v.vouts, o.1 = r → o.2 = x) → t.sreg c r.toNat = x % 2 ^ 32) ∧
          Frame (Foot.or (Foot.firing (vecEp c) v.alt.streams) (Foot.of (fun k =>
            inBytes (0x01004008 + c * 0x10000) (0x01004010 + c * 0x10000) k ∨ k = (GLB_STEP_STATE_IDLE v.graph).key) []
            [.vecs, .faultDue])) s t) ∧
        (s.rd .abortDue (vecEp c) = 1 → t.get (STN_STATUS_STEP_IDX (vecEp c)) = 0 ∧ t.get (STN_STATUS_ABORT_DONE (vecEp c)) = 1 ∧
          t.rd .abortDue (vecEp c) = 0 ∧ (∀ x, t.byte x = s.byte x)))

/-- Integer element operations (R130, R131): VADD, VSUB and VMUL saturate; VMAX, VMIN, VABS and VNEG; VDOT4; the bitwise operations and
shifts, whose count is taken modulo the width. -/
def Obligations.VecIntegerElements : Prop :=
  ∀ (c : Cluster) (i : VInsn) (v : VecFiring) (s : State), s.running = true → s.vec c = some v → i.et.toNat ≤ 1 →
    let w := etWidth i.et.toNat
    let A (e : Nat) : Nat := s.elemA c i w e
    let B (e : Nat) : Nat := s.elemB v i w e
    let x (e : Nat) : Int := signed w (A e)
    let y (e : Nat) : Int := signed w (B e)
    (∀ q ∈ [(Instr.vadd c i, fun e => (satInt w (x e + y e)).1), (.vsub c i, fun e => (satInt w (x e - y e)).1),
        (.vmul c i, fun e => (satInt w (x e * y e)).1), (.vmax c i, fun e => if x e < y e then B e else A e),
        (.vmin c i, fun e => if x e < y e then A e else B e), (.vabs c i, fun e => (satInt w (x e).natAbs).1),
        (.vneg c i, fun e => (satInt w (-(x e))).1), (.vand c i, fun e => A e &&& B e), (.vor c i, fun e => A e ||| B e),
        (.vxor c i, fun e => A e ^^^ B e), (.vshl c i, fun e => A e <<< (B e % w)), (.vshr c i, fun e => A e >>> (B e % w)),
        (.vsar c i, fun e => unsigned w (x e >>> (B e % w)))],
      s.vecNext c = some q.1 → VecRuns q.1 c v i w (fun _ => true) q.2 s) ∧
    (i.et = 0 → s.vecNext c = some (.vdot4 c i) → VecRuns (.vdot4 c i) c v i 32 (fun _ => true) (fun e =>
      (satInt 32 (signed 32 (s.elemC c i 32 e) +
        ((List.range 4).map fun j => signed 8 (s.elemA c i 8 (4 * e + j)) * signed 8 (s.elemB v i 8 (4 * e + j))).sum)).1) s)

/-- Float element operations (R130, R131): a NaN operand gives the canonical NaN, and otherwise one operation and one rounding; VMAX and
VMIN, VABS and VNEG also on the 8-bit formats; VFMA rounds once; VRCP to VSQRT on FP32; VDOT2 rounds its exact sum once. -/
def Obligations.VecFloatElements : Prop :=
  ∀ (c : Cluster) (i : VInsn) (v : VecFiring) (s : State), s.running = true → s.vec c = some v →
    let et := i.et.toNat
    let w := etWidth et
    let pc := s.get (CLU_VEC_STATE_PC c)
    let A (e : Nat) : Nat := s.elemA c i w e
    let B (e : Nat) : Nat := s.elemB v i w e
    let op2 (f : Val → Val → Val × Nat) (e : Nat) : Nat := (floatOp v et et (s.vecRnd v i pc e) [A e, B e] (bin f)).1
    let op1 (f : Val → Val × Nat) (e : Nat) : Nat :=
      (floatOp v et et (s.vecRnd v i pc e) [A e] fun l => match l with | [x] => f x | _ => (.nan, 0)).1
    (2 ≤ et → et ≤ 4 → ∀ q ∈ [(Instr.vadd c i, op2 Val.add), (.vsub c i, op2 fun a b => a.add b.neg), (.vmul c i, op2 Val.mul),
        (.vfma c i, fun e => (floatOp v et et (s.vecRnd v i pc e) [A e, B e, s.elemC c i w e] fun l =>
          match l with | [a, b, d] => fusedMul a b d | _ => (.nan, 0)).1)],
      s.vecNext c = some q.1 → VecRuns q.1 c v i w (fun _ => true) q.2 s) ∧
    (2 ≤ et → et ≤ 6 → ∀ q ∈ [
        (Instr.vmax c i, fun e => (floatOp v et et .rne [A e, B e] (bin fun x y => (if x.below y then y else x, 0))).1),
        (.vmin c i, fun e => (floatOp v et et .rne [A e, B e] (bin fun x y => (if x.below y then x else y, 0))).1),
        (.vabs c i, op1 fun x => (x.abs, 0)), (.vneg c i, op1 fun x => (x.neg, 0))],
      s.vecNext c = some q.1 → VecRuns q.1 c v i w (fun _ => true) q.2 s) ∧
    (et = 4 → ∀ q ∈ [(Instr.vrcp c i, op1 fun x => Val.one.div x), (.vrsqrt c i, op1 Val.rsqrt), (.vsqrt c i, op1 Val.sqrt),
        (.vdiv c i, op2 Val.div),
        (.vexp2 c i, fun e => if (vecRead v 4 (A e)).1.isNan then fp32.nanCode
          else (Val.exp2 (vecRound v 4 (s.vecRnd v i pc e)) (vecRead v 4 (A e)).1).1),
        (.vlog2 c i, fun e => if (vecRead v 4 (A e)).1.isNan then fp32.nanCode
          else (Val.log2 (vecRound v 4 (s.vecRnd v i pc e)) (vecRead v 4 (A e)).1).1)],
      s.vecNext c = some q.1 → VecRuns q.1 c v i w (fun _ => true) q.2 s) ∧
    (et = 2 ∨ et = 3 → s.vecNext c = some (.vdot2 c i) → ∃ f, VecRuns (.vdot2 c i) c v i 32 (fun _ => true) f s ∧ ∀ e,
      let a (j : Nat) : Val := (vecRead v et (s.elemA c i 16 (2 * e + j))).1
      let b (j : Nat) : Val := (vecRead v et (s.elemB v i 16 (2 * e + j))).1
      let z : Val := (vecRead v 4 (s.elemC c i 32 e)).1
      (([a 0, b 0, a 1, b 1, z].any Val.isNan = true) → f e = fp32.nanCode) ∧
      ([a 0, b 0, a 1, b 1, z].any Val.isNan = false → ((a 0).mul (b 0)).1.isNan = false → ((a 1).mul (b 1)).1.isNan = false →
        f e = (vecRound v 4 (s.vecRnd v i pc e) (add3 z ((a 0).mul (b 0)).1 ((a 1).mul (b 1)).1).1).1))

/-- Comparison, selection, masks, moves and conversion (R130, R132): VCMP writes its mask's bits, VSEL takes A where the mask is 1 and B
elsewhere, MAND, MOR and MNOT act on all 1,024 bits, MPOP counts, VMOV, VBRD, VIDX, VXB, VROT and VBCL move, VCVT converts the source
element that the parts rule names. -/
def Obligations.VecMasksMovesAndConversion : Prop :=
  ∀ (c : Cluster) (i : VInsn) (v : VecFiring) (s : State), s.running = true → s.vec c = some v →
    let et := i.et.toNat
    let w := etWidth et
    let n := 8192 / w
    let md := i.vd.toNat % 8
    let imm := i.imm.toNat
    let d := if i.sb then v.sreg i.sa.toNat % 256 else imm % 256
    (et ≤ 6 → imm % 8 ≠ (if et ≤ 1 then 6 else 7) → s.vecNext c = some (.vcmp c i) →
      ∃ t, exec (.vcmp c i) s = .next t ∧ VecStep c v .vmask (8 * c + md) s t ∧
        (∀ e < n, bitAt (t.vmask1 c md) e =
          if bitAt (s.activeBits c i n) e then
            (if et ≤ 1 then condInt (imm % 8) w (s.elemA c i w e) (s.elemB v i w e)
             else condFloat (imm % 8) (vecRead v et (s.elemA c i w e)).1 (vecRead v et (s.elemB v i w e)).1)
          else !i.mz && bitAt (s.vmask1 c md) e) ∧
        (∀ e, n ≤ e → e < 1024 → bitAt (t.vmask1 c md) e = bitAt (s.vmask1 c md) e)) ∧
    (et ≤ 6 → i.men = true → i.mz = false → s.vecNext c = some (.vsel c i) →
      ∃ t, exec (.vsel c i) s = .next t ∧ VecStep c v .vreg (32 * c + i.vd.toNat) s t ∧
        ∀ e < n, bits (t.vreg1 c i.vd.toNat) (e * w) w =
          if bitAt (s.vmask1 c i.msk.toNat) e then s.elemA c i w e else s.elemB v i w e) ∧
    (∀ q ∈ [(Instr.mand c i, fun a b : Bool => a && b), (.mor c i, fun a b => a || b), (.mnot c i, fun a _ => !a)],
      s.vecNext c = some q.1 → ∃ t, exec q.1 s = .next t ∧ VecStep c v .vmask (8 * c + md) s t ∧
        ∀ e < 1024, s.vmask1 c (i.va.toNat % 8) < 2 ^ 1024 → bitAt (t.vmask1 c md) e =
          q.2 (bitAt (s.vmask1 c (i.va.toNat % 8)) e) (bitAt (s.vmask1 c (i.vb.toNat % 8)) e)) ∧
    (et ≤ 6 → s.vecNext c = some (.mpop c i) → VecRuns (.mpop c i) c v i 32 (fun _ => true)
      (fun _ => ((List.range n).filter fun e => bitAt (s.vmask1 c (i.va.toNat % 8)) e).length) s) ∧
    (et ≤ 6 → ∀ q ∈ [(Instr.vmov c i, fun e => s.elemA c i w e), (.vbrd c i, fun _ => v.sreg i.sa.toNat), (.vidx c i, fun e => e)],
      s.vecNext c = some q.1 → VecRuns q.1 c v i w (fun _ => true) q.2 s) ∧
    (et = 1 → ∀ q ∈ [(Instr.vxb c i, fun e => s.elemA c i 32 ((d ^^^ e) % 256)), (.vrot c i, fun e => s.elemA c i 32 ((e + d) % 256)),
        (.vbcl c i, fun _ => s.elemA c i 32 (d % 256))],
      s.vecNext c = some q.1 → VecRuns q.1 c v i 32 (fun _ => true) q.2 s) ∧
    (et ≤ 6 → imm % 8 ≠ 7 → (etWidth et ≠ etWidth (imm % 8) ∨ bits imm 3 2 = 0) →
      (bitAt imm 5 = false ∨ s.inBound c (bits imm 6 2) = true) → s.vecNext c = some (.vcvt c i) →
      let src := cvtSource w (etWidth (imm % 8)) (bits imm 3 2)
      VecRuns (.vcvt c i) c v i (etWidth (imm % 8)) (fun e => (src e).isSome) (fun e =>
        (convertElem (etFmt (imm % 8)) v.flush v.satEn (s.vecRnd v i (s.get (CLU_VEC_STATE_PC c)) e)
          ((vecRead v et (s.elemA c i w ((src e).getD 0))).1.scale
            (-(if bitAt imm 5 then (v.exps[bits imm 6 2]?).getD 0 else 0)))).1) s)

/-- Reductions (R136, R137): the result stands in every element of VD; of no active element it is the identity, with EMPTY on the
streams; VRSUM of integers whose magnitudes sum below 2^31 is their sum, and VRMAX and VRMIN of integers are an active element that no
other exceeds, or undercuts. -/
def Obligations.VecReductionsOverActiveElements : Prop :=
  ∀ (c : Cluster) (i : VInsn) (v : VecFiring) (s : State), s.running = true → s.vec c = some v →
    let et := i.et.toNat
    let w := etWidth et
    let n := 8192 / w
    let live := (List.range n).filter fun e => bitAt (s.activeBits c i n) e
    let x (e : Nat) : Int := signed w (s.elemA c i w e)
    (∀ q ∈ [(Instr.vrsum c i, decide (et ≤ 4), 32, 0), (.vrprod c i, decide (1 ≤ et ∧ et ≤ 4), 32, if et ≤ 1 then 1 else 0x3F800000),
        (.vrmax c i, decide (et ≤ 6), w, extremeId et true), (.vrmin c i, decide (et ≤ 6), w, extremeId et false),
        (.vramax c i, decide (et ≤ 6), 32, 0xFFFFFFFF), (.vramin c i, decide (et ≤ 6), 32, 0xFFFFFFFF)],
      q.2.1 = true → s.vecNext c = some q.1 →
      ∃ t r, exec q.1 s = .next t ∧ VecStep c v .vreg (32 * c + i.vd.toNat) s t ∧
        (∀ e < 8192 / q.2.2.1, bits (t.vreg1 c i.vd.toNat) (e * q.2.2.1) q.2.2.1 = r) ∧
        (s.activeBits c i n = 0 → r = q.2.2.2 ∧ ∀ m ∈ v.alt.streams, t.get (STR_EMPTY m) = 1)) ∧
    (et ≤ 1 → (live.map fun e => (x e).natAbs).sum < 2 ^ 31 → s.vecNext c = some (.vrsum c i) →
      ∃ t, exec (.vrsum c i) s = .next t ∧ ∀ e < 256, signed 32 (bits (t.vreg1 c i.vd.toNat) (e * 32) 32) = (live.map x).sum) ∧
    (et ≤ 1 → live ≠ [] →
      (s.vecNext c = some (.vrmax c i) → ∃ t, exec (.vrmax c i) s = .next t ∧ ∃ m ∈ live, (∀ e ∈ live, x e ≤ x m) ∧
        ∀ e < n, bits (t.vreg1 c i.vd.toNat) (e * w) w = s.elemA c i w m) ∧
      (s.vecNext c = some (.vrmin c i) → ∃ t, exec (.vrmin c i) s = .next t ∧ ∃ m ∈ live, (∀ e ∈ live, x m ≤ x e) ∧
        ∀ e < n, bits (t.vreg1 c i.vd.toNat) (e * w) w = s.elemA c i w m))

/-- Memory, headers, random words, addresses and loops (R126, R133–R135): VLD reads 0 past PAYLOAD_LEN, VST stores the bytes of active
elements and marks a store past byte 32,767, VLDH and VSETH act on headers, VRNG lays out generator words, VOUT queues a value for the
desk, VSETA and VADDA set an address, VLOOP opens its body or skips it at count 0. -/
def Obligations.VecMemoryAddressesAndLoops : Prop :=
  ∀ (c : Cluster) (i : VInsn) (v : VecFiring) (s : State), s.running = true → s.vec c = some v →
    let w := etWidth i.et.toNat
    let vd := i.vd.toNat
    let b := i.vb.toNat
    let imm := i.imm.toNat
    let act := s.activeBits c i (8192 / w)
    (∀ x, v.tiles[b]? = some x → s.inBound c b = true →
      (s.vecNext c = some (.vld c i) → ∃ t, exec (.vld c i) s = .next t ∧ VecStep c v .vreg (32 * c + vd) s t ∧
        ∀ k < 1024, bits (t.vreg1 c vd) (8 * k) 8 =
          if s.vaddr1 c (i.va.toNat % 4) + imm + k < hPayloadLen x.head
          then bits x.payload (8 * (s.vaddr1 c (i.va.toNat % 4) + imm + k)) 8 else 0) ∧
      (s.vecNext c = some (.vldh c i) → ∃ t, exec (.vldh c i) s = .next t ∧ VecStep c v .vreg (32 * c + vd) s t ∧ t.vreg1 c vd = x.head)) ∧
    (∀ buf h, v.bufs[b]? = some buf → v.heads[b]? = some h → b < 2 → s.outBound c b = true →
      (i.et.toNat ≤ 6 → s.vecNext c = some (.vst c i) →
        let o := s.vaddr1 c (vd % 4) + imm
        ∃ t v' buf', exec (.vst c i) s = .next t ∧ t.vec c = some v' ∧ v'.bufs[b]? = some buf' ∧
          (∀ k < 32768, bits buf' (8 * k) 8 =
            if o ≤ k ∧ k < o + 1024 ∧ bitAt act ((k - o) / (w / 8)) = true
            then bits (s.vreg1 c i.va.toNat) (8 * (k - o)) 8 else bits buf (8 * k) 8) ∧
          (bitAt v'.failed b = true ↔ bitAt v.failed b = true ∨
            ∃ e < 8192 / w, bitAt act e = true ∧ 32768 < o + (e + 1) * (w / 8)) ∧
          Frame (Foot.engine c) s t ∧ VecPaid c v s t) ∧
      (imm % 16 < 9 → s.vecNext c = some (.vseth c i) → ∃ t v', exec (.vseth c i) s = .next t ∧ t.vec c = some v' ∧
        v'.heads[b]? = some (setHeaderField h (imm % 16) (v.sreg i.sa.toNat)) ∧ v'.bufs = v.bufs ∧
        Frame (Foot.engine c) s t ∧ VecPaid c v s t)) ∧
    (i.sa.toNat ≤ 61 → s.vecNext c = some (.vrng c i) → ∃ t, exec (.vrng c i) s = .next t ∧ VecStep c v .vreg (32 * c + vd) s t ∧
      ∀ j < 256, bits (t.vreg1 c vd) (j * 32) 32 =
        ((cgAt s.seed ((v.sreg i.sa.toNat + 2 ^ 32 * v.sreg (i.sa.toNat + 1) + j / 4) % 2 ^ 64) (v.sreg (i.sa.toNat + 2))
          (s.stepNum v.graph))[j % 4]?).getD 0) ∧
    (i.et = 1 → s.vecNext c = some (.vout c i) → ∃ t v', exec (.vout c i) s = .next t ∧ t.vec c = some v' ∧
      v'.vouts = v.vouts ++ [(BitVec.ofNat 6 (56 + imm % 8), s.elemA c i 32 (bits imm 3 8))] ∧ Frame (Foot.engine c) s t ∧
      VecPaid c v s t) ∧
    (s.vecNext c = some (.vseta c i) → ∃ t, exec (.vseta c i) s = .next t ∧ VecStep c v .vaddr (4 * c + vd % 4) s t ∧
      t.vaddr1 c (vd % 4) = (v.sreg i.sa.toNat + imm) % 2 ^ 32) ∧
    (s.vecNext c = some (.vadda c i) → ∃ t, exec (.vadda c i) s = .next t ∧ VecStep c v .vaddr (4 * c + vd % 4) s t ∧
      t.vaddr1 c (vd % 4) =
        (s.vaddr1 c (vd % 4) + if i.sb then v.sreg i.sa.toNat else unsigned 32 (signed 16 imm)) % 2 ^ 32) ∧
    (s.loopForm c (imm % 256) = true → s.vecNext c = some (.vloop c i) →
      let count := if i.sb then v.sreg i.sa.toNat % 2 ^ 16 else imm / 256
      ∃ t v', exec (.vloop c i) s = .next t ∧ t.vec c = some v' ∧ Frame (Foot.engine c) s t ∧ VecPaid c v s t ∧
        (count = 0 → v.loops = [] → v'.loops = [] ∧
          t.get (CLU_VEC_STATE_PC c) = (s.get (CLU_VEC_STATE_PC c) + imm % 256 + 1) % 2 ^ 11) ∧
        (count ≠ 0 → v'.loops = (s.get (CLU_VEC_STATE_PC c) + 1, s.get (CLU_VEC_STATE_PC c) + imm % 256) :: v.loops ∧
          t.get (CLU_VEC_STATE_LOOP_DEPTH c) = v.loops.length + 1 ∧ t.loopCnt c (v.loops.length + 1) = count ∧
          t.get (CLU_VEC_STATE_PC c) = (s.get (CLU_VEC_STATE_PC c) + 1) % 2 ^ 11))

/-- A vector command that the instruction memory holds at PC in a form that the tables of R130, R133 and R135 reserve is refused by name:
an element type outside the operation's list, a reserved condition, VSEL without a mask or with MZ, a conversion to no type or with a part
it has not, a VSETH field above 8, VRNG from a register above s61, a binding that the alternative does not bind, a VLOOP body outside its
bounds. A vector command that is not the firing's next instruction changes nothing (the model's reading of such a command, log entry
127). -/
def Obligations.ReservedVectorFormsAreRefused : Prop :=
  ∀ (c : Cluster) (i : VInsn) (s : State), s.running = true →
    let et := i.et.toNat
    let imm := i.imm.toNat
    (∀ q ∈ [(Instr.vadd c i, decide (5 ≤ et)), (.vsub c i, decide (5 ≤ et)), (.vmul c i, decide (5 ≤ et)),
        (.vfma c i, decide (et < 2 ∨ 5 ≤ et)), (.vmax c i, decide (et = 7)), (.vmin c i, decide (et = 7)), (.vabs c i, decide (et = 7)),
        (.vneg c i, decide (et = 7)), (.vdot4 c i, decide (et ≠ 0)), (.vdot2 c i, decide (et ≠ 2 ∧ et ≠ 3)),
        (.vrcp c i, decide (et ≠ 4)), (.vrsqrt c i, decide (et ≠ 4)), (.vexp2 c i, decide (et ≠ 4)), (.vlog2 c i, decide (et ≠ 4)),
        (.vdiv c i, decide (et ≠ 4)), (.vsqrt c i, decide (et ≠ 4)),
        (.vcmp c i, decide (et = 7 ∨ imm % 8 = (if et ≤ 1 then 6 else 7))), (.vsel c i, decide (et = 7 ∨ i.men = false ∨ i.mz = true)),
        (.mpop c i, decide (et = 7)), (.vand c i, decide (2 ≤ et)), (.vor c i, decide (2 ≤ et)), (.vxor c i, decide (2 ≤ et)),
        (.vshl c i, decide (2 ≤ et)), (.vshr c i, decide (2 ≤ et)), (.vsar c i, decide (2 ≤ et)),
        (.vcvt c i, decide (et = 7 ∨ imm % 8 = 7 ∨ (etWidth et = etWidth (imm % 8) ∧ bits imm 3 2 ≠ 0) ∨
          (bitAt imm 5 = true ∧ s.inBound c (bits imm 6 2) = false))),
        (.vmov c i, decide (et = 7)), (.vbrd c i, decide (et = 7)), (.vidx c i, decide (et = 7)), (.vxb c i, decide (et ≠ 1)),
        (.vrot c i, decide (et ≠ 1)), (.vbcl c i, decide (et ≠ 1)), (.vout c i, decide (et ≠ 1)), (.vrsum c i, decide (5 ≤ et)),
        (.vrprod c i, decide (et = 0 ∨ 5 ≤ et)), (.vrmax c i, decide (et = 7)), (.vrmin c i, decide (et = 7)),
        (.vramax c i, decide (et = 7)), (.vramin c i, decide (et = 7)), (.vld c i, !s.inBound c i.vb.toNat),
        (.vldh c i, !s.inBound c i.vb.toNat), (.vst c i, decide (et = 7 ∨ 2 ≤ i.vb.toNat) || !s.outBound c i.vb.toNat),
        (.vseth c i, decide (9 ≤ imm % 16 ∨ 2 ≤ i.vb.toNat) || !s.outBound c i.vb.toNat), (.vrng c i, decide (62 ≤ i.sa.toNat)),
        (.vloop c i, !s.loopForm c (imm % 256))],
      q.2 = true → s.vecNext c = some q.1 → exec q.1 s = .refused .reservedVectorForm) ∧
    (∀ x ∈ vecTable, s.vecNext c ≠ some (x.2 c i) → exec (x.2 c i) s = .next s)

/-- VEC_IMEM_DATA_ACCESS and DESK_MEM_DATA_ACCESS (R121, R139, R148): a read gives the instruction or word named, a write on a quiesced
station stores it, firmware regions below 0x4000 read 0 and keep their contents, and AUTOINC moves the address on. -/
def Obligations.InstructionMemoryWindows : Prop :=
  ∀ (c : Cluster) (s : State), s.running = true →
    let k := 2048 * c.val + s.get (CLU_VEC_IMEM_ADDR_INDEX c)
    let auto := s.get (CLU_VEC_IMEM_ADDR_AUTOINC c)
    let a := s.get (CLU_DESK_MEM_ADDR_ADDR c) / 4 * 4
    (∃ t, exec (.vecImemDataAccess c none) s = .next t ∧ t.readOut = s.rd .vimem k ∧
      t.get (CLU_VEC_IMEM_ADDR_INDEX c) = (s.get (CLU_VEC_IMEM_ADDR_INDEX c) + if auto = 1 then 1 else 0) % 2 ^ 11 ∧
      Frame (Foot.or (Foot.fields [CLU_VEC_IMEM_ADDR_INDEX c]) (Foot.of (fun _ => False) [] [.readOut])) s t) ∧
    (∀ v, ∃ t, exec (.vecImemDataAccess c (some v)) s = .next t ∧
      t.rd .vimem k = (if s.get (STN_STATUS_QUIESCED (vecEp c)) = 1 then v.toNat else s.rd .vimem k) ∧
      Frame (Foot.or (Foot.fields [CLU_VEC_IMEM_ADDR_INDEX c]) ⟨fun _ => False, fun b x => b = .vimem ∧ x = k, fun _ => False, fun _ => False⟩)
        s t) ∧
    (∃ t, exec (.deskMemDataAccess c none) s = .next t ∧
      t.readOut = (if a < 0x4000 then 0 else if s.get (CLU_DESK_MEM_ADDR_SPACE c) = 1 then s.rd .dimem (16384 * c.val + a / 4)
        else s.dword c a) ∧
      Frame (Foot.or (Foot.fields [CLU_DESK_MEM_ADDR_ADDR c]) (Foot.of (fun _ => False) [] [.readOut])) s t) ∧
    (∀ v, ∃ t, exec (.deskMemDataAccess c (some v)) s = .next t ∧
      (s.get (STN_STATUS_QUIESCED (deskEp c)) = 1 → 0x4000 ≤ a → s.get (CLU_DESK_MEM_ADDR_SPACE c) = 1 →
        t.rd .dimem (16384 * c.val + a / 4) = v.toNat) ∧
      (s.get (STN_STATUS_QUIESCED (deskEp c)) = 1 → 0x4000 ≤ a → s.get (CLU_DESK_MEM_ADDR_SPACE c) = 0 → t.dword c a = v.toNat) ∧
      (s.get (STN_STATUS_QUIESCED (deskEp c)) = 0 ∨ a < 0x4000 →
        Frame (Foot.fields [CLU_DESK_MEM_ADDR_ADDR c]) s t) ∧
      Frame (Foot.or (Foot.fields [CLU_DESK_MEM_ADDR_ADDR c])
        ⟨fun _ => False, fun b x => (b = .dimem ∧ x = 16384 * c.val + a / 4) ∨ (b = .ddmem ∧ 65536 * c.val + a ≤ x ∧ x < 65536 * c.val + a + 4),
          fun _ => False, fun _ => False⟩) s t)

/-! The cluster desk. -/

/-- Integer and float script instructions (R142–R144, R146, R159): RD takes the result, modulo 2^32 for an integer, the next word
follows, and nothing else changes; a write to s0 is discarded. -/
def Obligations.DeskArithmeticWritesRd : Prop :=
  ∀ (c : Cluster) (d : DeskFiring) (pc : Nat) (rd ra rb : BitVec 6) (imm : BitVec 14) (sh : BitVec 5) (hi : BitVec 20) (s : State),
    DeskRuns c d pc s →
    let x := s.sreg c ra.toNat
    let y := s.sreg c rb.toNat
    let k := unsigned 32 imm.toInt
    let flush : Bool := s.get GLB_NUMCTL_FLUSH = 1
    let fx := fp32.read flush x
    let fy := fp32.read flush y
    (∀ q ∈ [(Instr.deskAdd c rd ra rb, x + y), (.deskSub c rd ra rb, x + 2 ^ 32 - y), (.deskAnd c rd ra rb, x &&& y),
        (.deskOr c rd ra rb, x ||| y), (.deskXor c rd ra rb, x ^^^ y), (.deskSll c rd ra rb, x <<< (y % 32)),
        (.deskSrl c rd ra rb, x >>> (y % 32)), (.deskSra c rd ra rb, unsigned 32 (signed 32 x >>> (y % 32))),
        (.deskSlt c rd ra rb, if signed 32 x < signed 32 y then 1 else 0), (.deskSltu c rd ra rb, if x < y then 1 else 0),
        (.deskMul c rd ra rb, x * y), (.deskMulhu c rd ra rb, x * y / 2 ^ 32),
        (.deskDivu c rd ra rb, if y = 0 then 0xFFFFFFFF else x / y), (.deskAddi c rd ra imm, x + k),
        (.deskAndi c rd ra imm, x &&& k), (.deskOri c rd ra imm, x ||| k), (.deskSlli c rd ra sh, x <<< sh.toNat),
        (.deskSrli c rd ra sh, x >>> sh.toNat), (.deskSrai c rd ra sh, unsigned 32 (signed 32 x >>> sh.toNat)),
        (.deskLui c rd hi, hi.toNat * 4096), (.deskMrd c rd ra, s.get (MLS_ENTRY_COUNT (x % 2 ^ 16))),
        (.deskFcvtsw c rd ra, fp32Code (Val.ofInt (signed 32 x)))],
      s.deskIssues c (some q.1) = true → DeskGives q.1 c pc rd q.2 s) ∧
    (∀ q ∈ [(Instr.deskFadd c rd ra rb, ieeeOp Val.add flush fx.1 fy.1, fx.2 ||| fy.2),
        (.deskFsub c rd ra rb, ieeeOp (fun a b => a.add b.neg) flush fx.1 fy.1, fx.2 ||| fy.2),
        (.deskFmul c rd ra rb, ieeeOp Val.mul flush fx.1 fy.1, fx.2 ||| fy.2),
        (.deskFlt c rd ra rb, (if !fx.1.isNan && !fy.1.isNan && fx.1.cmp fy.1 < 0 then 1 else 0, 0), fx.2 ||| fy.2),
        (.deskFcvtws c rd ra, ((roundInt 32 .rne fx.1).1, if (roundInt 32 .rne fx.1).2 = 0 then 0 else fInvalid), 0)],
      s.deskIssues c (some q.1) = true → ∃ t, exec q.1 s = .next t ∧ t.sreg c rd.toNat = (if rd = 0 then 0 else q.2.1.1 % 2 ^ 32) ∧
        t.rd .dcsr (4096 * c.val + 8) = (s.rd .dcsr (4096 * c.val + 8) ||| fflagsOf (q.2.2 ||| q.2.1.2)) ∧
        t.get (CLU_DESK_STATE_PC c) = (pc + 1) % 2 ^ 14 ∧
        Frame (Foot.or (Foot.fields [CLU_DESK_SREG_VALUE c rd.toNat, CLU_DESK_STATE_PC c])
          ⟨fun _ => False, fun b i => b = .dcsr ∧ i = 4096 * c.val + 8, fun _ => False, fun _ => False⟩) s t)

/-- Data memory, branches and jumps (R139, R142, R143, R147): little-endian words and bytes at RA + IMM14, a branch counts words from
itself, JAL and JALR save the next word; an address out of range or unaligned, and a jump out of script memory, is the fault of its
cause. A word that spells no instruction is ILLEGAL, and so is a fetch past word 0x3FFF a JUMP_RANGE; a command that is not the next
instruction changes nothing (the model's reading of such a command, log entry 127). -/
def Obligations.DeskMemoryAndJumps : Prop :=
  (∀ (c : Cluster) (d : DeskFiring) (s : State), s.running = true → s.desk c = some d → s.get (STN_CTRL_ENABLE (deskEp c)) = 1 →
    d.wait = none → s.get PWR_STATE_STATUS_STATE = 0 → s.get (CLU_DESK_STATE_PC c) < 0x1000 →
    ∀ x ∈ deskInts ++ deskMids ++ deskTails, ∀ w, ∃ t, exec (x.2 c w) s = .next t ∧ DeskFaulted c 3 0x3FFF s t) ∧
  (∀ (c : Cluster) (s : State), s.running = true → 0x1000 ≤ s.get (CLU_DESK_STATE_PC c) →
    (∀ x ∈ deskInts ++ deskMids ++ deskTails, ∀ w, deskDecode c (s.deskWord c) ≠ some (x.2 c w) → exec (x.2 c w) s = .next s) ∧
    (deskDecode c (s.deskWord c) ≠ none → exec (.illegalInstruction c) s = .next s)) ∧
  ∀ (c : Cluster) (d : DeskFiring) (pc : Nat) (rd ra rb : BitVec 6) (imm : BitVec 14) (far : BitVec 20) (s : State),
    DeskRuns c d pc s →
    let x := s.sreg c ra.toNat
    let y := s.sreg c rb.toNat
    let a := (x + unsigned 32 imm.toInt) % 2 ^ 32
    let inside : Prop := 0x4000 ≤ a ∧ a ≤ 0xFFFF
    let script (z : Int) : Prop := 0x1000 ≤ z ∧ z ≤ 0x3FFF
    (inside → (s.deskIssues c (some (.deskLbu c rd ra imm)) = true →
        DeskGives (.deskLbu c rd ra imm) c pc rd (s.rd .ddmem (65536 * c.val + a)) s) ∧
      (a % 4 = 0 → s.deskIssues c (some (.deskLw c rd ra imm)) = true → DeskGives (.deskLw c rd ra imm) c pc rd (s.dword c a) s)) ∧
    (inside → s.deskIssues c (some (.deskSb c rb ra imm)) = true → ∃ t, exec (.deskSb c rb ra imm) s = .next t ∧ t.rd .ddmem (65536 * c.val + a) = y % 256 ∧
      t.get (CLU_DESK_STATE_PC c) = (pc + 1) % 2 ^ 14 ∧
      Frame ⟨fun k => k = (CLU_DESK_STATE_PC c).key, fun b i => b = .ddmem ∧ i = 65536 * c.val + a, fun _ => False, fun _ => False⟩ s t) ∧
    (inside → a % 4 = 0 → s.deskIssues c (some (.deskSw c rb ra imm)) = true → ∃ t, exec (.deskSw c rb ra imm) s = .next t ∧ t.dword c a = y % 2 ^ 32 ∧
      t.get (CLU_DESK_STATE_PC c) = (pc + 1) % 2 ^ 14 ∧
      Frame ⟨fun k => k = (CLU_DESK_STATE_PC c).key, fun b i => b = .ddmem ∧ 65536 * c.val + a ≤ i ∧ i < 65536 * c.val + a + 4,
        fun _ => False, fun _ => False⟩ s t) ∧
    (¬ inside → ∀ cmd ∈ [Instr.deskLw c rd ra imm, .deskLbu c rd ra imm, .deskSw c rb ra imm, .deskSb c rb ra imm],
      s.deskIssues c (some cmd) = true → ∃ t, exec cmd s = .next t ∧ DeskFaulted c 2 pc s t) ∧
    (inside → a % 4 ≠ 0 → ∀ cmd ∈ [Instr.deskLw c rd ra imm, .deskSw c rb ra imm],
      s.deskIssues c (some cmd) = true → ∃ t, exec cmd s = .next t ∧ DeskFaulted c 1 pc s t) ∧
    (∀ q ∈ [(Instr.deskBeq c ra rb imm, decide (x = y)), (.deskBne c ra rb imm, decide (x ≠ y)),
        (.deskBlt c ra rb imm, decide (signed 32 x < signed 32 y)), (.deskBge c ra rb imm, decide (signed 32 y ≤ signed 32 x)),
        (.deskBltu c ra rb imm, decide (x < y)), (.deskBgeu c ra rb imm, decide (y ≤ x))],
      s.deskIssues c (some q.1) = true →
      (q.2 = false → exec q.1 s = .next (s.set (CLU_DESK_STATE_PC c) (pc + 1))) ∧
      (q.2 = true → script (pc + imm.toInt) → exec q.1 s = .next (s.set (CLU_DESK_STATE_PC c) ((pc : Int) + imm.toInt).toNat)) ∧
      (q.2 = true → ¬ script (pc + imm.toInt) → ∃ t, exec q.1 s = .next t ∧ DeskFaulted c 3 pc s t)) ∧
    (∀ q ∈ [(Instr.deskJal c rd far, (pc : Int) + far.toInt), (.deskJalr c rd ra imm, (a : Int))],
      s.deskIssues c (some q.1) = true →
      (script q.2 → ∃ t, exec q.1 s = .next t ∧ t.sreg c rd.toNat = (if rd = 0 then 0 else pc + 1) ∧
        t.get (CLU_DESK_STATE_PC c) = q.2.toNat ∧ Frame (Foot.fields [CLU_DESK_SREG_VALUE c rd.toNat, CLU_DESK_STATE_PC c]) s t) ∧
      (¬ script q.2 → ∃ t, exec q.1 s = .next t ∧ DeskFaulted c 3 pc s t)) ∧
    (deskDecode c (s.deskWord c) = none → ∃ t, exec (.illegalInstruction c) s = .next t ∧ DeskFaulted c 7 pc s t)

/-- Milestones, control registers and the cluster's window (R142–R147): MWAIT takes the CODE of a reached milestone or waits, and a wait
that passes its limit takes 0xFF; MINC and MTGT act on the milestone; CSRR reads, CSRW writes FFLAGS and WAIT_LIMIT; LDX and STX read and
write the cluster's own registers. -/
def Obligations.DeskMilestonesControlAndWindow : Prop :=
  ∀ (c : Cluster) (d : DeskFiring) (pc : Nat) (rd ra rb : BitVec 6) (imm : BitVec 14) (n : BitVec 12) (s : State),
    let x := s.sreg c ra.toNat
    let y := s.sreg c rb.toNat
    let m := x % 2 ^ 16
    let o := (x + unsigned 32 imm.toInt) % 2 ^ 32
    let off := 0x01000000 + 0x10000 * c.val + o
    (DeskRuns c d pc s →
      (s.reached m = true → s.deskIssues c (some (.deskMwait c rd ra)) = true → ∃ t, exec (.deskMwait c rd ra) s = .next t ∧
        t.sreg c rd.toNat = (if rd = 0 then 0 else s.get (MLS_STATUS_CODE m)) ∧ t.get (CLU_DESK_STATE_RUN c) = 1 ∧
        t.get (CLU_DESK_STATE_PC c) = (pc + 1) % 2 ^ 14 ∧
        Frame (Foot.fields [CLU_DESK_SREG_VALUE c rd.toNat, CLU_DESK_STATE_RUN c, CLU_DESK_STATE_PC c]) s t) ∧
      (s.reached m = false → s.deskIssues c (some (.deskMwait c rd ra)) = true →
        ∃ t, exec (.deskMwait c rd ra) s = .next t ∧ t.desk c = some { d with wait := some (rd, m) } ∧
        t.get (CLU_DESK_STATE_RUN c) = 2 ∧ t.get (CLU_DESK_STATE_PC c) = pc ∧
        Frame (Foot.of (fun k => k = (CLU_DESK_STATE_RUN c).key) [] [.desks]) s t) ∧
      (s.deskIssues c (some (.deskMinc c ra rb)) = true →
        ∃ t, exec (.deskMinc c ra rb) s = .next t ∧ t.get (MLS_ENTRY_COUNT m) = min (s.get (MLS_ENTRY_COUNT m) + y) 0xFFFFFFFF ∧
        t.get (CLU_DESK_STATE_PC c) = (pc + 1) % 2 ^ 14 ∧ Frame (Foot.milestone []) s t) ∧
      (s.deskIssues c (some (.deskMtgt c ra rb)) = true → ∃ t, exec (.deskMtgt c ra rb) s = .next t ∧ t.get (MLS_ENTRY_TARGET m) = y ∧
        (t.get (MLS_STATUS_REACHED m) = 1 ↔ y ≤ s.get (MLS_ENTRY_COUNT m) ∨ s.get (MLS_STATUS_CODE m) ≠ 0) ∧
        t.get (CLU_DESK_STATE_PC c) = (pc + 1) % 2 ^ 14 ∧ Frame (Foot.milestone []) s t) ∧
      (∀ q ∈ [(0x000#12, c.val), (0x001#12, s.get LNK_COORD_ACTIVE), (0x002#12, s.get (GLB_STEP_NUM_STEP (deskGraph d.alt.op))),
          (0x003#12, s.period), (0x005#12, s.rd .dcsr (4096 * c.val + 5)), (0x006#12, s.get GLB_BUDGET_SET_CUR),
          (0x007#12, s.get GLB_MODE_ROLE), (0x008#12, s.rd .dcsr (4096 * c.val + 8)), (0x100#12, s.rd .dcsr (4096 * c.val + 0x100))],
        s.deskIssues c (some (.deskCsrr c rd q.1)) = true → DeskGives (.deskCsrr c rd q.1) c pc rd q.2 s) ∧
      (8 < n.toNat → n ≠ 0x100#12 → s.deskIssues c (some (.deskCsrr c rd n)) = true → DeskGives (.deskCsrr c rd n) c pc rd 0 s) ∧
      (s.deskIssues c (some (.deskCsrr c rd 0x004#12)) = true → ∃ t, exec (.deskCsrr c rd 0x004#12) s = .next t ∧
        t.get (CLU_DESK_STATE_PC c) = (pc + 1) % 2 ^ 14 ∧
        Frame ⟨fun k => k = (CLU_DESK_SREG_VALUE c rd.toNat).key ∨ k = (CLU_DESK_STATE_PC c).key,
          fun b k => b = .dcsr ∧ k = 4096 * c.val + 5, fun _ => False, fun p => p = .free⟩ s t) ∧
      (s.deskIssues c (some (.deskCsrw c rb n)) = true →
        ∃ t, exec (.deskCsrw c rb n) s = .next t ∧ t.get (CLU_DESK_STATE_PC c) = (pc + 1) % 2 ^ 14 ∧
        (n = 0x008#12 → t.rd .dcsr (4096 * c.val + 8) = y % 8) ∧ (n = 0x100#12 → t.rd .dcsr (4096 * c.val + 0x100) = y) ∧
        Frame ⟨fun k => k = (CLU_DESK_STATE_PC c).key, fun b k => b = .dcsr ∧ k = 4096 * c.val + n.toNat ∧ (n = 0x008#12 ∨ n = 0x100#12),
          fun _ => False, fun _ => False⟩ s t) ∧
      (o ≤ 0xFFFF → o % 4 = 0 →
        (s.deskIssues c (some (.deskLdx c rd ra imm)) = true → ∃ t, exec (.deskLdx c rd ra imm) s = .next t ∧
          t.sreg c rd.toNat = (if rd = 0 then 0 else (s.set (CLU_DESK_STATE_PC c) (pc + 1)).readValue off 4 % 2 ^ 32) ∧
          Frame (Foot.of (fun k => k = (CLU_DESK_SREG_VALUE c rd.toNat).key ∨ k = (CLU_DESK_STATE_PC c).key ∨
            k = (CLU_VEC_IMEM_ADDR_INDEX c).key ∨ k = (CLU_DESK_MEM_ADDR_ADDR c).key) [] []) s t) ∧
        (s.deskIssues c (some (.deskStx c rb ra imm)) = true → exec (.deskStx c rb ra imm) s =
          exec (.registerWrite (BitVec.ofNat 26 off) 4 (BitVec.ofNat 64 y) 0) (s.set (CLU_DESK_STATE_PC c) (pc + 1)))) ∧
      (∀ cmd ∈ [Instr.deskLdx c rd ra imm, .deskStx c rb ra imm], s.deskIssues c (some cmd) = true →
        (0xFFFF < o → ∃ t, exec cmd s = .next t ∧ DeskFaulted c 4 pc s t) ∧
        (o ≤ 0xFFFF → o % 4 ≠ 0 → ∃ t, exec cmd s = .next t ∧ DeskFaulted c 1 pc s t))) ∧
    (∀ k : Nat, s.running = true → s.desk c = some d → d.wait = some (rd, k) → s.rd .dcsr (4096 * c.val + 0x100) ≠ 0 →
      ∃ t, exec (.mwaitTimeout c) s = .next t ∧ t.sreg c rd.toNat = (if rd = 0 then 0 else 0xFF) ∧
        t.desk c = some { d with wait := none } ∧ t.get (CLU_DESK_STATE_RUN c) = 1 ∧
        t.get (CLU_DESK_STATE_PC c) = (s.get (CLU_DESK_STATE_PC c) + 1) % 2 ^ 14 ∧
        Frame (Foot.of (fun k => k = (CLU_DESK_SREG_VALUE c rd.toNat).key ∨ k = (CLU_DESK_STATE_RUN c).key ∨
          k = (CLU_DESK_STATE_PC c).key) [] [.desks]) s t)

/-- DESK firings (R140, R141, R143, R144): DESK_RUN admits a ready alternative at ENTRY, or marks an input that fails R24; TIN copies a
tile's record to data memory and RD takes PAYLOAD_LEN; the first TOUT of a valid tile sends it, and another, or one of an invalid tile, sets
BAD_HEADER; an unbound binding, an address out of range and a record that does not fit are faults; HALT marks the outputs without a TOUT,
consumes the inputs and ends the firing. -/
def Obligations.DeskFiringRunsTilesAndHalts : Prop :=
  ∀ (c : Cluster) (s : State),
    (∀ d, s.running = true → s.desk c = some d → exec (.deskRun c) s = .next s) ∧
    (∀ a, s.running = true → s.desk c = none →
      s.firstReady (deskEp c) 0 (fun a => s.altReady a && !s.held (deskGraph a.op)) = some a → bits a.op 0 4 = 1 →
      (∀ i, s.badInputs a = [i] → s.get (STR_BAD_HEADER i) = 0 → exec (.deskRun c) s = .next (s.rejected i)) ∧
      (s.badInputs a = [] →
      ∃ t, exec (.deskRun c) s = .next t ∧ t.desk c = some ⟨c, a, [0, 0], none⟩ ∧ t.get (CLU_DESK_STATE_PC c) = bits a.op 8 14 ∧
        t.get (CLU_DESK_STATE_RUN c) = 1 ∧ t.get (STN_STATUS_BUSY (deskEp c)) = 1 ∧ t.get (STN_STATUS_QUIESCED (deskEp c)) = 0 ∧
        t.get (GLB_STEP_STATE_IDLE (deskGraph a.op)) = 0 ∧
        Frame (Foot.of (fun k => k = (CLU_DESK_STATE_PC c).key ∨ k = (CLU_DESK_STATE_RUN c).key ∨ stationKeys (deskEp c) k ∨
          k = (GLB_STEP_STATE_IDLE (deskGraph a.op)).key) [] [.desks]) s t)) ∧
    (∀ (d : DeskFiring) (pc : Nat) (rd ra : BitVec 6) (b : BitVec 2), DeskRuns c d pc s → s.deskIssues c (some (.deskTin c rd ra b)) = true →
      let a := s.sreg c ra.toNat
      ((d.alt.ins[b.toNat]?).join = none → ∃ t, exec (.deskTin c rd ra b) s = .next t ∧ DeskFaulted c 5 pc s t) ∧
      (∀ n, d.alt.ins[b.toNat]? = some (some n) →
        let x := s.inputD n
        (a < 0x4000 ∨ 0xFFFF < a → ∃ t, exec (.deskTin c rd ra b) s = .next t ∧ DeskFaulted c 2 pc s t) ∧
        (0x4000 ≤ a → a ≤ 0xFFFF → 0x10000 < a + x.recordLen →
          ∃ t, exec (.deskTin c rd ra b) s = .next t ∧ DeskFaulted c 6 pc s t) ∧
        (0x4000 ≤ a → a + x.recordLen ≤ 0x10000 →
          ∃ t, exec (.deskTin c rd ra b) s = .next t ∧ t.sreg c rd.toNat = (if rd = 0 then 0 else hPayloadLen x.head) ∧
            t.get (CLU_DESK_STATE_PC c) = (pc + 1) % 2 ^ 14 ∧
            (∀ k < 65536, t.dbyte c k =
              if a ≤ k ∧ k < a + x.recordLen then (x.record.getD (k - a) 0#8).toNat else s.dbyte c k) ∧
            Frame ⟨fun k => k = (CLU_DESK_SREG_VALUE c rd.toNat).key ∨ k = (CLU_DESK_STATE_PC c).key,
              fun b i => b = .ddmem ∧ 65536 * c.val + a ≤ i ∧ i < 65536 * c.val + a + x.recordLen, fun _ => False, fun _ => False⟩ s t))) ∧
    (∀ (d : DeskFiring) (pc : Nat) (ra : BitVec 6) (b : BitVec 1), DeskRuns c d pc s → s.deskIssues c (some (.deskTout c ra b)) = true →
      let a := s.sreg c ra.toNat
      let x := s.dtile c a
      ((d.alt.outs[b.toNat]?).join = none → ∃ t, exec (.deskTout c ra b) s = .next t ∧ DeskFaulted c 5 pc s t) ∧
      (∀ n, d.alt.outs[b.toNat]? = some (some n) →
        (a < 0x4000 ∨ 0xFFFF < a → ∃ t, exec (.deskTout c ra b) s = .next t ∧ DeskFaulted c 2 pc s t) ∧
        (0x4000 ≤ a → a ≤ 0xFFFF → 0x10000 < a + 32 ∨ 0x10000 < a + x.recordLen →
          ∃ t, exec (.deskTout c ra b) s = .next t ∧ DeskFaulted c 6 pc s t) ∧
        (0x4000 ≤ a → a + 32 ≤ 0x10000 → a + x.recordLen ≤ 0x10000 → ∀ k, d.touts[b.toNat]? = some k →
          (k = 0 → headerValid x.head = true →
          ∃ t, exec (.deskTout c ra b) s = .next t ∧
            Emitted s t n ((x.withPoison (s.poisonedIn d.alt)).stamp (s.get (STR_NEXT_SEQ n)) (s.stepNum (deskGraph d.alt.op)) s.chipId) ∧
            t.desk c = some { d with touts := d.touts.set b.toNat 1 } ∧ t.get (CLU_DESK_STATE_PC c) = (pc + 1) % 2 ^ 14 ∧
            Frame (Foot.or (Foot.tiles [n]) (Foot.of (fun k => k = (CLU_DESK_STATE_PC c).key) [] [.desks])) s t) ∧
          (k ≠ 0 ∨ headerValid x.head = false →
          ∃ t, exec (.deskTout c ra b) s = .next t ∧ t.get (STR_BAD_HEADER n) = 1 ∧
            t.desk c = some { d with touts := d.touts.set b.toNat (k + 1) } ∧ t.get (CLU_DESK_STATE_PC c) = (pc + 1) % 2 ^ 14 ∧
            Frame (Foot.of (fun k => k = (STR_BAD_HEADER n).key ∨ k = (CLU_DESK_STATE_PC c).key) [] [.desks, .faultDue]) s t)))) ∧
    (∀ (d : DeskFiring) (pc : Nat), DeskRuns c d pc s → d.alt.streams.Nodup → s.deskIssues c (some (.deskHalt c)) = true →
      ∃ t, exec (.deskHalt c) s = .next t ∧ t.desk c = none ∧ t.get (CLU_DESK_STATE_RUN c) = 0 ∧
        (s.rd .abortDue (deskEp c) ≠ 1 → (∀ n ∈ d.alt.inputs, Consumed s t n) ∧
          (∀ b n : Nat, d.alt.outs[b]? = some (some n) → d.touts[b]? = some 0 →
            t.get (STR_BAD_HEADER n) = 1 ∧ t.get (STR_CREDITS n) = s.get (STR_CREDITS n) ∧
            t.get (STR_NEXT_SEQ n) = s.get (STR_NEXT_SEQ n)) ∧
          Advanced (deskEp c) s t ∧ t.get (CLU_DESK_STATE_PC c) = (pc + 1) % 2 ^ 14 ∧
          Frame (Foot.or (Foot.firing (deskEp c) d.alt.streams)
            (Foot.of (fun k => k = (GLB_STEP_STATE_IDLE (deskGraph d.alt.op)).key) [] [.faultDue])) s t) ∧
        (s.rd .abortDue (deskEp c) = 1 → t.get (STN_STATUS_STEP_IDX (deskEp c)) = 0 ∧ (∀ x, t.byte x = s.byte x)))

/-! Cells at their destination. -/

/-- TILE_CELL_RX (R220, R221, R235, R241, R357, R484): the position of SEQ against NEXT_SEQ decides. A cell within CREDIT_MAX is written
into its slot once, restarts the watchdog, and the last missing one makes the tile present, or BAD_HEADER where the length differs; a cell
behind is a duplicate; one beyond is a credit violation and loses the stream, and so does one that its message cannot hold; one for no
receiving context is dropped. A cell that came by a port is charged to the receive allowance there. While a plan activates a cell from a
link waits in the receive buffer, while its graph drains it is dropped and counted, and a cell of another kind is no business of the
command. -/
def Obligations.TileCellsReassembleBySequence : Prop :=
  ∀ (src : Option Link) (c : Cell) (parity : Bool) (s : State), s.running = true →
    (c.kind ≠ 1#5 → exec (.tileCellRx src c parity) s = .next s) ∧
    (∀ l, src = some l → c.kind = 1#5 → s.get GLB_PLAN_STATUS_LOAD_STATE = 3 →
      exec (.tileCellRx src c parity) s = .next (s.holdsCell l c parity)) ∧
    (c.kind = 1#5 → (src = none ∨ s.get GLB_PLAN_STATUS_LOAD_STATE ≠ 3) → s.drainedBy c ≠ none →
      ∃ t, exec (.tileCellRx src c parity) s = .next t ∧
        t.get CNT_DRAIN_DROP_COUNT = min (s.get CNT_DRAIN_DROP_COUNT + 1) (2 ^ 48 - 1) ∧
        Frame (Foot.fields [CNT_DRAIN_DROP_COUNT, CNT_DRAIN_DROP_OVF]) s t) ∧
    (c.kind = 1#5 → (src = none ∨ s.get GLB_PLAN_STATUS_LOAD_STATE ≠ 3) → s.drainedBy c = none →
    let n := c.stream.toNat
    let next := s.get (STR_NEXT_SEQ n)
    let cmax := s.get (STR_CREDIT_MAX n)
    let d := (bits c.seq.toNat 10 14 + 2 ^ 32 - next) % 16384
    let j := bits c.seq.toNat 0 10
    let q := (next + d) % 2 ^ 32
    let m := (s.slots.find? fun x => x.stream = n && x.seq = q).getD ⟨n, q, 0, none, false, false, ⟨0⟩⟩
    let m' : Slot := { m with seen := m.seen + 2 ^ j, last := if c.last then some j else m.last, poison := m.poison || c.poison,
                              tile := ⟨setBits m.tile.raw (512 * j) 512 c.payload.toNat⟩ }
    let whole : Bool := m'.last.any fun l => popcountTo 513 m'.seen = l + 1
    let fits : Bool := ceilDiv m'.tile.recordLen 64 = m'.last.getD 0 + 1
    let extra : Foot := Foot.of (fun k => ctxKeys n k ∨ flagKeys k) [.recvPort, .fireLen] [.slots, .allow, .faultDue]
    (s.acceptsTile n c.endpt.toNat = false → ∃ t, exec (.tileCellRx src c parity) s = .next t ∧
      Dropped cntNoStream (src.map (·.val)) c s t ∧ Frame (Foot.drop cntNoStream) s t) ∧
    (s.acceptsTile n c.endpt.toNat = true → ∃ t, exec (.tileCellRx src c parity) s = .next t ∧
      (∀ l, src = some l → s.get (LNK_ROLE_IN_PORT l) = 1 →
        let k := portKey (s.get (LNK_ROLE_PORT l)) 1 (s.get (STR_GRAPH n))
        t.allowance k = s.allowance k - 1 ∧ t.rd .recvPort n = s.get (LNK_ROLE_PORT l) + 1) ∧
      ((∀ l, src = some l → s.get (LNK_ROLE_IN_PORT l) = 0) → t.allow = s.allow)) ∧
    (s.acceptsTile n c.endpt.toNat = true → d + cmax < 16384 → d < cmax → bitAt m.seen j = false → j ≤ 512 →
      m.last.any (fun l => l < j) = false → (c.last && j < maxSeen m.seen) = false →
      ∃ t, exec (.tileCellRx src c parity) s = .next t ∧ t.get (STR_WD_COUNT n) = 0 ∧
        (whole = false → m' ∈ t.slots) ∧
        (whole = true → fits = true → { m' with present := true, tile := m'.tile.withPoison m'.poison } ∈ t.slots ∧
          (m'.poison = true → t.get (STR_POISONED n) = 1)) ∧
        (whole = true → fits = false → t.get (STR_BAD_HEADER n) = 1) ∧
        (∀ x : Slot, x.stream ≠ n → (x ∈ t.slots ↔ x ∈ s.slots)) ∧ t.get (STR_NEXT_SEQ n) = next ∧ Frame extra s t) ∧
    (s.acceptsTile n c.endpt.toNat = true → (16384 ≤ d + cmax ∨ (d < cmax ∧ bitAt m.seen j = true)) →
      ∃ t, exec (.tileCellRx src c parity) s = .next t ∧ Dropped cntDupCell (src.map (·.val)) c s t ∧ t.slots = s.slots ∧
        t.get (STR_LOST n) = s.get (STR_LOST n) ∧ Frame (Foot.or extra (Foot.drop cntDupCell)) s t) ∧
    (s.acceptsTile n c.endpt.toNat = true → d + cmax < 16384 → d < cmax → bitAt m.seen j = false →
      (512 < j ∨ m.last.any (fun l => l < j) = true ∨ (c.last && j < maxSeen m.seen) = true) →
      ∃ t, exec (.tileCellRx src c parity) s = .next t ∧ Dropped cntMalformed (src.map (·.val)) c s t ∧ t.slots = s.slots ∧
        t.get (STR_LOST n) = 1 ∧ Frame (Foot.or extra (Foot.drop cntMalformed)) s t) ∧
    (s.acceptsTile n c.endpt.toNat = true → d + cmax < 16384 → cmax ≤ d →
      ∃ t, exec (.tileCellRx src c parity) s = .next t ∧ Dropped cntCreditViol (src.map (·.val)) c s t ∧ t.slots = s.slots ∧
        t.get (STR_LOST n) = 1 ∧ Frame (Foot.or extra (Foot.drop cntCreditViol)) s t))

/-- CREDIT_CELL_SEND, CREDIT_CELL_RX, MLS_INC_CELL and NOTICE_CELL (R216, R217, R235, R237, R357, R484): a changed TILES_DONE is sent back;
a later count completes the tiles between and sets CREDITS from it, an earlier one does nothing; a milestone takes the amount; a notice
reaches the management endpoint, where the arrival of all but a FAIL notice is an event. While a plan activates a cell from a link waits in
the receive buffer; while its graph drains it is dropped and counted; a cell of another kind changes nothing. -/
def Obligations.CreditMilestoneAndNoticeCells : Prop :=
  ∀ (s : State), s.running = true →
    (∀ n : StreamNo,
      let v := s.get (STR_TILES_DONE n.toNat)
      let p := s.rd .recvPort n.toNat
      let due : Prop := s.get (STR_VALID n.toNat) = 1 ∧ s.get (STR_REMOTE n.toNat) = 1 ∧ s.get (STR_SIDE n.toNat) = 1 ∧
        v ≠ s.rd .consumedSince n.toNat ∧ (p = 0 ∨ 0 < s.allowance (portKey (p - 1) 1 (s.get (STR_GRAPH n.toNat))))
      (due → ∃ t c, exec (.creditCellSend n) s = .next t ∧ t.egress = s.egress ++ [⟨none, false, [c]⟩] ∧ c.kind = 2#5 ∧ c.vc = 0#3 ∧
        c.dest.toNat = s.get (STR_PEER_CHIP n.toNat) ∧ c.endpt.toNat = s.get (STR_SRC_ENDPT n.toNat) ∧
        c.stream.toNat = s.get (STR_PEER_STREAM n.toNat) ∧ c.payload.toNat = v ∧ t.rd .consumedSince n.toNat = v ∧
        Frame ⟨fun _ => False, fun b k => b = .consumedSince ∧ k = n.toNat, fun _ => False, fun x => x = .egress⟩ s t) ∧
      (¬ due → exec (.creditCellSend n) s = .next s)) ∧
    (∀ (src : Option Link) (c : Cell) (parity : Bool),
      (∀ q ∈ [(Instr.creditCellRx src c parity, 2#5, parity), (.mlsIncCell src c, 3#5, false), (.noticeCell src c, 9#5, false)],
        (c.kind ≠ q.2.1 → exec q.1 s = .next s) ∧
        (∀ l, src = some l → c.kind = q.2.1 → s.get GLB_PLAN_STATUS_LOAD_STATE = 3 → exec q.1 s = .next (s.holdsCell l c q.2.2)) ∧
        (c.kind = q.2.1 → (src = none ∨ s.get GLB_PLAN_STATUS_LOAD_STATE ≠ 3) → s.drainedBy c ≠ none →
          ∃ t, exec q.1 s = .next t ∧ t.get CNT_DRAIN_DROP_COUNT = min (s.get CNT_DRAIN_DROP_COUNT + 1) (2 ^ 48 - 1) ∧
            Frame (Foot.fields [CNT_DRAIN_DROP_COUNT, CNT_DRAIN_DROP_OVF]) s t)) ∧
      ((src = none ∨ s.get GLB_PLAN_STATUS_LOAD_STATE ≠ 3) → s.drainedBy c = none →
        (c.kind = 2#5 → isVusyn c.endpt.toNat = false →
          let n := c.stream.toNat
          let v := bits c.payload.toNat 0 32
          let mine : Prop := s.get (STR_VALID n) = 1 ∧ s.get (STR_REMOTE n) = 1 ∧ s.get (STR_SIDE n) = 0 ∧
            s.get (STR_SRC_ENDPT n) = c.endpt.toNat
          (mine → 0 < seqDiff v (s.get (STR_TILES_DONE n)) →
            ∃ t, exec (.creditCellRx src c parity) s = .next t ∧ t.get (STR_TILES_DONE n) = v ∧
              t.get (STR_CREDITS n) = s.get (STR_CREDIT_MAX n) - seqFwd (s.rd .begun n) v ∧ t.get (STR_WD_COUNT n) = 0 ∧
              Frame (Foot.tiles [n]) s t) ∧
          (mine → seqDiff v (s.get (STR_TILES_DONE n)) ≤ 0 → ∃ t, exec (.creditCellRx src c parity) s = .next t ∧
            (parity = false → t = s) ∧ Frame (Foot.of flagKeys [] []) s t) ∧
          (¬ mine → ∃ t, exec (.creditCellRx src c parity) s = .next t ∧ Dropped cntNoStream (src.map (·.val)) c s t ∧
            Frame (Foot.drop cntNoStream) s t)) ∧
        (c.kind = 3#5 →
          let m := bits c.payload.toNat 0 16
          ∃ t, exec (.mlsIncCell src c) s = .next t ∧
            t.get (MLS_ENTRY_COUNT m) = min (s.get (MLS_ENTRY_COUNT m) + bits c.payload.toNat 32 32) 0xFFFFFFFF ∧
            (0xFFFFFFFF < s.get (MLS_ENTRY_COUNT m) + bits c.payload.toNat 32 32 → bitAt c.payload.toNat 64 = true →
              t.get (STR_MILESTONE_OVERFLOW c.stream.toNat) = 1) ∧
            Frame (Foot.milestone [c.stream.toNat]) s t) ∧
        (c.kind = 9#5 → ∃ t, exec (.noticeCell src c) s = .next t ∧ t.notices = s.notices ++ [c.payload.toNat] ∧
          (bits c.payload.toNat 0 8 = 0x01 →
            t.faultDue = s.faultDue ++ [⟨7, 0x1F0, bits c.payload.toNat 32 24, 0, bits c.payload.toNat 96 18⟩]) ∧
          (∀ k, (bits c.payload.toNat 0 8, k) ∈ [(0x03, 5), (0x04, 6)] → t.faultDue = s.faultDue ++
            [⟨k, bits c.payload.toNat 64 9, bits c.payload.toNat 224 24, 0, bits c.payload.toNat 128 8⟩]) ∧
          Frame (Foot.of (fun _ => False) [] [.notices, .faultDue]) s t)))

/-! The router. -/

/-- CELL_ROUTE (R40, R213, R230–R237, R241, R357): the copies that wait look again for credit; then the first cell of a VC goes to the
first alternative with credit, its VC changed across a dateline and HOPS one lower, waits where none has, is dropped and counted for a
parity error in its header, a bad kind, a fence, no route or no hops left, and acts at this chip as its own command does, unless it came by
a link and a plan activates; a parity error elsewhere is counted and poisons the cell. A message of this chip enters the fabric as a whole,
each of its cells is charged as it is sent, and the first cell of one to a fenced chip leaves a notice. -/
def Obligations.RouterForwardsWaitsOrDrops : Prop :=
  (∀ (l : Link) (vc : BitVec 3) (parity : Option Bool) (s : State), s.running = true →
    let u := retryCopies.run s
    let cmd := Instr.cellRoute (some l) vc parity
    let hit (k : Nat) : Prop := k = (LNK_RT_COUNTER_COUNT cntParity).key ∨ k = (LNK_RT_COUNTER_OVF cntParity).key
    (u.headCell (some l) vc.toNat false = none → exec cmd s = .next u) ∧
    (∀ id c0, u.headCell (some l) vc.toNat false = some (id, c0) →
      let c : Cell := if parity = some false then { c0 with poison := true } else c0
      let dropped (i : Nat) : Prop := ∃ t, exec cmd s = .next t ∧ Dropped i (some l.val) c u t ∧ (∀ r ∈ t.rxBuf, r.id ≠ id) ∧
        Frame (Foot.or (Foot.drop i) (Foot.of hit [.rxRel] [.rxBuf])) u t
      (parity = some true → dropped cntParity) ∧
      (parity ≠ some true →
        (badKind c = true → dropped cntBadKind) ∧
        (badKind c = false → u.fenced c.dest.toNat = true → dropped cntFence) ∧
        (badKind c = false → u.fenced c.dest.toNat = false →
          (u.lookup c.dest.toNat = .noRoute → dropped (if c.hops = 0#6 then cntHops else cntNoRoute)) ∧
          (∀ alts, u.lookup c.dest.toNat = .alts alts →
            (c.hops = 0#6 → dropped cntHops) ∧
            (c.hops ≠ 0#6 → u.pickRoute c alts = none → exec cmd s = .next u) ∧
            (∀ p dl m, c.hops ≠ 0#6 → u.pickRoute c alts = some (p, dl, m) →
              ∃ t, exec cmd s = .next t ∧
                t.txq = u.txq ++ [⟨id, m, some l, none, { c with vc := BitVec.ofNat 3 (u.leaveVc c.vc.toNat dl), hops := c.hops - 1#6 }, c⟩] ∧
                t.rxBuf = u.rxBuf.filter (fun r => r.id ≠ id) ∧ t.rd .portLast p = m + 1 ∧
                Frame ⟨hit, fun b k => b = .portLast ∧ k = p, fun _ => False, fun x => x = .txq ∨ x = .rxBuf⟩ u t)) ∧
          (u.lookup c.dest.toNat = .here → u.get GLB_PLAN_STATUS_LOAD_STATE = 3 → exec cmd s = .next u) ∧
          (u.lookup c.dest.toNat = .here → u.get GLB_PLAN_STATUS_LOAD_STATE ≠ 3 →
            let taken := (takeCell (some l) id c0).run
              ((Act.when parity.isSome (count (LNK_RT_COUNTER_COUNT cntParity) (LNK_RT_COUNTER_OVF cntParity))).run u)
            exec cmd s = .next ((deliver (some l.val) c parity.isSome).run taken) ∧
            (∀ q ∈ [(1#5, Instr.tileCellRx (some l) c parity.isSome), (2#5, .creditCellRx (some l) c parity.isSome),
                (3#5, .mlsIncCell (some l) c), (9#5, .noticeCell (some l) c)],
              c.kind = q.1 → exec cmd s = exec q.2 taken)))))) ∧
  (∀ (vc : BitVec 3) (parity : Option Bool) (s : State), s.running = true →
    let u := retryCopies.run s
    let cmd := Instr.cellRoute none vc parity
    let hit (k : Nat) : Prop := k = (LNK_RT_COUNTER_COUNT cntParity).key ∨ k = (LNK_RT_COUNTER_OVF cntParity).key
    (u.headCell none vc.toNat false = none → exec cmd s = .next u) ∧
    (∀ k c0 msg rest, u.headCell none vc.toNat false = some (k, c0) → u.egress[k]? = some msg → msg.cells = c0 :: rest →
      let c : Cell := if parity = some false then { c0 with poison := true } else c0
      let sent (t : State) : Prop :=
        t.egress = (if rest = [] then u.egress.eraseIdx k else u.egress.set k { msg with admitted := true, cells := rest }) ∧
        (∀ g p, msg.graph = some g → u.chargePort c0 = some p →
          t.allowance (portKey p 0 g) = u.allowance (portKey p 0 g) - 1) ∧
        (msg.graph = none → t.allow = u.allow)
      let dropped (i : Nat) (note : List Nat) : Prop := ∃ t, exec cmd s = .next t ∧ Dropped i none c u t ∧ sent t ∧
        t.notices = u.notices ++ note ∧
        Frame (Foot.or (Foot.drop i) (Foot.of hit [.fireLen] [.egress, .allow, .notices])) u t
      (parity = some true → dropped cntParity []) ∧
      (parity ≠ some true →
        (badKind c = true → dropped cntBadKind []) ∧
        (badKind c = false → u.fenced c.dest.toNat = true →
          dropped cntFence (if (if c.kind = 1#5 then bits c.seq.toNat 0 10 = 0 else c.seq = 0#24) then [fenceNotice c] else [])) ∧
        (badKind c = false → u.fenced c.dest.toNat = false →
          (u.lookup c.dest.toNat = .noRoute → dropped cntNoRoute []) ∧
          (∀ alts, u.lookup c.dest.toNat = .alts alts →
            (u.pickRoute c alts = none → ∃ t, exec cmd s = .next t ∧ t.egress = u.egress.set k { msg with admitted := true } ∧
              Frame (Foot.of (fun _ => False) [] [.egress]) u t) ∧
            (∀ p dl m, u.pickRoute c alts = some (p, dl, m) →
              ∃ t, exec cmd s = .next t ∧ sent t ∧ t.rd .portLast p = m + 1 ∧
                t.txq = u.txq ++ [⟨k, m, none, none, { c with vc := BitVec.ofNat 3 (u.leaveVc c.vc.toNat dl), hops := c.hops - 1#6 }, c⟩] ∧
                Frame ⟨hit, fun b i => (b = .portLast ∧ i = p) ∨ b = .fireLen, fun _ => False,
                  fun x => x = .txq ∨ x = .egress ∨ x = .allow⟩ u t)) ∧
          (u.lookup c.dest.toNat = .here → exec cmd s = .next ((deliver none c parity.isSome).run ((takeCell none k c0).run
            ((Act.when parity.isSome (count (LNK_RT_COUNTER_COUNT cntParity) (LNK_RT_COUNTER_OVF cntParity))).run
              ((admitMessage k).run u)))))))))

/-- MCAST_CELL (R236, R241, R357), FENCE_ENTRY_WRITE and MCAST_FENCED_WRITE (R239, R242): a multicast cell leaves one copy for each
unfenced port, or for each peer of a clique port, queued where a link has credit and waiting otherwise, and a count for each fenced port;
with LOCAL it acts at this chip too, a milestone taking its amount; a parity error in its header, a bad kind, an invalid group and no hops
left drop it. USED counts the valid fence entries. -/
def Obligations.MulticastCopiesAndFences : Prop :=
  ∀ (src : Option Link) (vc : BitVec 3) (parity : Option Bool) (s : State), s.running = true →
    let u := retryCopies.run s
    let l := src.map (·.val)
    let cmd := Instr.mcastCell src vc parity
    let took : Foot := Foot.of (fun k => k = (LNK_RT_COUNTER_COUNT cntParity).key ∨ k = (LNK_RT_COUNTER_OVF cntParity).key)
      [.rxRel, .fireLen] [.rxBuf, .egress, .allow]
    (u.headCell l vc.toNat true = none → exec cmd s = .next u) ∧
    (∀ id c0, u.headCell l vc.toNat true = some (id, c0) →
      let c : Cell := if parity = some false then { c0 with poison := true } else c0
      let g := bits c.dest.toNat 0 12
      let dropped (i : Nat) : Prop := ∃ t, exec cmd s = .next t ∧ Dropped i l c u t ∧ (∀ r ∈ t.rxBuf, src = none ∨ r.id ≠ id) ∧
        Frame (Foot.or (Foot.drop i) took) u t
      (parity = some true → dropped cntParity) ∧
      (parity ≠ some true → badKind c = true → dropped cntBadKind) ∧
      (parity ≠ some true → badKind c = false →
        (u.get (LNK_MCAST_VALID g) = 0 → dropped cntNoRoute) ∧
        (u.get (LNK_MCAST_VALID g) = 1 →
          (u.get (LNK_MCAST_LOCAL g) = 1 → u.get GLB_PLAN_STATUS_LOAD_STATE = 3 → src.isSome = true → exec cmd s = .next u) ∧
          (u.get (LNK_MCAST_LOCAL g) = 0 → src.isSome = true → c.hops = 0#6 → dropped cntHops) ∧
          (u.get (LNK_MCAST_LOCAL g) = 0 → (src = none ∨ c.hops ≠ 0#6) →
            ∃ t, exec cmd s = .next t ∧
              (∀ p < 16, bitAt (u.get (LNK_MCAST_PORTS g)) p = true → bitAt (u.get (LNK_MCAST_FENCED g)) p = false →
                ∀ x ∈ u.copiesOn l id c p, x ∈ t.copies ∨
                  ∃ m, ⟨id, m, l, some x, leaving c (u.leaveVc c.vc.toNat (bitAt (u.get (LNK_MCAST_DLMASK g)) p)), c⟩ ∈ t.txq) ∧
              t.get (LNK_RT_COUNTER_COUNT cntFence) = min (u.get (LNK_RT_COUNTER_COUNT cntFence) +
                ((List.range 16).filter fun p => bitAt (u.get (LNK_MCAST_PORTS g)) p && bitAt (u.get (LNK_MCAST_FENCED g)) p).length)
                (2 ^ 48 - 1) ∧
              (∀ r ∈ t.rxBuf, src = none ∨ r.id ≠ id) ∧
              Frame (Foot.or took (Foot.or (Foot.drop cntFence) (Foot.of (fun _ => False) [.portLast] [.copies, .txq]))) u t) ∧
          (u.get (LNK_MCAST_LOCAL g) = 1 → (src = none ∨ u.get GLB_PLAN_STATUS_LOAD_STATE ≠ 3) → c.kind = 3#5 → u.drainedBy c = none →
            let m := bits c.payload.toNat 0 16
            ∃ t, exec cmd s = .next t ∧
              t.get (MLS_ENTRY_COUNT m) = min (u.get (MLS_ENTRY_COUNT m) + bits c.payload.toNat 32 32) 0xFFFFFFFF ∧
              (∀ p < 16, bitAt (u.get (LNK_MCAST_PORTS g)) p = true → bitAt (u.get (LNK_MCAST_FENCED g)) p = false →
                (src = none ∨ c.hops ≠ 0#6) → ∀ x ∈ u.copiesOn l id c p, x ∈ t.copies ∨
                  ∃ m, ⟨id, m, l, some x, leaving c (u.leaveVc c.vc.toNat (bitAt (u.get (LNK_MCAST_DLMASK g)) p)), c⟩ ∈ t.txq) ∧
              (∀ r ∈ t.rxBuf, src = none ∨ r.id ≠ id))))) ∧
    (∀ (i : Fin 64) (chip : ChipId) (valid : Bool),
      ∃ t, exec (.fenceEntryWrite i chip valid) s = .next t ∧ t.get (LNK_FENCE_CHIP i) = chip.toNat ∧
        t.get (LNK_FENCE_VALID i) = (if valid then 1 else 0) ∧
        t.get LNK_FENCE_STATUS_USED = ((List.range 64).filter fun j => t.get (LNK_FENCE_VALID j) = 1).length ∧
        Frame (Foot.fields [LNK_FENCE_CHIP i, LNK_FENCE_VALID i, LNK_FENCE_STATUS_USED]) s t) ∧
    (∀ (g : Fin 4096) (mask : BitVec 16),
      exec (.mcastFencedWrite g mask) s = .next (s.set (LNK_MCAST_FENCED g) mask.toNat))

/-! Links. -/

/-- FRAME_TX, FRAME_RX, REPLAY_TIMEOUT and NAK_RETRY_TIMEOUT (R223–R227, R241, R245, R249, R251–R255). A lit link sends, before the
handshake, CRINIT frames; in it four CRINIT frames and then others; past it replays first, with the cells that parity errors struck counted
and poisoned or dropped, nothing new while 32 frames are held, then up to 16 queued cells in a frame that it holds, or an idle frame. The
frame that is next in order enters the receive buffer, of a link not UP its waymarks alone, one already taken or idle is dropped, any other is counted and asks for a replay;
every sound trailer gives credits back, and its NAK starts a replay. Eight uncorrectable codewords, a CRINIT trailer and the ninth
replay in a row take the link down. The receiver's descrambler undoes the scrambler. -/
def Obligations.FramesCarryCellsInOrder : Prop :=
  (∀ reg w : Nat, w < 2 ^ 32 → descrambleWord reg (scrambleWord reg w).2 = ((scrambleWord reg w).1, w)) ∧
  ∀ (l : Link) (s : State), s.running = true →
    let last := s.rd .fseqNext l + 4095
    let st := s.get (LNK_STATE_STATE l)
    (∀ struck : List (Fin 16 × Bool),
      let cmd := Instr.frameTx l struck
      let idle (t : State) : Prop := LineSent l [] (s.trailer l last false true false) s t ∧ t.rd .nakDue l = 0 ∧ Frame (Foot.line l) s t
      (s.txLit l = false → exec cmd s = .next s) ∧
      (s.txLit l = true → st < 4 ∨ (st = 4 ∧ s.rd .crSteps l = 0) → ∃ t, exec cmd s = .next t ∧
        LineSent l [] ⟨0xFFF, 0xFFF, false, false, true, true, List.replicate 8 0⟩ s t ∧ t.rd .nakDue l = s.rd .nakDue l ∧
        Frame (Foot.line l) s t) ∧
      (s.txLit l = true → st = 4 → s.rd .crSteps l ≠ 0 → 0 < s.rd .crinitLeft l → ∃ t, exec cmd s = .next t ∧
        LineSent l [] (s.trailer l last false true true) s t ∧ t.rd .crinitLeft l = s.rd .crinitLeft l - 1 ∧
        Frame (Foot.or (Foot.line l) ⟨fun _ => False, fun b k => b = .crinitLeft ∧ k = l.val, fun _ => False, fun _ => False⟩) s t) ∧
      (s.txLit l = true → st = 4 → s.rd .crSteps l ≠ 0 → s.rd .crinitLeft l = 0 → ∃ t, exec cmd s = .next t ∧
        LineSent l [] (s.trailer l last false true false) s t ∧ t.rd .crSteps l = (s.rd .crSteps l ||| 2) ∧ t.rd .nakDue l = 0 ∧
        Frame (Foot.or (Foot.line l) ⟨fun _ => False, fun b k => b = .crSteps ∧ k = l.val, fun _ => False, fun _ => False⟩) s t) ∧
      (s.txLit l = true → 5 ≤ st →
        (∀ h, 0 < s.rd .replayLeft l → (s.heldOf l)[(s.heldOf l).length - s.rd .replayLeft l]? = some h →
          ∃ t, exec cmd s = .next t ∧ LineSent l (struckCells struck h.cells) (s.trailer l h.fseq true false false) s t ∧
            t.rd .replayLeft l = s.rd .replayLeft l - 1 ∧ t.rd .nakDue l = 0 ∧
            t.heldFrames = s.heldFrames.map (fun k => if k = h then { h with cells := struckCells struck h.cells } else k) ∧
            (struck = [] → t.get (LNK_RT_COUNTER_COUNT cntParity) = s.get (LNK_RT_COUNTER_COUNT cntParity)) ∧
            Frame (Foot.or (Foot.line l) ⟨fun k => k = (LNK_RT_COUNTER_COUNT cntParity).key ∨ k = (LNK_RT_COUNTER_OVF cntParity).key,
              fun b k => b = .replayLeft ∧ k = l.val, fun _ => False, fun p => p = .heldFrames⟩) s t) ∧
        (s.rd .replayLeft l = 0 → 32 ≤ (s.heldOf l).length → ∃ t, exec cmd s = .next t ∧ idle t) ∧
        (s.rd .replayLeft l = 0 → (s.heldOf l).length < 32 → s.pickTx l = none → ∃ t, exec cmd s = .next t ∧ idle t) ∧
        (∀ x, s.rd .replayLeft l = 0 → (s.heldOf l).length < 32 → s.pickTx l = some x →
          ∃ t cells tr, exec cmd s = .next t ∧ LineSent l cells tr s t ∧ cells.head? = some x.cell ∧ cells.length ≤ 16 ∧
            (∀ y ∈ cells, ∃ q ∈ s.txq, q.link = l.val ∧ q.cell = y) ∧ tr.fseq = s.rd .fseqNext l % 4096 ∧
            tr.aseq = (s.rd .fexpect l + 4095) % 4096 ∧ (tr.nak = true ↔ s.rd .nakDue l = 1) ∧ tr.replay = false ∧ tr.idle = false ∧
            tr.crinit = false ∧ t.rd .nakDue l = 0 ∧
            t.heldFrames = s.heldFrames ++ [⟨l.val, s.rd .fseqNext l, cells ++ List.replicate (16 - cells.length) padCell⟩] ∧
            t.rd .fseqNext l = (s.rd .fseqNext l + 1) % 4096 ∧ t.txq.length + cells.length = s.txq.length ∧
            Frame (Foot.or (Foot.line l) ⟨fun _ => False, fun b k => (b ∈ [.fseqNext, .rrVc] ∧ k = l.val) ∨
              (b ∈ [.txCred, .rrIn] ∧ k / 8 = l.val) ∨ b = .rxRel, fun _ => False, fun p => p = .txq ∨ p = .heldFrames⟩) s t))) ∧
    (∀ (frame : List Byte) (bad : Bool) (corr unc : Nat),
      let tr := (frameTrailer frame).1
      let sound : Bool := (frameTrailer frame).2
      let exp := s.rd .fexpect l
      let cmd := Instr.frameRx l frame bad corr unc false
      let intact : Bool := sound && !bad && (frameCells frame).all fun x => isPad x.1 || x.2
      (st < 4 → ∃ t, exec cmd s = .next t ∧ t.get (LNK_COUNTER_COUNT l 0) = min (s.get (LNK_COUNTER_COUNT l 0) + corr) (2 ^ 48 - 1) ∧
        t.get (LNK_COUNTER_COUNT l 1) = min (s.get (LNK_COUNTER_COUNT l 1) + unc) (2 ^ 48 - 1) ∧
        Frame (Foot.fields [LNK_COUNTER_COUNT l 0, LNK_COUNTER_OVF l 0, LNK_COUNTER_COUNT l 1, LNK_COUNTER_OVF l 1]) s t) ∧
      (st = 4 → s.rd .crSteps l = 0 → sound = true → tr.crinit = true → s.holdsFrom l = false →
        ∃ t, exec cmd s = .next t ∧ (∀ v < 8, t.rd .txCred (8 * l + v) = 256 ∧ t.rd .lastCr (8 * l + v) = 0 ∧ t.rd .rxRel (8 * l + v) = 0) ∧
          t.rd .fseqNext l = 0 ∧ t.rd .fexpect l = 0 ∧ t.rd .crinitLeft l = 4 ∧ t.rd .crSteps l = 1) ∧
      (st = 4 → s.rd .crSteps l ≠ 0 → sound = true → tr.crinit = false → (tr.nak = false ∨ s.rd .replayFails l < 8) →
        ∃ t, exec cmd s = .next t ∧ t.rd .crSteps l = (s.rd .crSteps l ||| 4)) ∧
      (5 ≤ st → sound = true → tr.crinit = true → ∃ t, exec cmd s = .next t ∧ Fell l 1 downPeer s t ∧
        Frame (Foot.or (Foot.linkFall l) (Foot.frameRx l)) s t) ∧
      (5 ≤ st → sound = true → tr.crinit = false → tr.nak = true → s.rd .replayLeft l = 0 → 8 ≤ s.rd .replayFails l →
        s.acked l tr.aseq = 0 → s.heldOf l ≠ [] → ∃ t, exec cmd s = .next t ∧ Fell l 1 downReplay s t ∧
        Frame (Foot.or (Foot.linkFall l) (Foot.frameRx l)) s t) ∧
      (5 ≤ st → sound = true → tr.crinit = false → (tr.nak = false ∨ s.rd .replayFails l < 8) →
        ∃ t, exec cmd s = .next t ∧ Frame (Foot.frameRx l) s t ∧
          (∀ v < 8, t.rd .txCred (8 * l + v) = s.rd .txCred (8 * l + v) + (tr.cr.getD v 0 + 256 - s.rd .lastCr (8 * l + v)) % 256 ∧
            t.rd .lastCr (8 * l + v) = tr.cr.getD v 0) ∧
          t.heldOf l = (s.heldOf l).drop (s.acked l tr.aseq) ∧
          (tr.nak = true → s.rd .replayLeft l = 0 → s.acked l tr.aseq < (s.heldOf l).length →
            t.rd .replayLeft l = (s.heldOf l).length - s.acked l tr.aseq ∧
            t.get (LNK_COUNTER_COUNT l 3) = min (s.get (LNK_COUNTER_COUNT l 3) + 1) (2 ^ 48 - 1)) ∧
          (intact = true → tr.idle = false → tr.fseq = exp → (s.rd .nakHold l = 0 ∨ tr.replay = true) →
            t.rd .fexpect l = (exp + 1) % 4096 ∧ t.rd .nakHold l = 0 ∧
            (t.rxBuf.filter fun r => r.link = l.val).map (·.cell) = (s.rxBuf.filter fun r => r.link = l.val).map (·.cell) ++
              ((frameCells frame).map (·.1)).filter fun c => !isPad c && (st = 6 || c.kind = 8#5)) ∧
          (intact = true → (tr.idle = true ∨ (tr.fseq = exp ∧ s.rd .nakHold l = 1 ∧ tr.replay = false) ∨
              (tr.fseq ≠ exp ∧ 1 ≤ (exp + 4096 - tr.fseq) % 4096 ∧ (exp + 4096 - tr.fseq) % 4096 ≤ 32)) →
            t.rxBuf = s.rxBuf ∧ t.rd .fexpect l = exp ∧ t.rd .nakDue l = s.rd .nakDue l ∧ t.rd .nakHold l = s.rd .nakHold l ∧
            t.get (LNK_COUNTER_COUNT l 2) = s.get (LNK_COUNTER_COUNT l 2)) ∧
          (intact = false ∨ (tr.idle = false ∧ tr.fseq ≠ exp ∧ 32 < (exp + 4096 - tr.fseq) % 4096) →
            t.rxBuf = s.rxBuf ∧ t.rd .fexpect l = exp ∧ t.rd .nakDue l = (if s.rd .nakHold l = 0 then 1 else s.rd .nakDue l) ∧
            t.rd .nakHold l = 1 ∧ t.get (LNK_COUNTER_COUNT l 2) = min (s.get (LNK_COUNTER_COUNT l 2) + 1) (2 ^ 48 - 1))) ∧
      (5 ≤ st → sound = false → ∃ t, exec cmd s = .next t ∧ t.rxBuf = s.rxBuf ∧ t.heldFrames = s.heldFrames ∧
        t.rd .nakDue l = (if s.rd .nakHold l = 0 then 1 else s.rd .nakDue l) ∧ t.rd .nakHold l = 1 ∧
        t.get (LNK_COUNTER_COUNT l 2) = min (s.get (LNK_COUNTER_COUNT l 2) + 1) (2 ^ 48 - 1) ∧ Frame (Foot.frameRx l) s t)) ∧
    (∀ (frame : List Byte) (bad : Bool) (corr unc : Nat), 5 ≤ st →
      ∃ t, exec (.frameRx l frame bad corr unc true) s = .next t ∧ Fell l 1 downFec s t ∧
        Frame (Foot.or (Foot.linkFall l) (Foot.frameRx l)) s t) ∧
    (∀ h rest, 5 ≤ st → s.heldOf l = h :: rest →
      (s.rd .replayFails l < 8 → ∃ t, exec (.replayTimeout l) s = .next t ∧ t.rd .replayLeft l = rest.length + 1 ∧
        t.rd .replayFails l = s.rd .replayFails l + 1 ∧
        t.get (LNK_COUNTER_COUNT l 3) = min (s.get (LNK_COUNTER_COUNT l 3) + 1) (2 ^ 48 - 1) ∧
        Frame ⟨fun k => k = (LNK_COUNTER_COUNT l 3).key ∨ k = (LNK_COUNTER_OVF l 3).key,
          fun b k => b ∈ [.replayLeft, .replayFails, .replayAseq] ∧ k = l.val, fun _ => False, fun _ => False⟩ s t) ∧
      (8 ≤ s.rd .replayFails l → ∃ t, exec (.replayTimeout l) s = .next t ∧ Fell l 1 downReplay s t ∧ Frame (Foot.linkFall l) s t)) ∧
    (st < 5 ∨ s.heldOf l = [] → exec (.replayTimeout l) s = .next s) ∧
    (∃ t, exec (.nakRetryTimeout l) s = .next t ∧
      t.rd .nakDue l = (if s.rd .nakHold l = 1 then 1 else s.rd .nakDue l) ∧
      Frame ⟨fun _ => False, fun b k => b = .nakDue ∧ k = l.val, fun _ => False, fun _ => False⟩ s t)

/-- Bring-up and falls (R248–R250, R271, R414): light on all lanes of a lit link starts LOCK; each stage leads to the next, and a stage that
runs out of time back to LOCK; the handshake ends in SERVICE_ONLY with the round trip; lost light, DARK and RETRAIN take the link down,
with the reason, a cleared peer record and a notice where it had passed the handshake. Start-up's stage 7 follows the links. -/
def Obligations.LinksComeUpAndFall : Prop :=
  ∀ (l : Link) (s : State), s.running = true →
    let st := s.get (LNK_STATE_STATE l)
    let down (t : State) (new why : Nat) : Prop :=
      (5 ≤ st → Fell l new why s t) ∧ (st < 5 → t.get (LNK_STATE_STATE l) = new ∧ t.notices = s.notices)
    let foot (f : Field) : Foot := Foot.or (Foot.linkFall l) (Foot.fields [f])
    (∀ lit : BitVec 8, ∃ t, exec (.linkLightLost l lit) s = .next t ∧ t.get (LNK_STATE_LIT l) = lit.toNat ∧
      (lit ≠ 0xFF → st ≠ 0 → down t 0 downLight) ∧ (lit = 0xFF ∨ st = 0 → t.get (LNK_STATE_STATE l) = st) ∧ Staged s t ∧
      Frame (foot (LNK_STATE_LIT l)) s t) ∧
    (∃ t, exec (.linkLightPresent l) s = .next t ∧ t.get (LNK_STATE_LIT l) = 0xFF ∧
      t.get (LNK_STATE_STATE l) = (if st = 0 ∧ s.txLit l = true then 1 else st) ∧
      Frame (Foot.or (Foot.linkState l) (Foot.fields [LNK_STATE_LIT l])) s t) ∧
    (∀ q ∈ [(Instr.linkLockDone l, 1), (.linkFecDone l, 2), (.linkFrameDone l, 3)],
      (st = q.2 → ∃ t, exec q.1 s = .next t ∧ t.get (LNK_STATE_STATE l) = q.2 + 1 ∧ t.get (LNK_STATE_CAUSE l) = 0 ∧
        Frame ⟨fun k => k = (LNK_STATE_STATE l).key ∨ k = (LNK_STATE_CAUSE l).key,
          fun b k => (b = .crSteps ∨ b = .crinitLeft) ∧ k = l.val, fun _ => False, fun _ => False⟩ s t) ∧
      (st ≠ q.2 → exec q.1 s = .next s)) ∧
    (1 ≤ st ∧ st ≤ 4 → ∃ t, exec (.linkStageTimeout l) s = .next t ∧ t.get (LNK_STATE_STATE l) = 1 ∧
      t.get (LNK_COUNTER_COUNT l 4) = min (s.get (LNK_COUNTER_COUNT l 4) + 1) (2 ^ 48 - 1) ∧ Staged s t ∧
      Frame (Foot.or (Foot.linkState l) (Foot.fields [LNK_COUNTER_COUNT l 4, LNK_COUNTER_OVF l 4])) s t) ∧
    (st = 0 ∨ 4 < st → exec (.linkStageTimeout l) s = .next s) ∧
    (∀ ns : BitVec 16, (st = 4 → s.rd .crSteps l = 7 → ∃ t, exec (.creditHandshake l ns) s = .next t ∧
        t.get (LNK_STATE_STATE l) = 5 ∧ t.get (LNK_STATE_CAUSE l) = 0 ∧ t.get (LNK_RTT_NS l) = ns.toNat ∧ t.get (LNK_RTT_VALID l) = 1 ∧
        t.rd .wmSince l = 0 ∧ Staged s t ∧
        Frame (Foot.or (Foot.linkState l) ⟨fun k => k = (LNK_RTT_NS l).key ∨ k = (LNK_RTT_VALID l).key,
          fun b k => b = .wmSince ∧ k = l.val, fun _ => False, fun _ => False⟩) s t) ∧
      (st ≠ 4 ∨ s.rd .crSteps l ≠ 7 → exec (.creditHandshake l ns) s = .next s)) ∧
    (∃ t, exec (.dark l true) s = .next t ∧ t.get (LNK_CTRL_DARK l) = 1 ∧ (st ≠ 0 → down t 0 downDark) ∧ Staged s t ∧
      Frame (foot (LNK_CTRL_DARK l)) s t) ∧
    (∃ t, exec (.dark l false) s = .next t ∧ t.get (LNK_CTRL_DARK l) = 0 ∧
      t.get (LNK_STATE_STATE l) =
        (if st = 0 ∧ bitAt (s.get PWR_LASER_LIT) (unitOf l) = true ∧ s.get (LNK_STATE_LIT l) = 0xFF then 1 else st) ∧ Staged s t ∧
      Frame (Foot.or (Foot.linkState l) (Foot.fields [LNK_CTRL_DARK l])) s t) ∧
    (∃ t, exec (.retrain l) s = .next t ∧ (st = 0 → t = s) ∧ (st ≠ 0 → down t 1 downRetrain) ∧ Frame (Foot.linkFall l) s t)

/-- Waymarks and the election (R213, R261–R268, R414): a link past the handshake queues a waymark with this chip's record; a received one
is consumed, dropped where its header is not a waymark's, counted where malformed, and otherwise recorded, and the link's admission judged;
the elected candidate gives the coordinate, which is in force without a plan, and a change clears DISC_STABLE, which settling sets. -/
def Obligations.WaymarksAndElection : Prop :=
  ∀ (l : Link) (s : State), s.running = true →
    (5 ≤ s.get (LNK_STATE_STATE l) → ∃ t c, exec (.waymarkSend l) s = .next t ∧ t.txq = s.txq ++ [⟨0, l.val, none, none, c, c⟩] ∧
      c.kind = 8#5 ∧ c.vc = 0#3 ∧ badKind c = false ∧ bits c.payload.toNat 0 64 = s.get LNK_SERIAL_SERIAL ∧
      c.payload.toNat = s.waymark l % 2 ^ 512 ∧ Frame (Foot.of (fun _ => False) [] [.txq]) s t) ∧
    (s.get (LNK_STATE_STATE l) < 5 → exec (.waymarkSend l) s = .next s) ∧
    ((s.rxBuf.find? fun r => r.link = l.val && r.cell.kind = 8#5) = none → exec (.waymarkRx l) s = .next s) ∧
    (∀ r, (s.rxBuf.find? fun r => r.link = l.val && r.cell.kind = 8#5) = some r →
      let w := r.cell.payload.toNat
      let took (F : Foot) : Foot := Foot.or F (Foot.of (fun _ => False) [.rxRel] [.rxBuf])
      (badKind r.cell = true → ∃ t, exec (.waymarkRx l) s = .next t ∧ Dropped cntBadKind (some l.val) r.cell s t ∧
        (∀ x ∈ t.rxBuf, x.id ≠ r.id) ∧ Frame (took (Foot.drop cntBadKind)) s t) ∧
      (badKind r.cell = false → wmBad w = true → ∃ t, exec (.waymarkRx l) s = .next t ∧ (∀ x ∈ t.rxBuf, x.id ≠ r.id) ∧
        t.get (LNK_COUNTER_COUNT l 7) = min (s.get (LNK_COUNTER_COUNT l 7) + 1) (2 ^ 48 - 1) ∧
        Frame (took (Foot.fields [LNK_COUNTER_COUNT l 7, LNK_COUNTER_OVF l 7])) s t) ∧
      (badKind r.cell = false → wmBad w = false → ∃ t, exec (.waymarkRx l) s = .next t ∧ t.get (LNK_PEER_INFO_VALID l) = 1 ∧
        t.get (LNK_PEER_SERIAL_SERIAL l) = bits w 0 64 ∧ t.get (LNK_PEER_INFO_LINK l) = bits w 176 8 ∧
        t.get (LNK_PEER_INFO_ROLE l) = bits w 184 8 ∧ t.get (LNK_PEER_INFO_PROTO l) = bits w 192 8 ∧
        t.get (LNK_PEER_INFO_FW l) = bits w 208 16 ∧ t.get (LNK_PEER_INFO_CLAIM l) = bits w 224 24 ∧ t.rd .peerWm l = w ∧
        (5 ≤ s.get (LNK_STATE_STATE l) → t.rd .wmSince l = 1 ∧
          (t.get (LNK_STATE_STATE l), t.get (LNK_STATE_CAUSE l)) = t.admission l ∧
          (t.get (LNK_STATE_PLAN_DIFF l) = 1 ↔ wmHash w ≠ t.planHash)) ∧
        (s.get (LNK_STATE_STATE l) < 5 → t.get (LNK_STATE_STATE l) = s.get (LNK_STATE_STATE l)) ∧
        Frame (took (Foot.or (Foot.fields [LNK_STATE_STATE l, LNK_STATE_CAUSE l, LNK_STATE_PLAN_DIFF l, LNK_STATE_MINOR l,
            LNK_PEER_SERIAL_SERIAL l, LNK_PEER_INFO_LINK l, LNK_PEER_INFO_ROLE l, LNK_PEER_INFO_PROTO l, LNK_PEER_INFO_FW l,
            LNK_PEER_INFO_CLAIM l, LNK_PEER_INFO_VALID l])
          (Foot.of (fun _ => False) [.wmSince, .peerWm] [.txq, .copies, .egress, .notices, .faultDue]))) s t)) ∧
    (∀ stale : BitVec 36,
      let b := s.elect stale.toNat
      let coord := s.wRank % 16 * 2 ^ 20 + (b.getD 4 0) * 2 ^ 16 + (b.getD 5 0) * 2 ^ 8 + b.getD 6 0
      ∃ t, exec (.electionRecompute stale) s = .next t ∧ t.get LNK_DISC_COORD = coord % 2 ^ 24 ∧
        t.get LNK_DISC_ORIGIN_SERIAL = b.getD 3 0 % 2 ^ 64 ∧ t.get LNK_DISC_HOPS = b.getD 7 0 % 2 ^ 10 ∧
        t.get LNK_DISC_PRIO = (b.getD 0 0 + 2 * b.getD 1 0 + 4 * b.getD 2 0) % 2 ^ 3 ∧
        (s.get LNK_COORD_VALID = 0 → t.get LNK_COORD_ACTIVE = coord % 2 ^ 24) ∧
        (s.get LNK_COORD_VALID = 1 → t.get LNK_COORD_ACTIVE = s.get LNK_COORD_ACTIVE) ∧
        (t.get LNK_DISC_DIFF = 1 ↔ t.get LNK_DISC_COORD ≠ t.get LNK_COORD_ACTIVE) ∧
        t.get LNK_DISC_STABLE =
          (if coord ≠ s.get LNK_DISC_COORD ∨ b.getD 3 0 ≠ s.get LNK_DISC_ORIGIN_SERIAL then 0 else s.get LNK_DISC_STABLE) ∧
        Frame (Foot.fields [LNK_DISC_COORD, LNK_DISC_ORIGIN_SERIAL, LNK_DISC_HOPS, LNK_DISC_PRIO, LNK_DISC_DIFF, LNK_DISC_STABLE,
          LNK_COORD_ACTIVE]) s t) ∧
    (∃ t, exec .discSettle s = .next t ∧ t.get LNK_DISC_STABLE = 1 ∧
      t.get GLB_BOOT_STATUS_STAGE = (if s.get GLB_BOOT_STATUS_STAGE = 8 ∨ (s.get GLB_BOOT_STATUS_STAGE = 7 ∧ s.linksUp = true) then 9
        else s.get GLB_BOOT_STATUS_STAGE) ∧
      Frame (Foot.fields [LNK_DISC_STABLE, GLB_BOOT_STATUS_STAGE]) s t)

/-! Collectives. -/

/-- COLL and BUCKET (R279, R294, R296, R320): the first firing enters the next instance, which an abort that came before ends at once, and
stages its first tile; a staging firing puts the elements of one contribution tile into WORK and consumes it, or gives its stream
BAD_HEADER; an emission firing sends the next result tile; without a ready alternative of the kind nothing happens. -/
def Obligations.CollectiveFiringsEnterStageAndEmit : Prop :=
  ∀ (v : Vusyn) (parity : Bool) (s : State), s.running = true → s.waitMsgs = [] →
    (∀ cmd ∈ [Instr.coll v parity, .bucket v parity], s.firstReady (0x120 + v.val) 0 s.vsyReady = none → exec cmd s = .next s) ∧
    ∀ a, s.firstReady (0x120 + v.val) 0 s.vsyReady = some a →
    let g := s.geo (vwTag a.op)
    let con := s.contribution g
    (∀ q ∈ [(Instr.coll v parity, 1), (.bucket v parity, 2)], vwKind a.op ≠ q.2 → exec q.1 s = .next s) ∧
    ∀ cmd : Instr, (cmd, vwKind a.op) ∈ [(Instr.coll v parity, 1), (.bucket v parity, 2)] →
    let foot (ns : List Nat) (bytes : Nat → Prop) : Foot :=
      Foot.or (Foot.vusyn s g.tag ns bytes) (Foot.of (stationKeys (0x120 + v.val)) [.runAlt] [.free])
    (s.vsyNext a = some .enter →
      let num := s.get (VSY_DESC_INST g.tag)
      (∀ p, (s.earlyAborts.find? fun y => y.1 = g.tag && y.2.1 = num) = some (g.tag, num, p) →
        ∃ t, exec cmd s = .next t ∧ InstAborted g.tag num p a.streams s t ∧ t.get (VSY_DESC_INST g.tag) = (num + 1) % 2 ^ 32 ∧
          t.slots = s.slots ∧ Frame (Foot.enter g.tag a.streams) s t) ∧
      ((s.earlyAborts.find? fun y => y.1 = g.tag && y.2.1 = num) = none →
        ∃ t, exec cmd s = .next t ∧ t.get (VSY_DESC_INST g.tag) = (num + 1) % 2 ^ 32 ∧
          (∀ y, t.inst g.tag = some y → y.num = num ∧ y.ins = a.inputs ∧ y.outs = a.outputs ∧ y.flush = s.flushOf a ∧
            t.get (VSY_DESC_STATE g.tag) = 1) ∧
          (s.get GLB_MODE_ROLE ≠ 1 → s.get (VSY_GROUP_ANN_VALID g.group) = 1 → ⟨none, false, [s.enterCell g.tag num]⟩ ∈ t.egress) ∧
          (∀ i rest, a.inputs = i :: rest →
            ((∀ x : Inst, x.staged = 0 → s.badContribution g x (s.inputD i) = false) →
              TileStaged g.tag (s.flushOf a) a.streams 0 i parity s t) ∧
            ((∀ x : Inst, x.staged = 0 → s.badContribution g x (s.inputD i) = true) →
              t.get (STR_BAD_HEADER i) = 1 ∧ t.slots = s.slots ∧ ∀ y, t.inst g.tag = some y → y.staged = 0)) ∧
          Frame (Foot.or (foot a.streams (s.inWork g.tag (expand [(con.1, con.2)]))) (Foot.enter g.tag a.streams)) s t)) ∧
    (∀ x i, s.inst g.tag = some x → s.vsyNext a = some (.stage i) →
      let n := (tileElems g.et (s.inputD i)).length
      (s.badContribution g x (s.inputD i) = true → s.get (STR_BAD_HEADER i) = 0 → exec cmd s = .next (s.rejected i)) ∧
      (s.badContribution g x (s.inputD i) = false →
        ∃ t, exec cmd s = .next t ∧ TileStaged g.tag x.flush (x.ins ++ x.outs) x.staged i parity s t ∧
          Frame (foot (x.ins ++ x.outs ++ a.streams) (s.inWork g.tag (expand [(con.1 + x.staged, n)]))) s t)) ∧
    (∀ x actor o d n, s.inst g.tag = some x → s.vsyNext a = some (.emit actor o d n) →
      (∀ r, s.region (s.get (VSY_DESC_WORK g.tag)) = some r → r.mem < 80) →
      let r := s.nextResult g actor d n
      let bad : Bool := parity || (expand [r]).any (s.elemBad g x actor)
      ∃ t y, exec cmd s = .next t ∧ Emitted s t o y ∧ hFmt y.head = etTile g.outEt ∧ hPoison y.head = bad ∧
        (∀ j < r.2, bits y.payload (8 * wireBytes g.outEt * j) (8 * wireBytes g.outEt) =
          (toWire g.outEt (s.emitRnd g actor (r.1 + j)) x.flush (s.workElem g actor (r.1 + j))).1 %
            2 ^ (8 * wireBytes g.outEt)) ∧
        (bad = true → ∀ n ∈ x.ins ++ x.outs, t.get (STR_POISONED n) = 1) ∧
        (∀ z, t.inst g.tag = some z → (actor = 0 → z.emitted = x.emitted + r.2) ∧ (actor ≠ 0 → z.emitted1 = x.emitted1 + r.2)) ∧
        Frame (foot (x.ins ++ x.outs ++ a.streams) fun _ => False) s t)

/-- PIECE_SEND and PIECE_MESSAGE (R282–R291, R296, R306): a message that is ready goes to the serving chip of its receiver, inside the
window, with the header of R289; one that is not stays, and a hop inside the chip waits for its own checks; cells that are no whole message
of the command's kind change nothing; a message for a descriptor that is not served is dropped and counted, a stale one too; one of a newer
epoch waits; one that fails a later check aborts the instance; and one whose stage is open is combined with the member's own partial, or
kept; on a clique the contributions are combined in ascending digit once all are there. -/
def Obligations.PieceMessagesAreSentAndCombined : Prop :=
  ∀ (s : State), s.running = true →
    (s.waitMsgs = [] → ∀ (tag : BitVec 12) (k : MsgKey) (struck : List (Fin 512)),
      (s.inst tag.toNat = none → exec (.pieceSend tag k struck) s = .next s) ∧
      ∀ x, s.inst tag.toNat = some x →
      let g := s.geo tag.toNat
      let ds := s.actorDigits g.group k.actor
      let chip := s.servingChip g.group (peerDigits ds k)
      let l := s.keyElems g x ds k
      let d := s.carry g x ds k l
      let n := ceilDiv d.bytes 64
      let stream := msgStream tag.toNat k.level k.phase k.dir x.num
      let head := pieceHead (s.get (VSY_DESC_SIG tag.toNat)) (s.get (VSY_GROUP_EPOCH g.group)) x.num (s.stepNum (s.descGraph tag.toNat))
        s.chipId (rankOf g.sizes ds) k.col k.round k.digit k.part d.bytes d.type d.samples 0 0
      let may : Prop := s.sendReady g x k = true ∧ s.takesPart (s.descGraph tag.toNat) = true ∧
        (chip = s.chipId ∨ s.unreleased tag.toNat chip < s.window g) ∧ s.withdrawn g.group (s.ownDigits g.group) = false
      let foot (parts : List Part) : Foot :=
        Foot.or (Foot.vusyn s tag.toNat (x.ins ++ x.outs) fun a => k.phase = 0 ∧ k.sample = false ∧ s.thinned g k.level = true ∧
            ∃ i ∈ l, ∃ q, s.errAt g ds k.level i true = some q ∧ memBase q.1 + q.2 ≤ a ∧ a < memBase q.1 + q.2 + 2)
          (Foot.of (fun k => k = (GLB_STEP_STATE_NEXT_DIRTY (s.descGraph tag.toNat)).key) [] parts)
      (¬ may → exec (.pieceSend tag k struck) s = .next ((tryComplete tag.toNat).run s)) ∧
      (may → chip = s.chipId → ∃ s1 q, exec (.pieceSend tag k struck) s = .next ((tryComplete tag.toNat).run (settle.run s1)) ∧
        s1.waitMsgs = [q] ∧ q.stream = BitVec.ofNat 18 stream ∧ q.head = BitVec.ofNat 512 head ∧ q.data = d.data ∧
        s1.egress = s.egress ∧ (∀ y, s1.inst tag.toNat = some y → k ∈ y.sent) ∧ Frame (foot [.waitMsgs]) s s1) ∧
      (may → chip ≠ s.chipId → ∃ t cells, exec (.pieceSend tag k struck) s = .next t ∧
        t.egress = s.egress ++ [⟨some (s.descGraph tag.toNat), false, cells⟩] ∧ cells.length = n + 1 ∧
        (∀ c ∈ cells, c.dest = BitVec.ofNat 24 chip ∧ c.endpt = BitVec.ofNat 9 (s.descEndpt tag.toNat) ∧ c.sample = k.sample ∧
          c.stream = BitVec.ofNat 18 stream ∧ c.mcast = false ∧ c.kind = (if g.op = opBucket then 5#5 else 4#5) ∧
          c.vc = BitVec.ofNat 3 (s.get (VSY_DESC_VC tag.toNat))) ∧
        (∀ j c, cells[j]? = some c →
          c.payload = BitVec.ofNat 512 (if j = 0 then head else bits d.data (512 * (j - 1)) 512) ∧
          c.seq = BitVec.ofNat 24 (s.nextNum stream chip * 2 ^ 10 + j) ∧ (c.last = true ↔ j = n)) ∧
        (∀ i ∈ struck, i.val < n → (∀ c, cells[i.val + 1]? = some c → c.poison = true) ∧
          (s.get (VSY_DESC_VALID tag.toNat) = 1 →
            bitAt (t.get (GLB_STEP_FLAGS_SRC (s.descGraph tag.toNat))) 8 = true)) ∧
        (∃ c ∈ t.sentCounts, c.stream = stream ∧ c.chip = chip ∧ c.num = (s.nextNum stream chip + 1) % 16383) ∧
        (∀ y, t.inst tag.toNat = some y → k ∈ y.sent) ∧ Frame (foot [.sentCounts]) s t)) ∧
    (∀ (cells : List Cell) (struck : List (Fin 512)),
      (takeOut s.vsyCells cells = none ∨ wholeMsg cells = none ∨ (∃ m, wholeMsg cells = some m ∧ isPieceMsg m = false) →
        exec (.pieceMessage cells struck) s = .next s) ∧
      ∀ (rest : List Cell) (m0 : PieceMsg), takeOut s.vsyCells cells = some rest → wholeMsg cells = some m0 → isPieceMsg m0 = true →
      let m : PieceMsg := { m0 with poison := m0.poison ||| struckMask (cells.length - 1) struck }
      let tag := m.stream.toNat % 4096
      let g := s.geo tag
      let s0 : State := { s with vsyCells := rest, waitMsgs := s.waitMsgs ++ [m] }
      let s1 : State := if m.poison ≠ 0 ∧ s.get (VSY_DESC_VALID tag) = 1 then (raiseSource (s.descGraph tag) 8).run s0 else s0
      (s.waitMsgs = [] →
        (s.serves m.endpt.toNat tag = false →
          ∃ t, exec (.pieceMessage cells struck) s = .next t ∧ t.vsyCells = rest ∧ t.waitMsgs = [] ∧ t.mem = s.mem ∧
            t.get (VSY_CNT_COUNT 2) = min (s.get (VSY_CNT_COUNT 2) + 1) (2 ^ 48 - 1) ∧ Released m s t ∧
            Frame (Foot.or (Foot.fields [VSY_CNT_COUNT 2, VSY_CNT_OVF 2]) (Foot.of flagKeys [] [.vsyCells, .takenCounts, .egress])) s t) ∧
        (s.serves m.endpt.toNat tag = true → s.takesPart (s.descGraph tag) = true →
          0 < epochDiff (phEpoch m.head.toNat) (s.get (VSY_GROUP_EPOCH g.group)) → exec (.pieceMessage cells struck) s = .next s1) ∧
        (s1.verdict m = .wait → exec (.pieceMessage cells struck) s = .next s1) ∧
        (s1.verdict m = .stale →
          ∃ t, exec (.pieceMessage cells struck) s = .next t ∧ t.waitMsgs = [] ∧
            t.get (VSY_CNT_COUNT 1) = min (s.get (VSY_CNT_COUNT 1) + 1) (2 ^ 48 - 1) ∧ Released m s t ∧
            Frame (Foot.or (Foot.fields [VSY_CNT_COUNT 1, VSY_CNT_OVF 1]) (Foot.of flagKeys [] [.vsyCells, .takenCounts, .egress])) s t) ∧
        (∀ r x, s1.verdict m = .abort r → s.inst tag = some x →
          let p := abortPayload (s.get (VSY_DESC_SIG tag)) (phSig m.head.toNat) x.num (s.get (VSY_GROUP_EPOCH g.group)) r s.chipId
            (phRank m.head.toNat)
          ∃ t, exec (.pieceMessage cells struck) s = .next t ∧ InstAborted tag x.num p (x.ins ++ x.outs) s t ∧ Released m s t ∧
            (∀ r ∈ s.partners g.group, ⟨none, false, [abortCellTo (s.rankChip g.group r) (s.descEndpt tag) tag
              (s.get (VSY_GROUP_CTL_VC g.group)) p]⟩ ∈ t.egress) ∧
            Frame (Foot.settled s tag (x.ins ++ x.outs) fun _ => False) s t) ∧
        (∀ k x, s1.verdict m = .take k → s.inst tag = some x → k.sample = false → (k.phase = 1 ∨ s.clique g.group k.level = false) →
          let l := s.keyElems g x (s.actorDigits g.group k.actor) k
          let ws := s.wireWords g x k l m.data
          ∃ t, exec (.pieceMessage cells struck) s = .next t ∧ t.waitMsgs = [] ∧ (∀ y, t.inst tag = some y → k ∈ y.got ∧
              ∀ i ∈ poisonedOf g (if k.phase = 0 && s.thinned g k.level then 1 else 0) l m.poison, (k.actor, i, 1) ∈ y.poisoned) ∧
            Released m s t ∧
            (l.Nodup → ∀ j, j < l.length → j < ws.length → s.workHolds t tag k.actor (l.getD j 0)
              (if k.phase = 0 then
                (combineWords g.et (s.get (VSY_DESC_RED tag)) x.flush (ws.getD j 0) (s.workElem g k.actor (l.getD j 0))).1
              else ws.getD j 0)) ∧
            Frame (Foot.settled s tag (x.ins ++ x.outs) (s.inWork tag l)) s t)) ∧
      (∀ k x, s.inst tag = some x → k.sample = false → k.phase = 0 → s.clique g.group k.level = true →
        (∀ w ∈ s1.waitMsgs, w.stream.toNat % 4096 = tag ∧ ∃ q, s1.verdict w = .take q ∧ { q with peer := k.peer } = k) →
        (s1.waitMsgs.map fun w => s1.keyOf g x w).Nodup →
        let ds := s.actorDigits g.group k.actor
        let l := s.keyElems g x ds k
        ∃ t, exec (.pieceMessage cells struck) s = .next t ∧ t.waitMsgs = [] ∧
          (∀ w ∈ s1.waitMsgs, ∀ q, s1.verdict w = .take q → Released w s t ∧ ∀ y, t.inst tag = some y → q ∈ y.got) ∧
          (l.Nodup → ∀ j < l.length, ∀ word : Nat → Nat, word ((ds[k.level]?).getD 0) = s.workElem g k.actor (l.getD j 0) →
            (∀ w ∈ s1.waitMsgs, ∀ q, s1.verdict w = .take q → word q.peer = (s.wireWords g x q l w.data).getD j 0) →
            s.workHolds t tag k.actor (l.getD j 0) ((List.range ((g.sizes[k.level]?).getD 1)).tail.foldl
              (fun a d => (combineWords g.et (s.get (VSY_DESC_RED tag)) x.flush a (word d)).1) (word 0))) ∧
          Frame (Foot.settled s tag (x.ins ++ x.outs) (s.inWork tag l)) s t))

/-- COLL_CREDIT, ABORT_CELL, ENTER_CELL and COLL_WATCHDOG_FIRE (R290, R293–R295, R305, R311, R313): cells for a descriptor that is not
served are counted as BAD_COLL; a credit releases messages of the receiver it fits, the lowest chip of several (log entry 64: the model's
choice), and its release may complete the instance; an abort of the active instance marks its streams, ends it, counts, and is forwarded;
one of an instance to come is recorded and forwarded, one seen before or for a graph this chip withdrew from does nothing, an older one
is stale; an ENTER of an older epoch is stale, of a newer one waits, with another signature aborts, and otherwise is traced and counted
once every other member has entered; the watchdog stalls the streams and ends the instance. -/
def Obligations.CollectiveCreditsAbortsAndWatchdog : Prop :=
  ∀ (s : State), s.running = true →
    let counted (t : State) (i : Nat) : Prop := t.get (VSY_CNT_COUNT i) = min (s.get (VSY_CNT_COUNT i) + 1) (2 ^ 48 - 1)
    let countFoot (i : Nat) : Foot := Foot.fields [VSY_CNT_COUNT i, VSY_CNT_OVF i]
    (∀ (c : Cell), ∀ cmd ∈ [Instr.collCredit c, .abortCell c, .enterCell c],
      s.serves c.endpt.toNat (c.stream.toNat % 4096) = false →
      ∃ t, exec cmd s = .next t ∧ counted t 2 ∧ Frame (countFoot 2) s t) ∧
    (∀ (c : Cell), s.serves c.endpt.toNat (c.stream.toNat % 4096) = true →
      let st := c.stream.toNat
      let tag := st % 4096
      let p := c.payload.toNat
      let v := bits p 0 32
      let num := bits p 64 32
      let grp := s.get (VSY_DESC_GROUP tag)
      let age := epochDiff (phEpoch p) (s.get (VSY_GROUP_EPOCH grp))
      let fits := s.sentCounts.filter fun x => x.stream = st && 0 < seqDiff v x.released && 0 ≤ seqDiff x.sent v
      let forwarded (q : Nat) (t : State) : Prop := ∀ r ∈ s.partners grp,
        ⟨none, false, [abortCellTo (s.rankChip grp r) (s.descEndpt tag) tag (s.get (VSY_GROUP_CTL_VC grp)) q]⟩ ∈ t.egress
      let onlyRecorded (i q : Nat) (t : State) : Prop := (tag, i, q) ∈ t.earlyAborts ∧ forwarded q t ∧
        Frame (Foot.of (fun _ => False) [] [.earlyAborts, .egress]) s t
      let known (i : Nat) : Bool := s.earlyAborts.any fun a => a.1 = tag && a.2.1 = i
      (∀ x ∈ fits, (∀ y ∈ fits, y ≠ x → x.chip < y.chip) →
        ∃ t, exec (.collCredit c) s = .next t ∧
          t.sentCounts = (s.sentCounts.map fun y => if y = x then { y with released := v } else y) ∧
          Frame (Foot.or (Foot.abort tag []) (Foot.of (fun _ => False) [] [.sentCounts])) s t) ∧
      (fits = [] → exec (.collCredit c) s = .next s) ∧
      (s.takesPart (s.descGraph tag) = false ∨ known num = true → exec (.abortCell c) s = .next s) ∧
      (s.takesPart (s.descGraph tag) = true → known num = false →
        (∀ x, s.inst tag = some x → x.num = num → ∃ t, exec (.abortCell c) s = .next t ∧
          InstAborted tag num p (x.ins ++ x.outs) s t ∧ forwarded p t ∧ Frame (Foot.abort tag (x.ins ++ x.outs)) s t) ∧
        (((∃ x, s.inst tag = some x ∧ 0 < seqDiff num x.num) ∨
            (s.inst tag = none ∧ 0 ≤ seqDiff num (s.get (VSY_DESC_INST tag)))) →
          ∃ t, exec (.abortCell c) s = .next t ∧ onlyRecorded num p t) ∧
        (((∃ x, s.inst tag = some x ∧ x.num ≠ num ∧ seqDiff num x.num ≤ 0) ∨
            (s.inst tag = none ∧ seqDiff num (s.get (VSY_DESC_INST tag)) < 0)) →
          ∃ t, exec (.abortCell c) s = .next t ∧ counted t 1 ∧ Frame (countFoot 1) s t)) ∧
      (let cur : Prop := ∃ x, s.inst tag = some x ∧ x.num = phInst p
      let old : Prop := age < 0 ∨ (¬ cur ∧ seqDiff (phInst p) (s.get (VSY_DESC_INST tag)) < 0)
      let aborts := abortPayload (s.get (VSY_DESC_SIG tag)) (phSig p) (phInst p) (s.get (VSY_GROUP_EPOCH grp)) 1 s.chipId (phRank p)
      (old → ∃ t, exec (.enterCell c) s = .next t ∧ counted t 1 ∧ Frame (countFoot 1) s t) ∧
      (¬ old → 0 < age → exec (.enterCell c) s = .next { s with vsyCells := s.vsyCells ++ [c] }) ∧
      (¬ old → age = 0 → phSig p ≠ s.get (VSY_DESC_SIG tag) →
        (∀ x, s.inst tag = some x → x.num = phInst p → ∃ t, exec (.enterCell c) s = .next t ∧
          InstAborted tag (phInst p) aborts (x.ins ++ x.outs) s t ∧ forwarded aborts t ∧
          Frame (Foot.abort tag (x.ins ++ x.outs)) s t) ∧
        (¬ cur → known (phInst p) = false → ∃ t, exec (.enterCell c) s = .next t ∧ onlyRecorded (phInst p) aborts t) ∧
        (¬ cur → known (phInst p) = true → exec (.enterCell c) s = .next s)) ∧
      (¬ old → age = 0 → phSig p = s.get (VSY_DESC_SIG tag) → s.traces grp = false ∨ phRank p = s.ownRank grp →
        exec (.enterCell c) s = .next s) ∧
      (¬ old → age = 0 → phSig p = s.get (VSY_DESC_SIG tag) → s.traces grp = true → phRank p ≠ s.ownRank grp →
        let e := s.enterRec tag (phInst p)
        let others := (e.others.filter fun o => o.1 ≠ phRank p) ++ [(phRank p, phChip p, s.get CNT_CYCLE_COUNT)]
        let base := s.get VSY_LAG_CFG_BASE_K * 1024
        (e.own = none ∨ others.length + 1 ≠ groupN (s.sizes grp) →
          ∃ t, exec (.enterCell c) s = .next t ∧ { e with others := others } ∈ t.enters ∧
            Frame (Foot.of (fun _ => False) [] [.enters]) s t) ∧
        (∀ t0, e.own = some t0 → others.length + 1 = groupN (s.sizes grp) →
          let all := (s.ownRank grp, t0) :: others.map fun o => (o.1, o.2.2)
          ∃ t, exec (.enterCell c) s = .next t ∧ { e with others := others } ∉ t.enters ∧
            (∀ o ∈ all, (∀ q ∈ all, q ≠ o → q.2 < o.2 ∨ (q.2 = o.2 ∧ o.1 < q.1)) → base ≤ o.1 → o.1 < base + 1024 →
              t.get (VSY_LAG_LAST_COUNT (o.1 - base)) = min (s.get (VSY_LAG_LAST_COUNT (o.1 - base)) + 1) (2 ^ 48 - 1)) ∧
            ((all.map (·.1)).Nodup → ∀ o ∈ all, base ≤ o.1 → o.1 < base + 1024 →
              t.get (VSY_LAG_SUM_COUNT (o.1 - base)) = min (s.get (VSY_LAG_SUM_COUNT (o.1 - base)) + (o.2 - t0)) (2 ^ 48 - 1)) ∧
            Frame (Foot.of lagKeys [] [.enters]) s t)))) ∧
    (∀ (tag : BitVec 12),
      (s.inst tag.toNat = none → exec (.collWatchdogFire tag) s = .next s) ∧
      ∀ x, s.inst tag.toNat = some x →
      (s.get VSY_COLL_CFG_COLL_WD ≠ 0 → s.get GLB_MODE_ROLE = 1 → s.collWdHeld tag.toNat x = false →
        ∃ t, exec (.collWatchdogFire tag) s = .next t ∧ t.inst tag.toNat = none ∧ t.get (VSY_DESC_STATE tag.toNat) = 2 ∧ counted t 3 ∧
          (∀ n ∈ x.ins ++ x.outs, t.get (STR_STALLED n) = 1) ∧
          (s.get (MLS_STATUS_CODE (s.get (VSY_DESC_MLS_DONE tag.toNat))) = 0 →
            t.get (MLS_STATUS_CODE (s.get (VSY_DESC_MLS_DONE tag.toNat))) = codeStalled) ∧
          Frame (Foot.or (Foot.abort tag.toNat (x.ins ++ x.outs)) (countFoot 3)) s t) ∧
      (s.get VSY_COLL_CFG_COLL_WD = 0 ∨ s.get GLB_MODE_ROLE ≠ 1 ∨ s.collWdHeld tag.toNat x = true →
        exec (.collWatchdogFire tag) s = .next s))

/-! The gradient path. -/

/-- BUCKET_FINISH, PUBLISH, GATHER, SAMPLE_MESSAGE and PUBLICATION_MESSAGE (R296, R305, R320–R327, R333–R339): a ready column is multiplied
by the factor and marked finished, a NaN is a NaN of the step, and the last column counts on MLS_FIN; a published tile, repacked, goes to
every receiver in one multicast message and into PREGION or the mirror, and is consumed, or its stream gets BAD_HEADER; GATHER arms the
gather, which may be whole already; a sample message adds to the exact partials; a publication message is written into PREGION, and waits
until the gather is armed; what is not ready, or not of the command's kind, changes nothing. -/
def Obligations.GradientPathFinishesPublishesAndGathers : Prop :=
  ∀ (s : State), s.running = true → s.waitMsgs = [] → (∀ r ∈ s.regions, r.graph < 8) →
    let within (p j n a : Nat) : Prop :=
      ∃ r, s.region p = some r ∧ memBase r.mem + s.recordOff r 2 j ≤ a ∧ a < memBase r.mem + s.recordOff r 2 j + n
    let recordAt (p j : Nat) (rec : List Byte) (other : Nat → Prop) (t : State) : Prop := ∀ r b q, s.region p = some r → rec[b]? = some q →
      t.get (GLB_STEP_STATE_NEXT_DIRTY r.graph) = 1 ∧ (¬ other (memBase r.mem + s.recordOff r 2 j + b) →
        t.byte (memBase r.mem + s.recordOff r 2 j + b) = q)
    let mirrors (tag shard : Nat) : Prop := s.get (VSY_BUCKET_MIRROR_EN tag) = 1 ∧
      ((s.successorDigits (s.geo tag).group).map fun ds => rankOf (s.geo tag).sizes ds) = some shard
    let stored (tag shard tile : Nat) (rec : List Byte) (t : State) : Prop :=
      recordAt (s.get (VSY_BUCKET_PREGION tag)) (shard * s.tps (s.geo tag) + tile) rec
        (fun a => mirrors tag shard ∧ within (s.get (VSY_BUCKET_MREGION tag)) tile rec.length a) t ∧
      (mirrors tag shard → recordAt (s.get (VSY_BUCKET_MREGION tag)) tile rec (fun _ => False) t)
    let recordFoot (tag shard tile n : Nat) : Foot := {
      keys := fun k => ∃ r ∈ s.regions, k = (GLB_STEP_STATE_NEXT_DIRTY r.graph).key
      cells := fun b _ => b = .drwErr ∨ b = .shfErr ∨ b = .fireLen
      bytes := fun a => within (s.get (VSY_BUCKET_PREGION tag)) (shard * s.tps (s.geo tag) + tile) n a ∨
        (mirrors tag shard ∧ within (s.get (VSY_BUCKET_MREGION tag)) tile n a)
      parts := fun p => p = .allow }
    (∀ (tag : BitVec 12) (col : BitVec 32) (parity : Bool),
      (s.inst tag.toNat = none → exec (.bucketFinish tag col parity) s = .next s) ∧
      ∀ x, s.inst tag.toNat = some x →
      let g := s.geo tag.toNat
      let c := col.toNat
      let piece (a : Nat) : Nat × Nat := g.pieceAt (rankOf g.sizes (s.actorDigits g.group a)) c
      let value (a i : Nat) : Nat := (finishValue x.flush (s.get (VSY_BUCKET_ALL tag.toNat) = 1) (s.workElem g a i) (s.finishFactor tag.toNat)).1
      let ready (a : Nat) : Prop := g.op = opBucket ∧ s.takesPart (s.descGraph tag.toNat) = true ∧ c < g.cols ∧
        s.stagedCol g x a c = true ∧ (((s.stages g).take g.sizes.length).all fun st => s.stageDone g x a st c) = true ∧
        (a, c) ∉ x.finished
      let fin := s.get (VSY_BUCKET_MLS_FIN tag.toNat)
      ∃ t, exec (.bucketFinish tag col parity) s = .next t ∧
        (∀ a < (s.actors g.group).length, ready a →
          (∀ y, t.inst tag.toNat = some y → (a, c) ∈ y.finished ∧
            (parity = true → ∀ i ∈ expand [piece a], (a, i, 1) ∈ y.poisoned)) ∧
          (∀ i ∈ expand [piece a], s.workHolds t tag.toNat a i (value a i)) ∧
          (∀ i ∈ expand [piece a], (fp32.decode (value a i)).isNan = true →
            t.get (VSY_BKT_STAT_NAN tag.toNat) = 1 ∧ bitAt (t.get (GLB_STEP_FLAGS_SRC (s.descGraph tag.toNat))) 2 = true ∧
            t.get (VSY_FIRST_NAN_VALID (s.descGraph tag.toNat)) = 1)) ∧
        (g.op = opBucket → x.finDone = false → fin ≠ s.get (VSY_DESC_MLS_DONE tag.toNat) →
          (∀ a < (s.actors g.group).length, ∀ c' < g.cols, (a, c') ∈ x.finished ∨ (c' = c ∧ ready a)) →
          t.get (MLS_ENTRY_COUNT fin) = min (s.get (MLS_ENTRY_COUNT fin) + 1) (2 ^ 32 - 1)) ∧
        ((∀ a < (s.actors g.group).length, ¬ ready a) → t.mem = s.mem) ∧
        Frame (Foot.or (Foot.vusyn s tag.toNat (x.ins ++ x.outs) (s.inWork tag.toNat (expand [piece 0])))
          (Foot.of (fun k => inBytes 0x02250040 0x02250058 k ∨ inBytes 0x02250080 0x02250090 k ∨
            k ∈ [(VSY_BKT_STAT_NAN tag.toNat).key, (VSY_BKT_STAT_MISMATCH tag.toNat).key, (VSY_BKT_STAT_SAMPLES tag.toNat).key,
              (VSY_FIRST_NAN_INDEX (s.descGraph tag.toNat)).key, (VSY_FIRST_NAN_TAG (s.descGraph tag.toNat)).key,
              (VSY_FIRST_NAN_VALID (s.descGraph tag.toNat)).key]) [.nanFresh] [])) s t) ∧
    (∀ (v : Vusyn) (parity : Bool), ∀ q ∈ [(Instr.publish v parity, 3), (.gather v, 4)],
      (s.firstReady (0x120 + v.val) 0 s.vsyReady = none ∨
        ∃ a, s.firstReady (0x120 + v.val) 0 s.vsyReady = some a ∧ vwKind a.op ≠ q.2) → exec q.1 s = .next s) ∧
    (∀ (v : Vusyn) (parity : Bool) (a : Alt) (x : Inst), s.firstReady (0x120 + v.val) 0 s.vsyReady = some a →
      s.inst (vwTag a.op) = some x →
      let tag := vwTag a.op
      let g := s.geo tag
      let done (t : State) : Prop := t.inst tag = none ∧ t.get (VSY_DESC_STATE tag) = 2
      let foot : Foot := Foot.or (Foot.vusyn s tag a.streams fun _ => False) (Foot.of (stationKeys (0x120 + v.val)) [.runAlt] [])
      (∀ i rest, vwKind a.op = 3 → a.inputs = i :: rest →
        let played := vwPlayed a.op
        let j := if played then x.played else x.published
        let rank := rankOf g.sizes (s.actorDigits g.group (if played then 1 else 0))
        let tile := s.inputD i
        let bad : Bool := hPoison tile.head || parity
        (s.badPublication g tile j = true → s.get (STR_BAD_HEADER i) = 0 → exec (.publish v parity) s = .next (s.rejected i)) ∧
        (s.badPublication g tile j = false →
          ∃ (t : State) (cells : List Cell) (rec : Tile), exec (.publish v parity) s = .next t ∧ hFmt rec.head = 0x09 ∧ hPoison rec.head = bad ∧ hSeq rec.head = j % 2 ^ 32 ∧
            (∀ r k, r < hRows tile.head → k < hCols tile.head →
              elemCode rec.head rec.payload 16 r k = elemCode tile.head tile.payload 16 r k) ∧
            t.egress = s.egress ++ [⟨some (s.descGraph tag), false, cells⟩] ∧ cells.length = ceilDiv rec.recordLen 64 + 1 ∧
            (∀ c ∈ cells, c.mcast = true ∧ c.dest = BitVec.ofNat 24 (s.mcGroup (s.get (VSY_BUCKET_PUB_MC tag))) ∧ c.kind = 5#5) ∧
            (∀ m c, cells[m + 1]? = some c → c.payload = BitVec.ofNat 512 (bits rec.raw (512 * m) 512) ∧ c.poison = bad) ∧
            (∀ c, cells[0]? = some c → phType c.payload.toNat = 3 ∧ phTile c.payload.toNat = j % 2 ^ 32 ∧
              phShard c.payload.toNat = rank % 2 ^ 24 ∧ phBytes c.payload.toNat = rec.recordLen % 2 ^ 32) ∧
            Consumed s t i ∧ Advanced (0x120 + v.val) s t ∧
            (∀ y, t.inst tag = some y → (rank, j) ∈ y.records ∧
              (y.published, y.played) = if played then (x.published, x.played + 1) else (x.published + 1, x.played)) ∧
            (bad = true → ∀ n ∈ a.streams, t.get (STR_POISONED n) = 1) ∧
            (parity = true → s.get (VSY_DESC_VALID tag) = 1 → bitAt (t.get (GLB_STEP_FLAGS_SRC (s.descGraph tag))) 8 = true) ∧
            stored tag rank j rec.record t ∧
            Frame (Foot.or foot (Foot.or (recordFoot tag rank j rec.recordLen) (Foot.of (fun _ => False) [] [.sentCounts]))) s t)) ∧
      (vwKind a.op = 4 → ∃ t, exec (.gather v) s = .next t ∧ Advanced (0x120 + v.val) s t ∧
        (g.op = opBucket → x.records.length = groupN g.sizes * s.tps g → done t) ∧
        (x.records.length ≠ groupN g.sizes * s.tps g → t.inst tag = some { x with armed := true }) ∧ Frame foot s t)) ∧
    (∀ (cells : List Cell) (struck : List (Fin 512)), ∀ q ∈ [(Instr.sampleMessage cells struck, 2), (.publicationMessage cells struck, 3)],
      (takeOut s.vsyCells cells = none ∨ wholeMsg cells = none ∨
        (∃ m, wholeMsg cells = some m ∧ (m.grad = false ∨ phType m.head.toNat ≠ q.2)) → exec q.1 s = .next s) ∧
      ∀ (rest : List Cell) (m0 : PieceMsg), takeOut s.vsyCells cells = some rest → wholeMsg cells = some m0 → m0.grad = true →
      phType m0.head.toNat = q.2 →
      let m : PieceMsg := { m0 with poison := m0.poison ||| struckMask (cells.length - 1) struck }
      let tag := m.stream.toNat % 4096
      let h := m.head.toNat
      let g := s.geo tag
      let s0 : State := { s with vsyCells := rest, waitMsgs := [m] }
      let s1 : State := if m.poison ≠ 0 ∧ s.get (VSY_DESC_VALID tag) = 1 then (raiseSource (s.descGraph tag) 8).run s0 else s0
      let dropFoot (i : Nat) : Foot :=
        Foot.or (Foot.fields [VSY_CNT_COUNT i, VSY_CNT_OVF i]) (Foot.of flagKeys [] [.vsyCells, .takenCounts, .egress])
      (s.serves m.endpt.toNat tag = false →
        ∃ t, exec q.1 s = .next t ∧ t.vsyCells = rest ∧ t.waitMsgs = [] ∧ Released m s t ∧
          t.get (VSY_CNT_COUNT 2) = min (s.get (VSY_CNT_COUNT 2) + 1) (2 ^ 48 - 1) ∧ Frame (dropFoot 2) s t) ∧
      (s1.verdict m = .wait → exec q.1 s = .next s1) ∧
      (s1.verdict m = .stale →
        ∃ t, exec q.1 s = .next t ∧ t.waitMsgs = [] ∧ Released m s t ∧
          t.get (VSY_CNT_COUNT 1) = min (s.get (VSY_CNT_COUNT 1) + 1) (2 ^ 48 - 1) ∧ Frame (dropFoot 1) s t) ∧
      (∀ r x, s1.verdict m = .abort r → s.inst tag = some x →
        ∃ t, exec q.1 s = .next t ∧ InstAborted tag x.num (abortPayload (s.get (VSY_DESC_SIG tag)) (phSig h) x.num
            (s.get (VSY_GROUP_EPOCH g.group)) r s.chipId (phRank h)) (x.ins ++ x.outs) s t ∧ Released m s t ∧
          Frame (Foot.settled s tag (x.ins ++ x.outs) fun _ => False) s t) ∧
      (∀ k x, q.2 = 2 → s1.verdict m = .take k → s.inst tag = some x → k.sample = true →
        let l := s.keyElems g x (s.actorDigits g.group k.actor) k
        ∃ t, exec q.1 s = .next t ∧ t.waitMsgs = [] ∧ Released m s t ∧
          (∀ y, t.inst tag = some y → k ∈ y.got ∧ (l.Nodup → ∀ j < l.length,
            let w := bits m.data (256 * j) 256
            t.exactAt tag k.actor (l.getD j 0) = exactAdd (s.exactAt tag k.actor (l.getD j 0)) (signed 128 (bits w 0 128))
              (bits w 128 127) (bitAt w 255))) ∧
          Frame (Foot.settled s tag (x.ins ++ x.outs) fun _ => False) s t) ∧
      (∀ sh tl x, q.2 = 3 → s1.verdict m = .publish sh tl → s.inst tag = some x →
        ∃ t, exec q.1 s = .next t ∧ t.waitMsgs = [] ∧ Released m s t ∧ (∀ y, t.inst tag = some y → (sh, tl) ∈ y.records) ∧
          stored tag sh tl (leBytes (phBytes h) m.data) t ∧
          (x.records.length + 1 = groupN g.sizes * s.tps g → t.inst tag = none ∧ t.get (VSY_DESC_STATE tag) = 2) ∧
          Frame (Foot.or (Foot.settled s tag (x.ins ++ x.outs) fun _ => False) (recordFoot tag sh tl (phBytes h))) s t))

/-! Steps, commits and failures. -/

/-- STEP_HALT, RESUME, ROLLBACK, FORCE_FAIL, STEP_NUM_WRITE, REWIND and REWIND_DRAIN_END (R177, R181, R184, R185, R307, R308, R477, R484,
R485, R488, R506): a halted graph is HALTED until it resumes, which starts an attempt that waited; a rollback, a step number and a rewind
take effect under their conditions and are otherwise refused or ignored; the end of a drain returns the graph to its mark, where it has
one, and after a detour switch resolves the pass. -/
def Obligations.StepControlsActUnderTheirConditions : Prop :=
  ∀ (g : Graph) (s : State), s.running = true →
    let halted := s.get (GLB_STEP_STATE_HALTED g) = 1
    let idle := s.get (GLB_STEP_STATE_IDLE g) = 1
    (∃ t, exec (.stepHalt g) s = .next t ∧ t.get (GLB_STEP_STATE_HALTED g) = 1 ∧
      (t.get (GLB_STEP_STATE_IDLE g) = 1 ↔ (∀ v ∈ s.vecs, v.graph ≠ g.val) ∧ ∀ d ∈ s.desks, deskGraph d.alt.op ≠ g.val) ∧
      t.faultDue = s.faultDue ++ (if halted then [] else
        [⟨11, 0x1F0, s.chipId, g.val, haltHost + s.get (GLB_STEP_FLAGS_LAST_SRC g) <<< 4⟩]) ∧
      Frame (Foot.or (Foot.fields [GLB_STEP_STATE_HALTED g, GLB_STEP_STATE_IDLE g]) (Foot.of (fun _ => False) [] [.faultDue])) s t) ∧
    (¬ (halted ∧ s.rd .commitDue g = 1) → exec (.resume g) s = .next (s.set (GLB_STEP_STATE_HALTED g) 0)) ∧
    (halted → s.rd .commitDue g = 1 → s.get (MLS_STATUS_REACHED (s.get (GLB_STEP_GROUP_COMMIT_MLS g))) = 0 →
      exec (.resume g) s = .next ((s.set (GLB_STEP_STATE_HALTED g) 0).wr .commitDue g 0)) ∧
    (halted → s.rd .commitDue g = 1 → s.get (MLS_STATUS_REACHED (s.get (GLB_STEP_GROUP_COMMIT_MLS g))) = 1 →
      exec (.resume g) s = exec (.commitAttempt g) (s.set (GLB_STEP_STATE_HALTED g) 0)) ∧
    (let ok := halted ∧ idle ∧ s.get (GLB_STEP_STATE_LAST_OUTCOME g) = outPass ∧ s.get (GLB_STEP_STATE_NEXT_DIRTY g) = 0 ∧
        s.get (GLB_STEP_STATE_IN_COMMIT g) = 0;
      (ok → ∃ t, exec (.rollback g) s = .next t ∧ t.get (GLB_STEP_STATE_CUR_HALF g) = 1 - s.get (GLB_STEP_STATE_CUR_HALF g) ∧
        t.get (GLB_STEP_NUM_STEP g) = (s.get (GLB_STEP_NUM_STEP g) + 2 ^ 32 - 1) % 2 ^ 32 ∧
        t.get (GLB_STEP_STATE_LAST_OUTCOME g) = outRollback ∧
        Frame (Foot.fields [GLB_STEP_STATE_CUR_HALF g, GLB_STEP_NUM_STEP g, GLB_STEP_STATE_LAST_OUTCOME g]) s t) ∧
      (¬ ok → exec (.rollback g) s = .next (s.set (GLB_STEP_STATE_RB_REFUSED g) 1))) ∧
    (∃ t, exec (.forceFail g) s = .next t ∧ t.get (GLB_STEP_FLAGS_SRC g) = s.get (GLB_STEP_FLAGS_SRC g) ||| 2 ^ 9 ∧
      t.get (GLB_STEP_FLAGS_LOCAL g) = s.get (GLB_STEP_FLAGS_LOCAL g) ||| 4 ∧
      Frame (Foot.fields [GLB_STEP_FLAGS_SRC g, GLB_STEP_FLAGS_LOCAL g]) s t) ∧
    (∀ v : BitVec 32, ((halted ∧ idle) ∨ s.get (GLB_STEP_CFG_ENABLE g) = 0 →
        exec (.stepNumWrite g v) s = .next (s.set (GLB_STEP_NUM_STEP g) v.toNat)) ∧
      (¬ (halted ∧ idle) → s.get (GLB_STEP_CFG_ENABLE g) = 1 → exec (.stepNumWrite g v) s = .next s)) ∧
    (∀ outcome : Bool,
      let ok := halted ∧ idle ∧ s.get (GLB_STEP_CFG_ENABLE g) = 1 ∧ s.get CNT_RECOV_STATUS_BUSY = 0 ∧ outcome = false;
      (ok → exec (.rewind g outcome) s = .next ((s.wr .draining g 1).set CNT_RECOV_STATUS_BUSY 1)) ∧
      (¬ ok → exec (.rewind g outcome) s = .next (s.set CNT_RECOV_STATUS_REFUSED 1))) ∧
    (s.rd .draining g = 0 → exec (.rewindDrainEnd g) s = .next s) ∧
    (let mark := s.marks.find? fun m => m.graph = g.val;
      (∀ m, mark = some m → (∀ q ∈ m.streams, q.1 < 2 ^ 18) ∧ (∀ q ∈ m.mls, q.1 < 2 ^ 16) ∧ (∀ q ∈ m.descs, q.1 < 4096) ∧
        (∀ q ∈ m.steps, isStation q.1 = true) ∧ (m.streams.map (·.1)).Nodup) →
      let back (t : State) : Prop := t.rd .draining g = 0 ∧
        t.get CNT_RECOV_STATUS_REWINDS = (s.get CNT_RECOV_STATUS_REWINDS + 1) % 2 ^ 16 ∧
        t.get (GLB_STEP_STATE_NEXT_DIRTY g) = 0 ∧ t.get (GLB_STEP_FLAGS_SRC g) = 0 ∧ t.get (GLB_STEP_FLAGS_LOCAL g) = 0 ∧
        (∀ m, mark = some m → ∀ q ∈ m.streams,
          t.get (STR_NEXT_SEQ q.1) = q.2.1 % 2 ^ 32 ∧ t.get (STR_TILES_DONE q.1) = q.2.2.1 % 2 ^ 32 ∧
          t.stopped q.1 = false ∧ ∀ x ∈ t.slots, x.stream ≠ q.1) ∧
        (∀ x ∈ t.insts, x.tag ∉ s.graphDescs g) ∧ (∀ d ∈ t.desks, deskGraph d.alt.op ≠ g.val) ∧
        ∀ v ∈ t.vecs, v.graph ≠ g.val
      let stations := ((mark.map (·.steps)).getD []).map (·.1)
      let foot : Foot := {
        keys := fun k => stepKeys k ∨ mlsKeys k ∨ deskKeys k ∨ hostKeys k ∨ inBytes 0x02280000 0x022C0000 k ∨
          inBytes 0x02500208 0x02500210 k ∨ (∃ m q, mark = some m ∧ q ∈ m.streams ∧ ctxKeys q.1 k) ∨
          (∃ e, isStation e = true ∧ stationKeys e k) ∨ ∃ e ∈ stations, (Foot.leftOf e).keys k
        cells := fun b _ => b ∈ [.rxSeq, .begun, .consumedSince, .tilesSince, .stepTile, .vecOrd, .commitDue, .draining, .runAlt,
          .streamRow, .cplPhase, .cplSince, .resetAsked]
        bytes := fun _ => False
        parts := fun q => q ∈ [.vecs, .desks, .waitMsgs, .vsyCells, .insts, .exacts, .earlyAborts, .takenCounts, .egress, .slots,
          .inflight, .hostOut, .msix] }
      (s.rd .draining g = 1 → ∃ t, exec (.rewindDrainEnd g) s = .next t ∧ back t ∧ t.get CNT_RECOV_STATUS_DONE = 1 ∧ Frame foot s t) ∧
      (∀ p, s.rd .draining g = 2 → s.passOf g = some p →
        let gap := seqDiff p.cmax p.cmin
        let own := s.get (GLB_STEP_CSEQ_CSEQ g)
        let halts : Bool := bitAt p.bits 7 || decide (1 < gap)
        let behind : Bool := !halts && decide (gap = 1) && own = p.cmin
        ∃ t, exec (.rewindDrainEnd g) s = .next t ∧ t.rd .draining g = 0 ∧ t.passOf g = none ∧
          t.get (GLB_STEP_STATE_IN_COMMIT g) = 0 ∧ t.get (GLB_STEP_STATE_LAST_OUTCOME g) = (if halts then outHalt else outRerun) ∧
          (halts = true → t.get (GLB_STEP_STATE_HALTED g) = 1) ∧
          t.get (GLB_STEP_CSEQ_CSEQ g) = (if behind then (own + 1) % 2 ^ 32 else own) ∧
          (behind = false → t.stepNum g = s.stepNum g ∧ t.get (GLB_STEP_STATE_CUR_HALF g) = s.get (GLB_STEP_STATE_CUR_HALF g) ∧
            t.get (GLB_STEP_STATE_ATTEMPT g) = s.get (GLB_STEP_STATE_ATTEMPT g)) ∧
          (behind = true → s.rd .aOut g = outPass → t.stepNum g = (s.stepNum g + 1) % 2 ^ 32 ∧
            t.get (GLB_STEP_STATE_CUR_HALF g) = 1 - s.get (GLB_STEP_STATE_CUR_HALF g)) ∧
          ∀ a, t.byte a = s.byte a))

/-- COMMIT_ATTEMPT, COMMIT_CELL and COMMIT_WATCHDOG_FIRE (R92, R178–R181, R298–R301, R305, R506): a due attempt of an enabled graph starts
pass A with the attempt's flags and sends its cell; in a group of one chip it ends at once with the outcome of its classes; a cell joins
the pass it belongs to, waits, or is counted; the last cell of pass A fixes the outcome and begins pass B, the last of pass B applies it,
and the last of a DETOUR pass begins the rewind; the watchdog halts the graph. -/
def Obligations.CommitAttemptsRunPassesAndApplyOutcomes : Prop :=
  ∀ (g : Graph) (s : State), s.running = true →
    let due := s.rd .commitDue g = 1 ∧ s.takesPart g = true ∧ s.get (GLB_STEP_CFG_ENABLE g) = 1 ∧
      s.get (GLB_STEP_STATE_HALTED g) = 0 ∧ s.get (GLB_STEP_STATE_IN_COMMIT g) = 0
    let late : Bool := s.get (MLS_STATUS_CODE (s.get (GLB_STEP_GROUP_COMMIT_MLS g))) ≠ 0
    let loc := if late then s.get (GLB_STEP_FLAGS_LOCAL g) ||| 8 else s.get (GLB_STEP_FLAGS_LOCAL g)
    let src := if late then s.get (GLB_STEP_FLAGS_SRC g) ||| 2 ^ 10 else s.get (GLB_STEP_FLAGS_SRC g)
    let p : CommitPass := ⟨g.val, passA, 0, loc, 0, s.stepNum g, s.commitSig g, 0, 0⟩
    let cells (q : CommitPass) (u : State) : List OutMsg := ((u.commitCell q).map fun c => (⟨none, false, [c]⟩ : OutMsg)).toList
    (¬ due → exec (.commitAttempt g) s = .next s) ∧
    (due → s.commitRounds g ≠ 0 → s.roundCell p = none →
      ∃ t, exec (.commitAttempt g) s = .next t ∧ t.passOf g = some p ∧ t.get (GLB_STEP_STATE_IN_COMMIT g) = 1 ∧
        t.rd .commitDue g = 0 ∧ t.commitCells = s.commitCells ∧ t.get (GLB_STEP_FLAGS_SRC g) = src ∧ t.egress = s.egress ++ cells p s ∧
        Frame (Foot.commit g) s t) ∧
    (due → s.commitRounds g = 0 →
      ∃ t, exec (.commitAttempt g) s = .next t ∧ t.passOf g = none ∧ AttemptEnded g (s.outcomeOf g loc) loc src s t ∧
        t.get (GLB_STEP_CSEQ_CSEQ g) = (s.get (GLB_STEP_CSEQ_CSEQ g) + 1) % 2 ^ 32 ∧ Frame (Foot.commit g) s t) ∧
    (∀ c : Cell, 8 ≤ c.stream.toNat → ∃ t, exec (.commitCell c) s = .next t ∧
      t.get (VSY_CNT_COUNT 2) = min (s.get (VSY_CNT_COUNT 2) + 1) (2 ^ 48 - 1) ∧
      Frame (Foot.fields [VSY_CNT_COUNT 2, VSY_CNT_OVF 2]) s t) ∧
    (∀ c : Cell, c.stream.toNat = g.val →
      let h := c.payload.toNat
      let d := epochDiff (cpEpoch h) (s.get (VSY_GROUP_EPOCH (s.get (GLB_STEP_CFG_GROUP g))))
      let named := s.get (GLB_STEP_CFG_ENABLE g) = 1 ∧ 1 ≤ cpPass h ∧ cpPass h ≤ 3
      let takes := named ∧ s.takesPart g = true
      let counted (t : State) (i : Nat) : Prop := t.get (VSY_CNT_COUNT i) = min (s.get (VSY_CNT_COUNT i) + 1) (2 ^ 48 - 1) ∧
        Frame (Foot.fields [VSY_CNT_COUNT i, VSY_CNT_OVF i]) s t
      let with' : State := { s with commitCells := s.commitCells ++ [c] }
      (¬ named → ∃ t, exec (.commitCell c) s = .next t ∧ counted t 2) ∧
      (named → s.takesPart g = false → exec (.commitCell c) s = .next s) ∧
      (takes → d < 0 → ∃ t, exec (.commitCell c) s = .next t ∧ counted t 1) ∧
      (takes → 0 < d → 64 ≤ s.waitingCommits g → exec (.commitCell c) s = .next s) ∧
      (takes → 0 ≤ d → (0 < d → s.waitingCommits g < 64) →
        s.passOf g = none ∨ (∃ q, s.passOf g = some q ∧ q.round < s.commitRounds g ∧ with'.roundCell q = none) →
        exec (.commitCell c) s = .next with') ∧
      (∀ q, takes → 0 ≤ d → (0 < d → s.waitingCommits g < 64) → s.passOf g = some q → q.round < s.commitRounds g →
        s.roundCell q = none → with'.roundCell q = some c →
        let r := mergeCell q h
        let rest := with'.commitCells.erase c
        let went (u : State) : State := { u with commitCells := rest }
        (q.round + 1 < s.commitRounds g → (went s).roundCell r = none →
          ∃ t, exec (.commitCell c) s = .next t ∧ t.passOf g = some r ∧ t.commitCells = rest ∧ t.egress = s.egress ++ cells r s ∧
            Frame (Foot.of (fun _ => False) [] [.passes, .commitCells, .egress]) s t) ∧
        (q.round + 1 = s.commitRounds g → q.pass = passA →
          let differs : Bool := bitAt r.bits 4 || bitAt r.bits 5
          let cls := bits r.bits 0 4 ||| (if differs then 8 else 0)
          let b : CommitPass := { r with pass := passB, round := 0, bits := cls }
          (went s).roundCell b = none →
          ∃ t, exec (.commitCell c) s = .next t ∧ t.passOf g = some b ∧ t.rd .aDone g = 1 ∧ t.rd .aOut g = s.outcomeOf g cls ∧
            (differs = true → bitAt (t.get (GLB_STEP_FLAGS_SRC g)) 11 = true) ∧ t.commitCells = rest ∧
            t.egress = s.egress ++ cells b s ∧ Frame (Foot.commit g) s t) ∧
        (q.round + 1 = s.commitRounds g → q.pass = passB →
          ∃ t, exec (.commitCell c) s = .next t ∧ t.passOf g = none ∧
            AttemptEnded g (s.rd .aOut g) (bits r.bits 0 4) (s.get (GLB_STEP_FLAGS_SRC g)) s t ∧
            t.get (GLB_STEP_CSEQ_CSEQ g) = (s.get (GLB_STEP_CSEQ_CSEQ g) + 1) % 2 ^ 32 ∧ Frame (Foot.commit g) s t) ∧
        (q.round + 1 = s.commitRounds g → q.pass = passDetour → s.rd .draining g = 0 →
          ∃ t, exec (.commitCell c) s = .next t ∧ t.passOf g = some r ∧ t.rd .draining g = 2 ∧ t.get CNT_RECOV_STATUS_BUSY = 1 ∧
            Frame (Foot.commit g) s t))) ∧
    (s.passOf g = none → exec (.commitWatchdogFire g) s = .next s) ∧
    (∀ q, s.passOf g = some q →
      let fires := s.get VSY_COLL_CFG_COMMIT_WD ≠ 0 ∧ s.get GLB_MODE_ROLE = 1 ∧ s.held g = false ∧
        s.get PWR_STATE_STATUS_STATE ≠ 1 ∧ q.round < s.commitRounds g
      (¬ fires → exec (.commitWatchdogFire g) s = .next s) ∧
      (fires → ∃ t, exec (.commitWatchdogFire g) s = .next t ∧ t.passOf g = none ∧
        t.get (VSY_CNT_COUNT 3) = min (s.get (VSY_CNT_COUNT 3) + 1) (2 ^ 48 - 1) ∧
        AttemptEnded g outHalt (bits q.bits 0 4 ||| 8) (s.get (GLB_STEP_FLAGS_SRC g)) s t ∧
        ⟨11, 0x1F0, s.chipId, g.val, haltWatchdog + s.get (GLB_STEP_FLAGS_SRC g) <<< 4⟩ ∈ t.faultDue ∧ Frame (Foot.commit g) s t))

/-- FAIL_DECLARE, FAIL_HOLD_EXPIRY, FAIL_NOTICE and FABRIC_ROLE_WRITE (R240, R303–R310, R313, R477): in SERVICE under a plan the first
failure of a chip is fenced, or fills the table, which halts every graph; it is logged, counted, kept, reported and passed on to every
distinct peer; a graph that cannot cover it, or whose own position withdraws, halts, and one that can switches to its detour under the
next epoch; later ones, and any outside SERVICE, change nothing but the log. -/
def Obligations.FailuresFenceHaltOrSwitch : Prop :=
  ∀ (s : State), s.running = true →
    let note := s.notices.find? fun n => bits n 0 8 = 2
    let fence := (List.range 64).find? fun i => s.get (LNK_FENCE_VALID i) = 0
    let entry := (List.range 4).find? fun i => s.get (VSY_FAIL_LOG_VALID i) = 0
    let logKeys (k : Nat) : Prop := inBytes 0x02240010 0x02240030 k
    let logged (f source : Nat) (switched withdrew : Bool) (t : State) : Prop := ∀ i, entry = some i →
      t.get (VSY_FAIL_LOG_CHIP i) = f ∧ t.get (VSY_FAIL_LOG_SOURCE i) = source ∧ t.get (VSY_FAIL_LOG_VALID i) = 1 ∧
      (t.get (VSY_FAIL_LOG_SWITCHED i) = 1 ↔ switched = true) ∧ (t.get (VSY_FAIL_LOG_WITHDREW i) = 1 ↔ withdrew = true)
    (∀ r : BitVec 2, ∃ t, exec (.fabricRoleWrite r) s = .next t ∧ t.get GLB_MODE_ROLE = r.toNat ∧
      t.get GLB_BOOT_STATUS_STAGE = (if r = 1#2 ∧ 9 ≤ s.get GLB_BOOT_STATUS_STAGE then 11 else s.get GLB_BOOT_STATUS_STAGE) ∧
      Frame (Foot.fields [GLB_MODE_ROLE, GLB_BOOT_STATUS_STAGE]) s t) ∧
    (note = none → exec .failNotice s = .next s) ∧
    (∀ n, note = some n → s.get GLB_MODE_ROLE ≠ 1 →
      ∃ t, exec .failNotice s = .next t ∧ t.notices = s.notices.erase n ∧ logged (bits n 32 24) 1 false false t ∧
        Frame (Foot.of logKeys [] [.notices]) s t) ∧
    (∀ n, note = some n → s.get GLB_MODE_ROLE = 1 →
      s.planActive = false ∨ bits n 256 256 ≠ s.activeHash ∨ bits n 32 24 ∈ s.failed →
      exec .failNotice s = .next { s with notices := s.notices.erase n }) ∧
    (∀ chip : ChipId,
      let f := chip.toNat
      let serving := s.get GLB_MODE_ROLE = 1 ∧ s.planActive = true
      let down (x : Nat) : Prop := (∃ l : Link, s.rd .peerWm l ≠ 0 ∧ s.get (LNK_PEER_SERIAL_SERIAL l) = x) ∧
        ∀ l : Link, s.rd .peerWm l ≠ 0 → s.get (LNK_PEER_SERIAL_SERIAL l) = x → s.get (LNK_STATE_STATE l) ≠ 6
      let reports (cmd : Instr) (source : Nat) : Prop :=
        (cmd = .failDeclare chip ∧ source = 2 ∧ (s.serialOf f).isSome = true) ∨
        (cmd = .failHoldExpiry chip ∧ source = 0 ∧ ∃ x, s.serialOf f = some x ∧ down x) ∨
        (cmd = .failNotice ∧ source = 1 ∧ ∃ n, note = some n ∧ bits n 32 24 = f ∧ bits n 256 256 = s.activeHash)
      let recorded (source : Nat) (switched withdrew : Bool) (t : State) : Prop :=
        t.failed = s.failed ++ [f] ∧ t.get (VSY_CNT_COUNT 4) = min (s.get (VSY_CNT_COUNT 4) + 1) (2 ^ 48 - 1) ∧
        (∀ i, fence = some i → t.get (LNK_FENCE_CHIP i) = f ∧ t.get (LNK_FENCE_VALID i) = 1) ∧
        (fence = none → t.get LNK_FENCE_STATUS_FULL = 1 ∧ ∀ g < 8, t.get (GLB_STEP_STATE_HALTED g) = 1) ∧
        logged f source switched withdrew t ∧
        ⟨8, 0x1F0, f, 0, source + (if switched then 4 else 0) + (if withdrew then 8 else 0) + (if fence = none then 16 else 0)⟩ ∈
          t.faultDue ∧
        (∀ l : Link, s.get (LNK_STATE_STATE l) = 6 → s.get (LNK_PEER_INFO_VALID l) = 1 →
          (∀ k : Link, k < l → s.get (LNK_STATE_STATE k) = 6 → s.get (LNK_PEER_INFO_VALID k) = 1 →
            s.get (LNK_PEER_SERIAL_SERIAL k) ≠ s.get (LNK_PEER_SERIAL_SERIAL l)) →
          ∃ q ∈ t.txq, q.link = l.val ∧ q.cell.kind = 9#5 ∧ q.cell.dest = BitVec.ofNat 24 (s.get (LNK_PEER_INFO_CLAIM l)) ∧
            q.cell.endpt = 0x1F0#9 ∧ q.cell.hops = 62#6 ∧ q.cell.payload = BitVec.ofNat 512 (s.failNotice f))
      let foot : Foot := Foot.of (fun k => logKeys k ∨ stepKeys k ∨ inBytes 0x02050C00 0x02050D08 k ∨ k = (VSY_CNT_COUNT 4).key ∨
        k = (VSY_CNT_OVF 4).key ∨ ∃ c, k = (VSY_GROUP_NO_COVER c).key) [.gone] [.failed, .faultDue, .txq, .passes, .notices]
      (¬ serving ∨ s.serialOf f = none ∨ f ∈ s.failed →
        exec (.failDeclare chip) s = .next s ∧ exec (.failHoldExpiry chip) s = .next s) ∧
      (∀ x, s.serialOf f = some x → ¬ down x → exec (.failHoldExpiry chip) s = .next s) ∧
      (∀ cmd source, serving → f ∉ s.failed → reports cmd source → (∀ g h, g < 8 → s.failEffect g f ≠ .switch h) →
        let withdrew : Bool := (List.range 8).any fun g => (s.failEffect g f).withdraws
        ∃ t, exec cmd s = .next t ∧ recorded source false withdrew t ∧
          (∀ g < 8, (s.failEffect g f).withdraws = true → t.get (GLB_STEP_STATE_HALTED g) = 1 ∧ t.takesPart g = false ∧
            t.passOf g = none ∧ t.get (GLB_STEP_STATE_IN_COMMIT g) = 0) ∧
          (∀ g l own, g < 8 → s.failEffect g f = .noCover l own →
            t.get (GLB_STEP_STATE_HALTED g) = 1 ∧ ∀ c ∈ l, t.get (VSY_GROUP_NO_COVER c) = 1) ∧
          Frame foot s t) ∧
      (∀ cmd source g0 hits, serving → f ∉ s.failed → reports cmd source → s.waitMsgs = [] → s.vsyCells = [] → s.commitCells = [] →
        g0 < 8 → s.failEffect g0 f = .switch hits → (∀ g < 8, g ≠ g0 → s.failEffect g f = .none) → (hits.map (·.1)).Nodup →
        ∃ t q, exec cmd s = .next t ∧ recorded source true false t ∧ t.passOf g0 = some q ∧ q.pass = passDetour ∧
          q.cmin = s.get (GLB_STEP_CSEQ_CSEQ g0) ∧ q.cmax = q.cmin ∧ t.get (GLB_STEP_STATE_IN_COMMIT g0) = 1 ∧
          (∀ x ∈ t.insts, x.tag ∉ s.graphDescs g0) ∧
          (∀ h ∈ hits, t.get (VSY_GROUP_DETOURED h.1) = 1 ∧ t.get (VSY_GROUP_WITHDRAWN h.1) = h.2 % 2 ^ 16 ∧
            t.get (VSY_GROUP_EPOCH h.1) = (s.get (VSY_GROUP_EPOCH h.1) + 1) % 2 ^ 16 ∧
            (∀ e, (s.detours.find? fun d => d.group = h.1 && d.position = h.2) = some e →
              t.rd .norm h.1 = e.norm ∧ (t.rd .takeover h.1 = 1 ↔ e.takeover = true)) ∧
            ∀ d < 4096, s.get (VSY_DESC_VALID d) = 1 → s.get (VSY_DESC_GROUP d) = h.1 → t.get (VSY_DESC_SIG d) = t.descSig d) ∧
          ∀ a, t.byte a = s.byte a))

/-! Plans. -/

/-- PLAN_CTRL_LOAD, ABANDON, TOLLGATE_CHECK, QUIESCENT_POINT and ACTIVATION_CYCLE (R351–R363, R407, R414): a load goes from IDLE through
CHECKING, ARMED and ACTIVATING; a refusal or an abandonment returns to IDLE and leaves the active plan as it was, with the fault recorded;
an image that is not the one admitted is refused; an activation puts the new plan in force, extends M3, and begins everything anew. -/
def Obligations.PlansLoadCheckAndActivate : Prop :=
  ∀ s : State, s.running = true →
    let st := s.get GLB_PLAN_STATUS_LOAD_STATE
    let m := s.image
    let ended (t : State) (result : Nat) : Prop := t.get GLB_PLAN_STATUS_LOAD_STATE = loadIdle ∧ t.admitted = none ∧
      t.get GLB_PLAN_STATUS_RESULT = result ∧ t.get GLB_PLAN_STATUS_DONE = 1
    let kept (t : State) : Prop := t.progs = s.progs ∧ t.regions = s.regions ∧ t.slots = s.slots ∧ t.mem = s.mem ∧
      t.get GLB_PLAN_STATUS_ACTIVE = s.get GLB_PLAN_STATUS_ACTIVE ∧ t.get GLB_PLAN_STATUS_ACT_SEQ = s.get GLB_PLAN_STATUS_ACT_SEQ
    let endFoot : Foot := Foot.or Foot.hostDone (Foot.of (fun k => inBytes 0x40 0x200 k ∨ ∃ ch, ch < 16 ∧ errKeys (64 + ch) k)
      [.shfErr] [.admitted, .faultDue])
    let refused (t : State) (r : Refuse) : Prop := ended t loadRefused ∧ kept t ∧
      t.get GLB_PLAN_FAULT_CODE = r.code % 2 ^ GLB_PLAN_FAULT_CODE.width ∧
      t.get GLB_PLAN_FAULT_SECTION = r.sect % 2 ^ GLB_PLAN_FAULT_SECTION.width ∧
      t.get GLB_PLAN_FAULT_ITEM = r.item % 2 ^ GLB_PLAN_FAULT_ITEM.width ∧ Frame endFoot s t
    (st = loadIdle → ∃ t, exec .planCtrlLoad s = .next t ∧ t.get GLB_PLAN_STATUS_LOAD_STATE = loadChecking ∧
      t.get GLB_BOOT_STATUS_STAGE = (if s.get GLB_BOOT_STATUS_STAGE = 9 then 10 else s.get GLB_BOOT_STATUS_STAGE) ∧
      Frame (Foot.fields [GLB_PLAN_STATUS_LOAD_STATE, GLB_BOOT_STATUS_STAGE]) s t) ∧
    (st ≠ loadIdle → exec .planCtrlLoad s = .next (s.set GLB_PLAN_STATUS_BUSY_REJECT 1)) ∧
    (st = loadChecking ∨ st = loadArmed →
      (∃ t, exec (.abandon false) s = .next t ∧ ended t loadAbandoned ∧ kept t ∧ Frame endFoot s t) ∧
      (∃ t, exec (.abandon true) s = .next t ∧ t.get GLB_PLAN_STATUS_LOAD_STATE = loadChecking ∧ kept t ∧
        Frame (Foot.or endFoot (Foot.fields [GLB_BOOT_STATUS_STAGE])) s t)) ∧
    (st ≠ loadChecking → st ≠ loadArmed → exec (.abandon false) s = .next s) ∧
    (st = loadIdle → exec (.abandon true) s = exec .planCtrlLoad s) ∧
    (st = loadActivating → exec (.abandon true) s = .next (s.set GLB_PLAN_STATUS_BUSY_REJECT 1)) ∧
    (st ≠ loadChecking → exec .tollgateCheck s = .next s) ∧
    (∀ r, st = loadChecking → tollgate s m = some r → ∃ t, exec .tollgateCheck s = .next t ∧ refused t r) ∧
    (st = loadChecking → tollgate s m = none → ∃ t, exec .tollgateCheck s = .next t ∧
      t.get GLB_PLAN_STATUS_LOAD_STATE = loadArmed ∧ kept t ∧ t.admitted = some m.raw ∧
      ∀ e, isStation e = true →
        t.get (STN_CTRL_ENABLE e) = if s.get GLB_PLAN_CTRL_AUTO_QUIESCE = 1 then 0 else s.get (STN_CTRL_ENABLE e)) ∧
    (exec .quiescentPoint s = .next (if st = loadArmed ∧ s.quiescent = true then s.set GLB_PLAN_STATUS_LOAD_STATE loadActivating else s)) ∧
    (st ≠ loadActivating → exec .activationCycle s = .next s) ∧
    (∀ r, st = loadActivating → recheck s m = some r → ∃ t, exec .activationCycle s = .next t ∧ refused t r) ∧
    (∀ raw, st = loadActivating → s.admitted = some raw → checkIdentity s ⟨m.addr, raw⟩ (Image.plan ⟨m.addr, raw⟩) = none →
      Image.planHash ⟨m.addr, raw⟩ ≠ m.planHash →
      ∃ t, exec .activationCycle s = .next t ∧ ended t loadRefused ∧ kept t ∧ t.get GLB_PLAN_FAULT_CODE = cImageChanged) ∧
    (st = loadActivating → recheck s m = none →
      ∃ t, exec .activationCycle s = .next t ∧ ended t loadActivated ∧ t.get GLB_PLAN_STATUS_ACTIVE = 1 ∧
        t.get GLB_PLAN_STATUS_ACT_SEQ = (s.get GLB_PLAN_STATUS_ACT_SEQ + 1) % 2 ^ GLB_PLAN_STATUS_ACT_SEQ.width ∧
        (∀ k < 8, t.get (GLB_PLAN_HASH_HASH k) = bits m.planHash (32 * k) 32) ∧
        t.progs = m.plan.recs.map (fun r => ⟨r.endpt, r.part, r.steps⟩) ∧ t.regions = m.plan.regions ∧ t.seed = m.plan.seed ∧
        t.coords = m.plan.coords ∧ t.detours = m.plan.detours ∧ t.slots = [] ∧ t.insts = [] ∧ t.waitMsgs = [] ∧ t.vsyCells = [] ∧
        t.passes = [] ∧ t.commitCells = [] ∧ t.failed = [] ∧ t.vecs = [] ∧ t.desks = [] ∧ t.period = 0 ∧ t.mem = s.mem ∧
        (∀ g : Graph, t.stepNum g = m.plan.stepWord g 0 % 2 ^ 32 ∧ t.get (GLB_STEP_STATE_CUR_HALF g) = 0 ∧
          t.get (GLB_STEP_STATE_ATTEMPT g) = 0 ∧ t.get (GLB_STEP_CSEQ_CSEQ g) = 0 ∧ t.takesPart g = true))

/-! The host. -/

/-- COMMAND_ACCEPT and the commands of the rings: NOP, REG_WR, REG_RD, MLS_INC, MLS_WAIT, COPY_H2D, COPY_D2H, PLAN_LOAD, BUDGET, SNAPSHOT
and FENCE (R190, R378–R383): an accepted entry is in flight, or completes at once where it is refused; each command that may start has its
effect and completes, or waits for what it waits for, and one that may not start does nothing; a copy moves its bytes, its errors are
counted, and the drawer firings that it stalls are charged. -/
def Obligations.HostCommandsRunAndComplete : Prop :=
  (∀ (r : Ring) (entry : Option (BitVec 512)) (s : State), s.running = true →
    (s.ringReads r = false → exec (.commandAccept r entry) s = .next s) ∧
    (s.ringReads r = true → entry = none → ∃ t, exec (.commandAccept r entry) s = .next t ∧
      t.get (HST_CMD_STATUS_FETCH_ERR r) = 1 ∧ t.get (HST_CMD_CTRL_RUN r) = 0 ∧ t.inflight = s.inflight ∧
      (s.rd .resetAsked r ≠ 1 → t.get (HST_CMD_PTR_HEAD r) = s.get (HST_CMD_PTR_HEAD r)) ∧ Frame Foot.hostDone s t) ∧
    (∀ e, s.ringReads r = true → entry = some e →
      let c := cmdOf r.val e.toNat
      (c.hseq ≠ s.get (HST_CMD_SEQ_NEXT_SEQ r) → ∃ t, exec (.commandAccept r entry) s = .next t ∧
        t.get (HST_CMD_STATUS_SEQ_ERR r) = 1 ∧ t.get (HST_CMD_CTRL_RUN r) = 0 ∧ t.inflight = s.inflight ∧
        (s.rd .resetAsked r ≠ 1 → t.get (HST_CMD_PTR_HEAD r) = s.get (HST_CMD_PTR_HEAD r)) ∧ Frame Foot.hostDone s t) ∧
      (c.hseq = s.get (HST_CMD_SEQ_NEXT_SEQ r) → ∃ t, exec (.commandAccept r entry) s = .next t ∧
        t.get (HST_CMD_PTR_HEAD r) = (s.get (HST_CMD_PTR_HEAD r) + 1) % s.cmdSize r % 2 ^ 16 ∧
        t.get (HST_CMD_SEQ_ACCEPTED_SEQ r) = c.hseq ∧ t.get (HST_CMD_SEQ_NEXT_SEQ r) = (c.hseq + 1) % 2 ^ 32 ∧
        (c.refused = none → t.inflight = s.inflight ++ [c]) ∧ (∀ st, c.refused = some st → Completed c st 0 t) ∧
        Frame Foot.hostDone s t))) ∧
  (∀ (r : Ring) (late : Bool) (s : State), s.running = true →
    ∀ q ∈ [(Instr.nop r, opNop), (.regWr r, opRegWr), (.regRd r, opRegRd), (.mlsInc r, opMlsInc), (.mlsWait r, opMlsWait),
      (.planLoad r, opPlanLoad), (.budget r late, opBudget), (.snapshot r, opSnapshot), (.fence r, opFence)],
      (∀ c, ¬ Starts r q.2 c s) → exec q.1 s = .next s) ∧
  (∀ (r : Ring) (c : HostCmd) (s : State),
    let started : State := { s with inflight := s.inflight.map fun x =>
      if x.ring = c.ring && x.hseq = c.hseq then { x with started := true } else x }
    (Starts r opNop c s → ∃ t, exec (.nop r) s = .next t ∧ Completed c stOk 0 t ∧ Frame Foot.hostDone s t) ∧
    (Starts r opRegWr c s → ∃ t, exec (.regWr r) s = .next t ∧ Completed c stOk 0 t ∧
      Frame Foot.hostDone ((regWrite (c.arg 16 4) (c.arg 20 1) (c.arg 24 8)).run s) t) ∧
    (Starts r opRegRd c s → ∃ t, exec (.regRd r) s = .next t ∧ Completed c stOk (s.readValue (c.arg 16 4) (c.arg 20 1)) t ∧
      Frame Foot.hostDone ((readEffects (c.arg 16 4) (c.arg 20 1) 0).run s) t) ∧
    (Starts r opMlsInc c s → ∃ t, exec (.mlsInc r) s = .next t ∧ Completed c stOk 0 t ∧
      t.get (MLS_ENTRY_COUNT (c.arg 16 2)) = min (s.get (MLS_ENTRY_COUNT (c.arg 16 2)) + c.arg 20 4) 0xFFFFFFFF ∧
      Frame (Foot.milestone []) s t) ∧
    (Starts r opMlsWait c s →
      let code := s.get (MLS_STATUS_CODE (c.arg 16 2))
      (s.reached (c.arg 16 2) = true → ∃ t, exec (.mlsWait r) s = .next t ∧
        Completed c (if code = 0 then stOk else 7) (code + s.get (MLS_ENTRY_COUNT (c.arg 16 2)) <<< 32) t ∧ Frame Foot.hostDone s t) ∧
      (s.reached (c.arg 16 2) = false → exec (.mlsWait r) s = .next started)) ∧
    (Starts r opPlanLoad c s →
      (s.get GLB_PLAN_STATUS_LOAD_STATE = loadIdle → ∃ t, exec (.planLoad r) s = .next t ∧
        t.get GLB_PLAN_STATUS_LOAD_STATE = loadChecking ∧ t.get GLB_PLAN_ADDR_ADDR = c.arg 16 8 / 64 % 2 ^ 42 ∧
        t.inflight = started.inflight ∧ t.get GLB_BOOT_STATUS_STAGE =
          (if s.get GLB_BOOT_STATUS_STAGE = 9 then 10 else s.get GLB_BOOT_STATUS_STAGE) ∧
        Frame (Foot.or (Foot.fields [GLB_PLAN_ADDR_ADDR, GLB_PLAN_STATUS_LOAD_STATE, GLB_BOOT_STATUS_STAGE])
          (Foot.of (fun _ => False) [] [.inflight])) s t) ∧
      (s.get GLB_PLAN_STATUS_LOAD_STATE ≠ loadIdle → ∃ t, exec (.planLoad r) s = .next t ∧ Completed c stRejected 0 t ∧
        t.get GLB_PLAN_STATUS_BUSY_REJECT = 1 ∧
        Frame (Foot.or Foot.hostDone (Foot.fields [GLB_PLAN_STATUS_BUSY_REJECT])) s t)) ∧
    (Starts r opBudget c s → ∀ late : Bool,
      (s.get GLB_PLAN_STATUS_LOAD_STATE = loadActivating → ∃ t, exec (.budget r late) s = .next t ∧ Completed c stRejected 0 t ∧
        Frame Foot.hostDone s t) ∧
      (s.get GLB_PLAN_STATUS_LOAD_STATE ≠ loadActivating → ∃ t, exec (.budget r late) s = .next t ∧
        t.get GLB_BUDGET_SET_SEL = c.arg 16 1 % 4 ∧ t.selLate = late ∧
        t.get GLB_BUDGET_SET_PENDING = (if c.arg 16 1 % 4 = s.get GLB_BUDGET_SET_CUR then 0 else 1) ∧
        (c.arg 16 1 % 4 ≠ s.get GLB_BUDGET_SET_CUR → (∀ x ∈ s.inflight, x.opcode = opBudget → x.started = false) →
          t.inflight = started.inflight) ∧
        (c.arg 16 1 % 4 = s.get GLB_BUDGET_SET_CUR → Completed c stOk (s.get GLB_BUDGET_SET_CHANGE_SEQ) t) ∧
        Frame (Foot.or Foot.hostDone (Foot.or (Foot.fields [GLB_BUDGET_SET_SEL, GLB_BUDGET_SET_PENDING])
          (Foot.of (fun _ => False) [] [.selLate]))) s t)) ∧
    (Starts r opSnapshot c s → ∃ t, exec (.snapshot r) s = .next t ∧ t.get CNT_SNAP_STATUS_PENDING = 1 ∧ t.inflight = started.inflight ∧
      (s.get CNT_SNAP_STATUS_PENDING = 0 → s.regs.rising = true → ∀ p ∈ s.regs, shadowed (p.1 / 8) = true →
        t.rd .shadow p.1 = p.2) ∧
      Frame (Foot.of (fun k => k = CNT_SNAP_STATUS_PENDING.key) [.shadow] [.inflight]) s t) ∧
    (Starts r opFence c s →
      ((s.ringCmds r).head? = some c → ∃ t, exec (.fence r) s = .next t ∧ Completed c stOk 0 t ∧ Frame Foot.hostDone s t) ∧
      ((s.ringCmds r).head? ≠ some c → exec (.fence r) s = .next started)) ∧
    (∀ (q : BitVec 32) (data : List Byte) (err : Bool) (stalls : List (Cluster × Graph)), s.running = true →
      (s.copyCmd r opCopyH2D q.toNat = none → exec (.copyH2D r q data err stalls) s = .next ((drawerStalls stalls).run s)) ∧
      (s.copyCmd r opCopyH2D q.toNat = some c →
      let k := min data.length (c.arg 32 4 - c.moved)
      ∃ t, exec (.copyH2D r q data err stalls) s = .next t ∧
        (∀ a, t.byte a = if c.arg 24 8 + c.moved ≤ a ∧ a < c.arg 24 8 + c.moved + k ∧ s.mapped a = true then
          data.getD (a - (c.arg 24 8 + c.moved)) 0#8 else s.byte a) ∧
        (err = true → Completed c stDmaError (c.moved + k) t) ∧
        (err = false → c.moved + k = c.arg 32 4 → Completed c stOk (c.moved + k) t) ∧
        (err = false → c.moved + k ≠ c.arg 32 4 → { c with started := true, moved := c.moved + k } ∈ t.inflight) ∧
        (∀ x ∈ stalls, stalls.Nodup → t.allowance (allowKey (8 * x.1.val + 6) 0 x.2.val) =
          s.allowance (allowKey (8 * x.1.val + 6) 0 x.2.val) - (drawerCycle : Int)) ∧
        Frame (Foot.or Foot.hostDone {
          keys := fun _ => False
          cells := fun b _ => b = .drwErr ∨ b = .shfErr ∨ b = .fireLen
          bytes := fun a => c.arg 24 8 + c.moved ≤ a ∧ a < c.arg 24 8 + c.moved + k
          parts := fun p => p = .allow }) s t)) ∧
    (∀ (q n : BitVec 32) (err : Bool) (stalls : List (Cluster × Graph)), s.running = true →
      (s.copyCmd r opCopyD2H q.toNat = none → exec (.copyD2H r q n err stalls) s = .next ((drawerStalls stalls).run s)) ∧
      (s.copyCmd r opCopyD2H q.toNat = some c →
      let k := min n.toNat (c.arg 32 4 - c.moved)
      ∃ t, exec (.copyD2H r q n err stalls) s = .next t ∧ (∀ a, t.byte a = s.byte a) ∧
        (0 < k → (c.arg 16 8 + c.moved, s.bytesAt (c.arg 24 8 + c.moved) k) ∈ t.hostOut) ∧
        (err = true → Completed c stDmaError (c.moved + k) t) ∧
        (err = false → c.moved + k = c.arg 32 4 → Completed c stOk (c.moved + k) t) ∧
        (err = false → c.moved + k ≠ c.arg 32 4 → { c with started := true, moved := c.moved + k } ∈ t.inflight) ∧
        Frame (Foot.or Foot.hostDone (Foot.of (fun x =>
            (∃ u ∈ (s.marksIn (c.arg 24 8 + c.moved) k).1, inBytes (0x0100600C + u / 2 ^ 21 * 0x10000) (0x01006028 + u / 2 ^ 21 * 0x10000) x) ∨
            ∃ u ∈ (s.marksIn (c.arg 24 8 + c.moved) k).2, inBytes (0x0210000C + u / 2 ^ 32 * 0x1000) (0x02100028 + u / 2 ^ 32 * 0x1000) x)
          [.drwErr, .shfErr, .fireLen] [.allow, .faultDue])) s t)))

/-- Ring control (R386, R394): CMD_RING_RUN, CMD_RING_RESET, ABORT_WAITS, CPL_RING_CONFIG_WRITE and COAL_TIMER_EXPIRY. Tile queues
(R388–R391, R449–R451): PUT writes the frame of its tile into the slot at DEV_IDX, consumes the tile and advances; GET takes a good frame
as a tile, counts a repeated one, and a bad one sets FAULT; a firing that only begins makes the queue's check unit busy, and one that
ends makes it free. Resets (R373, R374, R377, R393, R395, R414, R415): FUNCTION_LEVEL_RESET empties the rings, resets the function and
leaves the plan; PCIE_LINK_TRAINING sets the link registers once the port trains, and carries what host software writes to configuration
space (log entry 137: the model's row for it). -/
def Obligations.HostRingsQueuesAndResets : Prop :=
  ∀ (s : State), s.running = true →
    (∀ (r : Ring) (run : Bool), ∃ t, exec (.cmdRingRun r run) s = .next t ∧ t.get (HST_CMD_CTRL_RUN r) = b2n run ∧
      t.get (HST_CMD_STATUS_STOPPED r) = (if run = false ∧ s.ringCmds r = [] then 1 else 0) ∧ t.inflight = s.inflight ∧
      Frame Foot.hostDone s t) ∧
    (∀ r : Ring, (s.get (HST_CMD_STATUS_STOPPED r) = 1 → ∃ t, exec (.cmdRingReset r) s = .next t ∧
        t.get (HST_CMD_PTR_HEAD r) = 0 ∧ t.get (HST_CMD_PTR_TAIL r) = 0 ∧ Frame Foot.hostDone s t) ∧
      (s.get (HST_CMD_STATUS_STOPPED r) = 0 → exec (.cmdRingReset r) s = .next s)) ∧
    (∀ r : Ring, ∃ t, exec (.abortWaits r) s = .next t ∧ Frame Foot.hostDone s t ∧
      (∀ x ∈ t.inflight, ¬ (x.ring = r ∧ x.opcode = opMlsWait)) ∧
      ∀ x ∈ s.inflight, x.ring = r → x.opcode = opMlsWait → ∃ a dseq phase, (a, cplEntry dseq x stAborted phase 0) ∈ t.hostOut) ∧
    (∀ (n : Ring) (base : BitVec 58) (seq : BitVec 32), s.cplIdle n = true →
      ∃ t, exec (.cplRingConfigWrite n (some base) none (some seq)) s = .next t ∧ t.get (HST_CPL_BASE_ADDR n) = base.toNat ∧
        t.get (HST_CPL_SEQ_NEXT_SEQ n) = seq.toNat ∧ t.get (HST_CPL_PTR_HEAD n) = 0 ∧ t.get (HST_CPL_PTR_TAIL n) = 0 ∧
        Frame Foot.hostDone s t) ∧
    (∀ (n : Ring) (size : BitVec 5), s.cplIdle n = true →
      ∃ t, exec (.cplRingConfigWrite n none (some size) none) s = .next t ∧
        t.get (HST_CPL_CFG_SIZE_LOG2 n) = (if 4 ≤ size.toNat ∧ size.toNat ≤ 16 then size.toNat else s.get (HST_CPL_CFG_SIZE_LOG2 n)) ∧
        Frame Foot.hostDone s t) ∧
    (∀ (n : Ring) (base : Option (BitVec 58)) (size : Option (BitVec 5)) (seq : Option (BitVec 32)), s.cplIdle n = false →
      exec (.cplRingConfigWrite n base size seq) s = .next s) ∧
    (∀ n : Ring,
      let due := s.get (HST_CPL_CFG_IRQ_EN n) = 1 ∧ s.get (HST_CPL_CFG_COAL_US n) ≠ 0 ∧ 0 < s.rd .cplSince n
      let vec := s.get (HST_CPL_CFG_VEC n)
      (¬ due → exec (.coalTimerExpiry n) s = .next s) ∧
      (due → ∃ t, exec (.coalTimerExpiry n) s = .next t ∧ Frame Foot.hostDone s t ∧ t.rd .cplSince n = 0 ∧
        (s.masked vec = false → t.msix = s.msix ++ [vec]) ∧
        (s.masked vec = true → t.get (MSIX_PENDING vec) = 1 ∧ t.msix = s.msix))) ∧
    (let fire (kind : Nat) (a : Alt) : Prop := s.firstReady 0x170 0 s.hostReady = some a ∧ hwKind a.op = kind
    let unbusy (t : State) : Prop := ∀ n < 16, t.get (CHK_STATUS_QBUSY n) = 0
    let cleared (u t : State) : Prop := unbusy t ∧ Frame (Foot.of (fun k => ∃ n < 16, k = (CHK_STATUS_QBUSY n).key) [] []) u t
    let foot (a : Alt) (q : Nat) : Foot := Foot.or (Foot.firing 0x170 a.streams)
      (Foot.of (fun k => inBytes (0x00102000 + 0x40 * q) (0x00102040 + 0x40 * q) k ∨ ∃ n < 16, k = (CHK_STATUS_QBUSY n).key) [] [.faultDue])
    (∀ (frame : Option (List Byte × Bool)), ∀ x ∈ [(Instr.put, 1), (.get frame, 2)], (∀ a, ¬ fire x.2 a) →
      exec (x.1 true) s = .next s ∧ ∃ t, exec (x.1 false) s = .next t ∧ cleared s t) ∧
    (∀ (frame : Option (List Byte × Bool)) (a : Alt), ∀ x ∈ [(Instr.put, 1), (.get frame, 2)], fire x.2 a →
      exec (x.1 true) s = .next (if s.get (HST_TQ_CFG_CHK_EN (hwQueue a.op)) = 1
        then s.set (CHK_STATUS_QBUSY (s.get (HST_TQ_CFG_CHK (hwQueue a.op)))) 1 else s)) ∧
    (∀ (a : Alt) (i : Nat), fire 1 a → a.inputs = [i] → a.outputs = [] →
      let q := hwQueue a.op
      let x := s.inputD i
      let chk := if s.get (HST_TQ_CFG_CHK_EN q) = 1 then s.frameCheck (s.get (HST_TQ_CFG_CHK q)) x.record else 0
      let next := (s.get (HST_TQ_PTR_DEV_IDX q) + 1) % s.tqSize q
      (headerValid x.head = false ∨ s.tqSlot q < 16 + x.recordLen → s.get (STR_BAD_HEADER i) = 0 →
        ∃ t, exec (.put false) s = .next t ∧ cleared (s.rejected i) t) ∧
      (headerValid x.head = true → 16 + x.recordLen ≤ s.tqSlot q → ∃ t, exec (.put false) s = .next t ∧ Fired 0x170 a [] s t ∧
        t.get (HST_TQ_PTR_DEV_IDX q) = next % 2 ^ 16 ∧
        t.get (HST_TQ_ALIVE_ALIVE q) = (s.get (HST_TQ_ALIVE_ALIVE q) + 1) % 2 ^ 32 ∧ (s.tqAddr q + 16, x.record) ∈ t.hostOut ∧
        (s.tqAddr q, leBytes 4 (s.get (HST_TQ_ALIVE_ALIVE q)) ++ leBytes 4 x.recordLen ++ leBytes 8 chk) ∈ t.hostOut ∧
        (s.get (HST_TQ_SHADOW_ADDR q) ≠ 0 → (4 * s.get (HST_TQ_SHADOW_ADDR q), leBytes 4 next) ∈ t.hostOut) ∧
        t.allowance (allowKey 0x170 0 (s.altGraph a)) = s.allowance (allowKey 0x170 0 (s.altGraph a)) - (tileUnits x : Int) ∧
        unbusy t ∧ Frame (foot a q) s t)) ∧
    (∀ (a : Alt) (o : Nat), fire 2 a → a.outputs = [o] → a.inputs = [] →
      let q := hwQueue a.op
      let judged : Bool := s.get (HST_TQ_CFG_CHK_EN q) = 1
      let next := (s.get (HST_TQ_PTR_DEV_IDX q) + 1) % s.tqSize q % 2 ^ 16
      let faulted (t : State) (cause : Nat) : Prop := t.get (HST_TQ_STATUS_FAULT q) = 1 ∧ t.get (HST_TQ_STATUS_CAUSE q) = cause ∧
        t.slots = s.slots ∧ t.get (HST_TQ_PTR_DEV_IDX q) = s.get (HST_TQ_PTR_DEV_IDX q) ∧ unbusy t ∧ Frame (foot a q) s t
      (∃ t, exec (.get none false) s = .next t ∧ faulted t 3) ∧
      (∀ (f : List Byte) (torn : Bool),
        let w := leNat (f.take 16)
        let alive := bits w 0 32
        let record := (f.drop 16).take (bits w 32 32)
        let x := Tile.ofBytes record
        let good := 16 + bits w 32 32 ≤ s.tqSlot q ∧ bits w 32 32 = x.recordLen ∧ headerValid x.head = true
        let sum := judged = true → torn = false → bits w 64 64 = s.frameCheck (s.get (HST_TQ_CFG_CHK q)) record
        let again := judged = true ∧ judgeAlive (s.get (HST_TQ_ALIVE_ALIVE q)) alive = .repeated
        let ex : Instr := .get (some (f, torn)) false
        (¬ good → ∃ t, exec ex s = .next t ∧ faulted t 1) ∧
        (good → ¬ sum → ∃ t, exec ex s = .next t ∧ faulted t 2) ∧
        (good → sum → again → ∃ t, exec ex s = .next t ∧ t.slots = s.slots ∧
          t.get (HST_TQ_REPEATS_COUNT q) = min (s.get (HST_TQ_REPEATS_COUNT q) + 1) (2 ^ 48 - 1) ∧
          t.get (HST_TQ_PTR_DEV_IDX q) = next ∧ Advanced 0x170 s t ∧ unbusy t ∧ Frame (foot a q) s t) ∧
        (good → sum → ¬ again → ∃ t, exec ex s = .next t ∧ Fired 0x170 a [(o, x.withPoison torn)] s t ∧
          t.get (HST_TQ_PTR_DEV_IDX q) = next ∧ t.get (HST_TQ_ALIVE_ALIVE q) = alive ∧
          (judged = true → judgeAlive (s.get (HST_TQ_ALIVE_ALIVE q)) alive = .skipped → t.get (HST_TQ_STATUS_SKIP q) = 1) ∧
          ((torn || hPoison x.head) = true → t.get (STR_POISONED o) = 1) ∧ unbusy t ∧ Frame (foot a q) s t)))) ∧
    (∀ data, (∀ c ∈ s.inflight, c.started = false) → ∃ t, exec (.functionLevelReset data) s = .next t ∧ t.inflight = [] ∧ t.bar4Log = 30 ∧
      t.pcie = pcieReset ∧
      (∀ r : Ring, t.get (HST_CMD_CTRL_RUN r) = 0 ∧ t.get (HST_CMD_STATUS_STOPPED r) = 1 ∧ t.get (HST_CMD_PTR_HEAD r) = 0) ∧
      (∀ q : Ring, t.get (HST_TQ_PTR_DEV_IDX q) = 0 ∧ t.get (HST_TQ_ALIVE_ALIVE q) = 0) ∧
      Frame (Foot.of (fun k => inBytes 0x00100000 0x00103004 k ∨ inBytes 0x00E00000 0x00E01020 k) [.cplPhase, .cplSince, .resetAsked]
        [.inflight, .pcie, .bar4Log]) s t) ∧
    (∀ data, ∃ t, exec (.functionLevelReset data) s = .next t ∧ t.inflight = [] ∧ t.bar4Log = 30 ∧ t.pcie = pcieReset ∧
      (∀ r : Ring, t.get (HST_CMD_CTRL_RUN r) = 0 ∧ t.get (HST_CMD_STATUS_STOPPED r) = 1 ∧ t.get (HST_CMD_PTR_HEAD r) = 0) ∧
      t.progs = s.progs ∧ t.slots = s.slots ∧ t.get GLB_PLAN_STATUS_ACTIVE = s.get GLB_PLAN_STATUS_ACTIVE ∧
      t.get HST_LINK_RATE = s.get HST_LINK_RATE) ∧
    (∀ (rate : Fin 7) (width : BitVec 5) (flit : Bool),
      let legal := (rate.val ≠ 0 ∧ width.toNat ∈ [1, 2, 4, 8, 16]) ∨ (rate.val = 0 ∧ width = 0)
      (s.portTrains = true → legal → ∃ t, exec (.pcieLinkTraining rate width flit none) s = .next t ∧ t.get HST_LINK_RATE = rate.val ∧
        t.get HST_LINK_WIDTH = width.toNat ∧ t.get HST_LINK_FLIT = b2n flit ∧
        Frame (Foot.fields [HST_LINK_RATE, HST_LINK_WIDTH, HST_LINK_FLIT]) s t) ∧
      (s.portTrains = false ∨ ¬ legal → exec (.pcieLinkTraining rate width flit none) s = .next s ∧
        ∀ c : PcieCfg × Fin 13, (s.configReady = false → exec (.pcieLinkTraining rate width flit (some c)) s = .next s) ∧
          (s.configReady = true → ∃ t, exec (.pcieLinkTraining rate width flit (some c)) s = .next t ∧ t.pcie = c.1 ∧
            t.bar4Log = bar4Min + c.2.val ∧
            (∀ v < 256, s.get (MSIX_PENDING v) = 1 → s.get (MSIX_MASK v) = 0 → c.1.msixEnable = true → c.1.msixMaskAll = false →
              v ∈ t.msix ∧ t.get (MSIX_PENDING v) = 0) ∧
            Frame (Foot.of (inBytes 0x00E00000 0x00E01020) [] [.pcie, .bar4Log, .msix]) s t)))

/-! Security and start-up. -/

/-- The SEC and DOE commands (R399–R413, R419): GET_CERT, GET_REPORT and DOE_INVALID_REQUEST answer a request in the Krovzin object type and
no other; FW_WRITE, FW_SEAL, SET_PREF, COMMIT_SVN, ENROLL and DEBUG_UNLOCK act, or complete with their status code and nothing else, and
with BUSY where SEC_CMD is written meanwhile; a LOAD in the course of a record command is accepted and makes it end BUSY. MEAS_EXTEND
extends its register by D, and an IDX below 8 or a GO while DONE = 0 is discarded and sets EXT_REJECT (R408). -/
def Obligations.SecurityCommandsAnswerAndAct : Prop :=
  ∀ (s : State), s.enumerated = true →
    let refused (cmd : Bool → Instr) (code : Nat) (banks : List Bank) : Prop := ∀ again : Bool, ∃ t, exec (cmd again) s = .next t ∧
      SecEnds code again s t ∧ Frame (Foot.sec [] banks) s t
    (∀ (vendor : BitVec 16) (type : BitVec 8) (mask : BitVec 16) (nonce : BitVec 256),
      let ours := vendor = Config.vendorId ∧ type = 1
      let answered (ws : List Nat) : State := { s with doe := ws, doeObject := Config.vendorId.toNat + 1 <<< 16 }
      let r := s.report mask.toNat nonce.toNat
      (¬ ours → ∀ cmd ∈ [Instr.getCert vendor type, .getReport vendor type mask nonce, .doeInvalidRequest vendor type],
        exec cmd s = .next s) ∧
      (ours → s.certificate.length = 3136 ∧
        exec (.getCert vendor type) s = .next (answered (unpack 32 (s.certificate.length / 4) (leNat s.certificate))) ∧
        r.length = 96 + 64 * ((List.range 16).filter fun i => bitAt mask.toNat i).length ∧
        (∃ sig : List Byte, sig.length = 1280 ∧
          exec (.getReport vendor type mask nonce) s = .next (answered (unpack 32 ((r ++ sig).length / 4) (leNat (r ++ sig))))) ∧
        exec (.doeInvalidRequest vendor type) s = .next (answered [0xFF]))) ∧
    (∀ slot again : Bool,
      let k := b2n slot
      let o := s.get SEC_ARG0_VALUE
      let n := s.get SEC_ARG1_VALUE
      let badArg := o % 65536 ≠ 0 ∨ slotBytes ≤ o ∨ n = 0 ∨ 65536 < n
      (s.slotActive k = true → refused (.fwWrite slot) secSlotActive [] ∧ refused (.fwSeal slot) secSlotActive []) ∧
      (s.slotActive k = false → badArg → refused (.fwWrite slot) secBadArg []) ∧
      (s.slotActive k = false → ¬ badArg → ∃ t, exec (.fwWrite slot again) s = .next t ∧ SecEnds secOk again s t ∧
        (∀ i, t.rd .flash i = if slotBytes * k + o ≤ i ∧ i < slotBytes * k + o + n then s.rd .staging (i - (slotBytes * k + o))
          else s.rd .flash i) ∧
        bitAt (t.rd .slotMeta k) 0 = true ∧ bitAt (t.rd .slotMeta k) 1 = false ∧ t.slotBad k = s.slotBad k ∧
        t.rd .slotMeta (1 - k) = s.rd .slotMeta (1 - k) ∧ Frame (Foot.sec [] [.flash, .slotMeta]) s t) ∧
      (s.slotActive k = false → s.slotValid k = true → ∃ t, exec (.fwSeal slot again) s = .next t ∧ SecEnds secOk again s t ∧
        t.rd .slotMeta k = 2 ∧ t.rd .slotMeta (1 - k) = s.rd .slotMeta (1 - k) ∧ Frame (Foot.sec [] [.slotMeta]) s t) ∧
      (s.slotActive k = false → s.slotValid k = false → ∃ t, exec (.fwSeal slot again) s = .next t ∧ SecEnds secInvalid again s t ∧
        bitAt (t.rd .slotMeta k) 1 = false ∧ bitAt (t.rd .slotMeta k) 0 = bitAt (s.rd .slotMeta k) 0 ∧ t.slotBad k = s.slotBad k ∧
        t.rd .slotMeta (1 - k) = s.rd .slotMeta (1 - k) ∧ Frame (Foot.sec [] [.slotMeta]) s t) ∧
      (bitAt (s.rd .slotMeta k) 0 = false → s.slotValid k = true → ∃ t, exec (.setPref slot again) s = .next t ∧
        SecEnds secOk again s t ∧ t.prefSlot = k ∧ (∀ i ≠ 0, t.rd .bootMeta i = s.rd .bootMeta i) ∧
        Frame (Foot.sec [] [.bootMeta]) s t) ∧
      (bitAt (s.rd .slotMeta k) 0 = true ∨ s.slotValid k = false → refused (.setPref slot) secInvalid [])) ∧
    (let ok := s.recovery = false ∧ s.get GLB_BOOT_STATUS_BOOT_OK = 1 ∧ s.get SEC_STATE_FELL_BACK = 0 ∧
        s.rd .fuse 4 < s.get SEC_STATE_RUN_SVN;
      (ok → ∀ again : Bool, ∃ t, exec (.commitSvn again) s = .next t ∧ SecEnds secOk again s t ∧
        t.rd .fuse 4 = s.get SEC_STATE_RUN_SVN ∧ (∀ i ≠ 4, t.rd .fuse i = s.rd .fuse i) ∧ Frame (Foot.sec [] [.fuse]) s t) ∧
      (¬ ok → refused .commitSvn secRefused [])) ∧
    (∀ again load : Bool,
      let raw := s.staged
      let idle := s.get GLB_PLAN_STATUS_LOAD_STATE = loadIdle
      let full := s.get SEC_ARG1_VALUE = recordBytes
      let loads := load = true ∧ s.running = true
      let loaded (t : State) : Prop := (loads → idle → t.get GLB_PLAN_STATUS_LOAD_STATE = loadChecking) ∧
        (loads → ¬ idle → t.get GLB_PLAN_STATUS_LOAD_STATE = s.get GLB_PLAN_STATUS_LOAD_STATE ∧ t.get GLB_PLAN_STATUS_BUSY_REJECT = 1)
      let foot (l : List Field) (banks : List Bank) : Foot := Foot.or (Foot.sec l banks)
        (Foot.of (fun k => loads ∧ k ∈ [GLB_PLAN_STATUS_LOAD_STATE.key, GLB_PLAN_STATUS_BUSY_REJECT.key, GLB_BOOT_STATUS_STAGE.key]) [] [])
      let ends (cmd : Instr) (code : Nat) : Prop := ∃ t, exec cmd s = .next t ∧ SecEnds code again s t ∧ loaded t ∧ Frame (foot [] []) s t
      (∀ x ∈ [(Instr.enroll again load, s.recordGood raw 0x4E455A4B 1 3), (.debugUnlock again load, s.recordGood raw 0x42445A4B 0 0)],
        (s.recovery = true → ends x.1 secRefused) ∧
        (s.recovery = false → ¬ full → ends x.1 secBadArg) ∧
        (s.recovery = false → full → x.2 = false → ends x.1 secRefused) ∧
        (s.recovery = false → full → x.2 = true → loads ∨ ¬ idle → ends x.1 secBusy)) ∧
      (s.recovery = false → full → ¬ loads → idle →
        (s.recordGood raw 0x4E455A4B 1 3 = true → ∃ t, exec (.enroll again load) s = .next t ∧ SecEnds secOk again s t ∧
          t.rd .bootMeta 2 = rawU raw 16 4 ∧ t.rd .bootMeta 1 = rawU raw 6 1 % 2 ∧
          (∀ i, i ≠ 1 → i ≠ 2 → t.rd .bootMeta i = s.rd .bootMeta i) ∧
          (∀ i, t.rd .custKey i = if i = rawU raw 5 1 ∧ rawU raw 4 1 = 1 then rawU raw 24 1793
            else if i = rawU raw 5 1 ∧ rawU raw 4 1 = 2 then 0 else s.rd .custKey i) ∧
          t.meas 4 = shake256 64 (s.meas 4 ++ shake256 64 (leBytes recordBytes raw)) ∧
          Frame (Foot.sec (measFields 4) [.bootMeta, .custKey]) s t) ∧
        (s.recordGood raw 0x42445A4B 0 0 = true → ∃ t, exec (.debugUnlock again load) s = .next t ∧ SecEnds secOk again s t ∧
          t.get SEC_STATE_DEBUG_UNLOCKED = 1 ∧ t.meas 4 = shake256 64 (s.meas 4 ++ shake256 64 (leBytes recordBytes raw)) ∧
          Frame (Foot.sec (SEC_STATE_DEBUG_UNLOCKED :: measFields 4) []) s t))) ∧
    (∀ (i : BitVec 4) (again : Bool),
      (i.toNat < 8 ∨ s.get SEC_EXT_CTRL_DONE = 0 → exec (.measExtend i again) s = .next (s.set SEC_EXT_CTRL_EXT_REJECT 1)) ∧
      (8 ≤ i.toNat → s.get SEC_EXT_CTRL_DONE = 1 → ∃ t, exec (.measExtend i again) s = .next t ∧
        t.meas i.toNat = shake256 64 (s.meas i.toNat ++ s.extData) ∧
        t.get SEC_EXT_CTRL_EXT_REJECT = (if again then 1 else s.get SEC_EXT_CTRL_EXT_REJECT) ∧
        Frame (Foot.fields (SEC_EXT_CTRL_EXT_REJECT :: measFields i.toNat)) s t))

/-- POWER_ON, CONVENTIONAL_RESET, BOOT_WATCHDOG_EXPIRY and ROOT_LOCK_LOST (R377, R401, R402, R405, R407, R414, R416, R421): the device starts
up with nothing of what it held; without root lock it stops in stage 2, without a valid slot in ROM recovery, and with one it goes on to
stage 7, or to the stage in which firmware hangs; a watchdog marks the slot BAD first; a conventional reset keeps the AO domain, and with
PRESERVE it resets the host block alone. -/
def Obligations.ResetsStartTheDevice : Prop :=
  ∀ (o : StartUp) (s : State),
    let scrub := s.rd .chestDir cdPowered = 1
    let ao (t : State) : Prop := ∀ f : Field, inBytes 0x02600010 0x02600044 f.key ∨ inBytes 0x02500020 0x02500028 f.key →
      (∀ x ∈ powerFields, f.key ≠ x.key) → f.key ≠ PWR_CLK_STATUS_LOCK_LOST.key → t.get f = s.get f
    (∃ t, exec (.powerOn o) s = .next t ∧ Booted o True s t ∧ t.alert = false ∧ t.tripped = false ∧
      t.get PWR_LASER_PRESENT = s.get PWR_LASER_PRESENT ∧
      ∀ f : Field, inBytes 0x02600000 0x02600030 f.key ∨ inBytes 0x02500000 0x02500100 f.key → t.get f = f.reset % 2 ^ f.width) ∧
    (∀ data,
      (s.off = true → exec (.conventionalReset data o) s = .next s) ∧
      (s.off = false → s.get HST_RESET_CFG_PRESERVE = 1 → s.running = true ∨ s.asleep = true →
        (∃ t, exec (.conventionalReset data o) s = .next t ∧ t.inflight = [] ∧ t.progs = s.progs ∧ t.slots = s.slots ∧
          t.pcie = pcieReset ∧ t.bar4Log = 30 ∧ t.get HST_RESET_CFG_PRESERVE = 1 ∧ t.get HST_LINK_RATE = 0 ∧ t.get HST_LINK_WIDTH = 0 ∧
          (∀ r : Ring, t.get (HST_CMD_CTRL_RUN r) = 0 ∧ t.get (HST_CMD_PTR_HEAD r) = 0) ∧
          (∀ f : Field, mlsKeys f.key ∨ streamKeys f.key ∨ inBytes 0x02000000 0x02100000 f.key ∨ inBytes 0x0 0x100000 f.key →
            t.get f = s.get f)) ∧
        ((∀ c ∈ s.inflight, c.started = false) → ∃ t, exec (.conventionalReset data o) s = .next t ∧
          Frame (Foot.of (fun k => inBytes 0x00100000 0x00103008 k ∨ inBytes 0x00E00000 0x00E01020 k) [.cplPhase, .cplSince, .resetAsked]
            [.inflight, .pcie, .bar4Log]) s t)) ∧
      (s.off = false → s.get HST_RESET_CFG_PRESERVE = 0 ∨ (s.running = false ∧ s.asleep = false) →
        ∃ t, exec (.conventionalReset data o) s = .next t ∧ Booted o scrub s t ∧ ao t)) ∧
    (let k := s.get SEC_STATE_BOOT_SLOT
      let marked := (Act.put .slotMeta k (setBits (s.rd .slotMeta k) 2 1 1)).run s
      (s.rd .bootMeta 3 = 1 → s.running = true → ∃ t, exec (.bootWatchdogExpiry o) s = .next t ∧ t.slotBad k = true ∧
        Booted o scrub marked t ∧ ao t) ∧
      (s.rd .bootMeta 3 ≠ 1 ∨ s.running = false → exec (.bootWatchdogExpiry o) s = .next s)) ∧
    (s.get PWR_CLK_STATUS_ROOT_LOCK = 1 → s.asleep = false → ∃ t, exec (.rootLockLost o) s = .next t ∧ Booted o scrub s t ∧
      t.get PWR_CLK_STATUS_LOCK_LOST = 1 ∧ ao t) ∧
    (s.get PWR_CLK_STATUS_ROOT_LOCK = 0 ∨ s.asleep = true → exec (.rootLockLost o) s = .next s)

/-! Power states and laser units. -/

/-- IDLE_REQUEST, IDLE_EXIT, ARM, CANCEL, OFF, the losses of power, TEMPERATURE_REFRESH, WATCH_COMMIT, WATCH_SAMPLE and the wakes (R418,
R426–R439, R490–R500): a request that R427 refuses reports why, and otherwise takes effect; P2 keeps the shelves and P3 nothing; an
enabled source wakes P2, and a held WAKE_N powers the module on. A power cut spoils the directory copy being written. SMBus answers its
address in every state but P3, and holds SCL in P2 (log entry 140: the Alert Response Address is the model's). -/
def Obligations.PowerStatesEnterAndWake : Prop :=
  ∀ (o : StartUp) (s : State),
    let st := s.get PWR_STATE_STATUS_STATE
    let refusedWith (t : State) (c : Nat) : Prop := t.get PWR_STATE_STATUS_REFUSED = 1 ∧ t.get PWR_STATE_STATUS_REFUSE_CAUSE = c ∧
      t.get PWR_STATE_STATUS_STATE = st
    let refusal := [PWR_STATE_STATUS_REFUSED, PWR_STATE_STATUS_REFUSE_CAUSE]
    let temps := [PWR_TEMP_WEST, PWR_TEMP_EAST, PWR_TEMP_IO, PWR_TEMP_COOLANT]
    (s.running = true →
      (st = 0 → s.powerRefusal = none → ∃ t, exec .idleRequest s = .next t ∧ t.get PWR_STATE_CTRL_IDLE = 1 ∧
        t.get PWR_STATE_STATUS_STATE = 1 ∧ Frame (Foot.fields [PWR_STATE_CTRL_IDLE, PWR_STATE_STATUS_STATE]) s t) ∧
      (st ≠ 0 → exec .idleRequest s = .next s) ∧
      exec .idleExit s = .next ((s.set PWR_STATE_CTRL_IDLE 0).set PWR_STATE_STATUS_STATE 0) ∧
      (s.powerRefusal = none → exec .arm s = .next (s.set PWR_STATE_STATUS_ARMED 1) ∧
        ∃ t, exec .off s = .next t ∧ Off false s t ∧ t.chestDir = s.chestDir) ∧
      exec .cancel s = .next (s.set PWR_STATE_STATUS_ARMED 0) ∧
      (∀ c, s.powerRefusal = some c → (st = 0 → ∃ t, exec .idleRequest s = .next t ∧ refusedWith t c ∧ t.get PWR_STATE_CTRL_IDLE = 0 ∧
          Frame (Foot.fields (PWR_STATE_CTRL_IDLE :: refusal)) s t) ∧
        ∀ cmd ∈ [Instr.arm, .off], ∃ t, exec cmd s = .next t ∧ refusedWith t c ∧ Frame (Foot.fields refusal) s t)) ∧
    (∀ d3 clkreq : Bool,
      let commits := s.running = true ∧ s.get PWR_STATE_STATUS_ARMED = 1 ∧ (d3 = true ∨ s.pcie.d3hot = true ∨ s.get HST_LINK_WIDTH = 0)
      let c := s.wakeCauses [(1, s.wakeLow), (5, clkreq)]
      (¬ commits → exec (.watchCommit d3 clkreq o) s = .next s) ∧
      (commits → c = 0 → ∃ t, exec (.watchCommit d3 clkreq o) s = .next t ∧ Watching (d3 || s.pcie.d3hot) s t) ∧
      (commits → c ≠ 0 → ∃ u t, exec (.watchCommit d3 clkreq o) s = .next t ∧ Watching (d3 || s.pcie.d3hot) s u ∧ Woke c o u t)) ∧
    (∀ cut : Option (Fin 2),
      let chest (t : State) : Prop := ∀ i, t.rd .chestDir i =
        if s.off = false ∧ ∃ c, cut = some c ∧ i = dcSeq c then 0 else s.rd .chestDir i
      (∀ cmd ∈ [Instr.inputPowerLoss cut, .moduleWithdrawal cut], ∃ t, exec cmd s = .next t ∧ Off false s t ∧ chest t) ∧
      (s.off = false → ∃ t, exec (.thermalTrip cut) s = .next t ∧ Off true s t ∧ chest t) ∧
      (s.off = true → exec (.thermalTrip cut) s = .next s)) ∧
    (∀ tp : Temps,
      let u := (storeTemps tp).run s
      (u.get PWR_TEMP_WEST = tp.west.toNat ∧ u.get PWR_TEMP_EAST = tp.east.toNat ∧ u.get PWR_TEMP_IO = tp.io.toNat ∧
        u.get PWR_TEMP_COOLANT = tp.coolant.toNat ∧ u.alert = (u.dieHot || u.coolHot || decide (u.get PWR_LASER_FAULT ≠ 0)) ∧
        Frame (Foot.or (Foot.fields temps) (Foot.of (fun _ => False) [] [.alert])) s u) ∧
      (s.asleep = true → exec (.temperatureRefresh tp) s = .next s) ∧
      (s.asleep = false → exec (.temperatureRefresh tp) s = .next u) ∧
      ∀ light : Bool,
        let c := u.wakeCauses [(2, u.dieHot), (3, u.coolHot), (4, light)]
        (st ≠ 2 → exec (.watchSample tp light o) s = .next s) ∧
        (st = 2 → c = 0 → exec (.watchSample tp light o) s = .next u) ∧
        (st = 2 → c ≠ 0 → ∃ t, exec (.watchSample tp light o) s = .next t ∧ Woke c o u t)) ∧
    (∀ (a : BitVec 7) (window : Bool) (r : SmbRead),
      let own := a.toNat = s.get PWR_SMB_ADDR
      let lost := window = true ∧ st = 2
      let c := s.wakeCauses [(0, decide own && !window)]
      let answer (x : Smbus) : Prop := (st = 2 → c ≠ 0 → ∃ t, exec (.smbusAddressMatch a window r o) s = .next t ∧ t.smb = x ∧
          Woke c o { s with smb := x } t) ∧
        (st ≠ 2 ∨ c = 0 → exec (.smbusAddressMatch a window r o) s = .next { s with smb := x })
      (st = 3 → answer ⟨false, false, none⟩) ∧
      (st ≠ 3 → own → ¬ lost → answer ⟨true, decide (st = 2), s.sideband r⟩) ∧
      (st ≠ 3 → own → lost → answer ⟨false, false, none⟩) ∧
      (st ≠ 3 → ¬ own → a = 0x0C → s.alert = true → st < 2 → answer ⟨true, false, some (2 * s.get PWR_SMB_ADDR)⟩) ∧
      (st ≠ 3 → ¬ own → ¬ (a = 0x0C ∧ s.alert = true ∧ st < 2) → answer ⟨false, false, none⟩)) ∧
    (∀ d0 : Bool,
      let u : State := if d0 = true ∧ (s.enumerated = true ∨ st = 2) then { s with pcie := { s.pcie with d3hot := false } } else s
      let c := s.wakeCauses [(5, true)]
      (st = 2 → c ≠ 0 → ∃ t, exec (.pcieWake d0 o) s = .next t ∧ Woke c o u t) ∧
      (st ≠ 2 ∨ c = 0 → exec (.pcieWake d0 o) s = .next u)) ∧
    (∀ low held input : Bool,
      let u : State := { s with wakeLow := low }
      let c := s.wakeCauses [(1, low)]
      (st = 3 → (low && held && input) = true → ∃ t, exec (.wakeNLow low held input o) s = .next t ∧ Booted o True u t) ∧
      (st = 3 → (low && held && input) = false → exec (.wakeNLow low held input o) s = .next u) ∧
      (st = 2 → c ≠ 0 → ∃ t, exec (.wakeNLow low held input o) s = .next t ∧ Woke c o u t) ∧
      (st < 2 ∨ (st = 2 ∧ c = 0) → exec (.wakeNLow low held input o) s = .next u))

/-- LASER_OFF, LASER_INSERT, LASER_REMOVE and LASER_FAULT (R248, R250, R497, R498): a unit is lit where it is seated, not held dark and
without fault; its links fall with it, or start bring-up with it, and a fault raises the alert. -/
def Obligations.LaserUnitsLightAndGoDark : Prop :=
  ∀ (k : Fin 3) (s : State),
    let present := bitAt (s.get PWR_LASER_PRESENT) k
    let off := bitAt (s.get PWR_LASER_OFF) k
    let fault := bitAt (s.get PWR_LASER_FAULT) k
    let bit (t : State) (f : Field) (v : Nat) : Prop := t.get f = setBits (s.get f) k 1 v
    let still (t : State) (l : List Field) : Prop := ∀ f ∈ [PWR_LASER_OFF, PWR_LASER_PRESENT, PWR_LASER_FAULT], f ∉ l → t.get f = s.get f
    let frame (t : State) : Prop := Frame (Foot.unit k) s t
    (s.running = true →
      (∃ t, exec (.laserOff k true) s = .next t ∧ bit t PWR_LASER_OFF 1 ∧ UnitDark k s t ∧ still t [PWR_LASER_OFF] ∧
        t.alert = s.alert ∧ frame t) ∧
      (present = true → fault = false → ∃ t, exec (.laserOff k false) s = .next t ∧ bit t PWR_LASER_OFF 0 ∧ UnitLit k s t ∧
        still t [PWR_LASER_OFF] ∧ t.alert = s.alert ∧ frame t) ∧
      (present = false ∨ fault = true → ∃ t, exec (.laserOff k false) s = .next t ∧ bit t PWR_LASER_OFF 0 ∧
        Frame (Foot.fields [PWR_LASER_OFF]) s t) ∧
      (off = false → fault = false → ∃ t, exec (.laserInsert k) s = .next t ∧ bit t PWR_LASER_PRESENT 1 ∧ UnitLit k s t ∧
        still t [PWR_LASER_PRESENT] ∧ t.alert = s.alert ∧ frame t)) ∧
    (s.running = false ∨ off = true ∨ fault = true → ∃ t, exec (.laserInsert k) s = .next t ∧ bit t PWR_LASER_PRESENT 1 ∧
      Frame (Foot.fields [PWR_LASER_PRESENT]) s t) ∧
    (∃ t, exec (.laserRemove k) s = .next t ∧ bit t PWR_LASER_PRESENT 0 ∧ UnitDark k s t ∧ still t [PWR_LASER_PRESENT] ∧
      t.alert = s.alert ∧ frame t) ∧
    (s.off = false → present = true → ∃ t, exec (.laserFault k) s = .next t ∧ bit t PWR_LASER_FAULT 1 ∧ UnitDark k s t ∧
      still t [PWR_LASER_FAULT] ∧ t.alert = true ∧ frame t) ∧
    (s.off = true ∨ present = false → exec (.laserFault k) s = .next s)

/-! Snapshots, fault records and the chest. -/

/-- SNAPSHOT_REQUEST and SNAPSHOT_COMPLETE (R473–R476): a request copies the live value of every shadowed field, or joins the one that is
pending; completion counts it and ends the commands that wait. FAULT_RECORD_POST (R477–R480): the oldest event that is not yet reported
gets its record: one equal to the newest record within 1 ms repeats it, a full log counts it as lost with its FSEQ consumed, and otherwise
it stands at TAIL and signals VEC where its class does; a write of HEAD frees records (R479). -/
def Obligations.SnapshotsAndFaultRecords : Prop :=
  ∀ (s : State), s.running = true →
    (s.get CNT_SNAP_STATUS_PENDING = 1 → exec .snapshotRequest s = .next s) ∧
    (s.get CNT_SNAP_STATUS_PENDING = 0 → s.regs.rising = true → ∃ t, exec .snapshotRequest s = .next t ∧
      t.get CNT_SNAP_STATUS_PENDING = 1 ∧
      (∀ f : Field, shadowed (f.key / 8) = true → f.reset = 0 → t.rd .shadow f.key % 2 ^ f.width = s.get f) ∧
      Frame (Foot.of (fun k => k = CNT_SNAP_STATUS_PENDING.key) [.shadow] []) s t) ∧
    (s.get CNT_SNAP_STATUS_PENDING = 0 → exec .snapshotComplete s = .next s) ∧
    (∀ v : BitVec 64, ∃ t, exec (.registerWrite 0x02500104#26 4 v 0) s = .next t ∧ t.get CNT_FLT_PTR_HEAD = bits v.toNat 0 8 ∧
      Frame (Foot.fields [CNT_FLT_PTR_HEAD]) s t) ∧
    (s.get CNT_SNAP_STATUS_PENDING = 1 → ∃ t, exec .snapshotComplete s = .next t ∧ t.get CNT_SNAP_STATUS_PENDING = 0 ∧
      t.get CNT_SNAP_SEQ_SEQ = (s.get CNT_SNAP_SEQ_SEQ + 1) % 2 ^ 32 ∧
      (∀ c ∈ s.inflight, c.opcode = 9 → c.started = true → Completed c 0 ((s.get CNT_SNAP_SEQ_SEQ + 1) % 2 ^ 32) t) ∧
      Frame (Foot.or Foot.hostDone (Foot.fields [CNT_SNAP_STATUS_PENDING, CNT_SNAP_SEQ_SEQ])) s t) ∧
    (∀ (recent : Bool) (cycles : BitVec 16),
      let cmd := Instr.faultRecordPost recent cycles
      (s.faultDue = [] → exec cmd s = .next s) ∧
      ∀ e rest, s.faultDue = e :: rest →
        let head := s.get CNT_FLT_PTR_HEAD
        let tail := s.get CNT_FLT_PTR_TAIL
        let newest := (tail + 255) % 256
        let repeats := recent = true ∧ head ≠ tail ∧ s.sameRecord newest e = true
        let taken := (faultNotice e.cls).bind fun k => s.notices.find? fun n => bits n 0 8 = k
        let reported (t : State) : Prop := t.faultDue = rest ∧
          t.notices = ((taken.map fun n => s.notices.erase n).getD s.notices) ∧
          t.get (CLU_DESK_FWCYC_COUNT 0) = min (s.get (CLU_DESK_FWCYC_COUNT 0) + cycles.toNat) (2 ^ 48 - 1)
        let work := [CLU_DESK_FWCYC_COUNT 0, CLU_DESK_FWCYC_OVF 0]
        (repeats → ∃ t, exec cmd s = .next t ∧ reported t ∧
          t.get (CNT_FLT_ENTRY_REPEAT newest) = min (s.get (CNT_FLT_ENTRY_REPEAT newest) + 1) 255 ∧
          Frame (Foot.or (Foot.fields (CNT_FLT_ENTRY_REPEAT newest :: work)) (Foot.of (fun _ => False) [] [.notices, .faultDue])) s t) ∧
        (¬ repeats → (tail + 1) % 256 = head → ∃ t, exec cmd s = .next t ∧ reported t ∧
          t.get CNT_FLT_LOST_COUNT = min (s.get CNT_FLT_LOST_COUNT + 1) (2 ^ 48 - 1) ∧ t.faultSeq = (s.faultSeq + 1) % 2 ^ 32 ∧
          Frame (Foot.or (Foot.fields ([CNT_FLT_LOST_COUNT, CNT_FLT_LOST_OVF] ++ work))
            (Foot.of (fun _ => False) [] [.notices, .faultDue, .faultSeq])) s t) ∧
        (¬ repeats → (tail + 1) % 256 ≠ head → ∃ t, exec cmd s = .next t ∧ reported t ∧
          t.get (CNT_FLT_ENTRY_CLASS tail) = e.cls % 2 ^ 5 ∧ t.get (CNT_FLT_ENTRY_SEVERITY tail) = faultSeverity e.cls ∧
          t.get (CNT_FLT_ENTRY_REPEAT tail) = 0 ∧ t.get (CNT_FLT_ENTRY_FSEQ tail) = s.faultSeq % 2 ^ 32 ∧
          t.get (CNT_FLT_ENTRY_SOURCE tail) = e.source % 2 ^ 9 ∧ t.get (CNT_FLT_ENTRY_CHIP tail) = e.chip % 2 ^ 24 ∧
          t.get (CNT_FLT_ENTRY_GRAPH tail) = e.graph % 2 ^ 3 ∧ t.get (CNT_FLT_ENTRY_DETAIL tail) = e.detail % 2 ^ 32 ∧
          t.get CNT_FLT_PTR_TAIL = (tail + 1) % 256 ∧ t.faultSeq = (s.faultSeq + 1) % 2 ^ 32 ∧
          (let vec := s.get CNT_FLT_CFG_VEC
            let signals := s.get CNT_FLT_CFG_IRQ_EN = 1 ∧ bitAt (s.get CNT_FLT_CFG_CLASS_MASK) e.cls = true
            (¬ signals → t.msix = s.msix ∧ t.get (MSIX_PENDING vec) = s.get (MSIX_PENDING vec)) ∧
            (signals → s.masked vec = false → t.msix = s.msix ++ [vec] ∧ t.get (MSIX_PENDING vec) = s.get (MSIX_PENDING vec)) ∧
            (signals → s.masked vec = true → t.msix = s.msix ∧ t.get (MSIX_PENDING vec) = 1) ∧
            Frame (Foot.or (Foot.fields (CNT_FLT_PTR_TAIL :: MSIX_PENDING vec :: work))
              (Foot.of (inBytes (0x02510000 + tail * 0x10) (0x02510010 + tail * 0x10)) [] [.notices, .faultDue, .faultSeq, .msix])) s t)))

/-- APPEND and CHEST_READ (R456, R457, R460–R463, R469): a firing of the CHEST station writes the record of its tile into the OPEN slot and
consumes it, or sends the record at the cursor of the SEALED slot, poisoned where a later page of it fails; one that cannot start records
its cause and stops its stream. A station whose ready alternative is of the other kind, or that has none, does neither. -/
def Obligations.ChestFiringsAppendAndRead : Prop :=
  ∀ (s : State) (units : BitVec 32) (bad : List Nat) (reads : List PageRead), s.running = true →
    (∀ x ∈ [(Instr.append units bad, 1), (.chestRead units reads, 2)],
      (∀ a, s.firstReady 0x178 0 s.chestReady = some a → chwKind a.op ≠ x.2) → exec x.1 s = .next s) ∧
    ∀ a : Alt, s.firstReady 0x178 0 s.chestReady = some a → chwSlot a.op < 80 →
      let k := chwSlot a.op
      let stops (n cause : Nat) (t : State) : Prop := t.get (STR_BAD_HEADER n) = 1 ∧
        (s.get (STR_BAD_HEADER n) = 0 → t.faultDue = (s.rejected n).faultDue) ∧
        (s.get CHS_FAULT_VALID = 0 → t.get CHS_FAULT_CAUSE = cause ∧ t.get CHS_FAULT_SLOT = k ∧ t.get CHS_FAULT_VALID = 1) ∧
        (s.get CHS_FAULT_VALID = 1 → t.get CHS_FAULT_CAUSE = s.get CHS_FAULT_CAUSE ∧ t.get CHS_FAULT_SLOT = s.get CHS_FAULT_SLOT)
      let stopFoot (n : Nat) : Foot := Foot.or (Foot.fields [STR_BAD_HEADER n, CHS_FAULT_CAUSE, CHS_FAULT_SLOT, CHS_FAULT_VALID])
        (Foot.of (fun _ => False) [] [.faultDue])
      let stopped (cmd : Instr) (n cause : Nat) : Prop := ∃ t, exec cmd s = .next t ∧ stops n cause t ∧ Frame (stopFoot n) s t
      let ended (t : State) : Prop :=
        let l := (if s.get CHS_LEFT_RECORDS = 0 then chwCount a.op else s.get CHS_LEFT_RECORDS) - 1
        t.get CHS_LEFT_RECORDS = l % 2 ^ 20 ∧ (l = 0 → Advanced 0x178 s t) ∧
        (l ≠ 0 → t.get (STN_STATUS_STEP_IDX 0x178) = s.get (STN_STATUS_STEP_IDX 0x178)) ∧
        t.allowance (allowKey 0x178 0 (s.altGraph a)) = s.allowance (allowKey 0x178 0 (s.altGraph a)) - (units.toNat : Int)
      let foot : Foot := Foot.or (Foot.firing 0x178 a.streams) (Foot.or Foot.nand (Foot.of (fun x => slotKeys k x ∨ x = CHS_LEFT_RECORDS.key) [] []))
      (∀ i : Nat, chwKind a.op = 1 → a.inputs = [i] → a.outputs = [] →
        let cmd := Instr.append units bad
        let x := s.inputD i
        let n := recordSpan x.recordLen
        let w := s.rd .chestDir (cdWord k 3)
        let m := ceilDiv n pageBytes
        let raw := x.raw % 2 ^ (8 * x.recordLen) + (2 ^ (8 * (n - x.recordLen)) - 1) <<< (8 * x.recordLen)
        let all := raw % 2 ^ (8 * n) + (2 ^ (8 * (m * pageBytes - n)) - 1) <<< (8 * n)
        let step := s.stepNum (s.altGraph a)
        let records := s.get (CHS_SLOT_INFO_RECORDS k)
        let room := w + m ≤ s.rd .chestDir (cdWord k 1)
        let mounted := s.get CHS_STATUS_MOUNTED = 1
        let open' := s.get (CHS_SLOT_INFO_STATE k) = slotOpen
        (headerValid x.head = false → s.get (STR_BAD_HEADER i) = 0 → exec cmd s = .next (s.rejected i)) ∧
        (headerValid x.head = true →
          (¬ mounted → stopped cmd i 5) ∧ (mounted → ¬ open' → stopped cmd i 1) ∧ (mounted → open' → ¬ room → stopped cmd i 2) ∧
          (mounted → open' → room → ∃ t, exec cmd s = .next t ∧ Moved a [] s t ∧ ended t ∧
            t.chest = s.chest ++ ((List.range m).map fun j =>
              s.newPage k (w + j) (bits all (8 * pageBytes * j) (8 * pageBytes)) (min pageBytes (n - pageBytes * j)) step) ∧
            t.rd .chestDir (cdWord k 3) = w + m ∧ t.rd .chestRec (2 ^ 32 * k + records) = w ∧
            t.rd .chestDir cdPageSeq = (s.rd .chestDir cdPageSeq + m) % 2 ^ 32 ∧
            t.rd .chestDir (cdWord k 2) = crc64Cfg.fold (s.rd .chestDir (cdWord k 2)) (leBytes n raw) ∧
            t.get (CHS_SLOT_INFO_RECORDS k) = (records + 1) % 2 ^ 32 ∧
            t.get (CHS_SLOT_INFO_BYTES k) = (s.get (CHS_SLOT_INFO_BYTES k) + n) % 2 ^ 64 ∧
            t.get (CHS_SLOT_INFO_STEP k) = (if records = 0 then step % 2 ^ 32 else s.get (CHS_SLOT_INFO_STEP k)) ∧
            t.get (CHS_SLOT_INFO_STATE k) = slotOpen ∧ Frame foot s t))) ∧
      (∀ o : Nat, chwKind a.op = 2 → a.outputs = [o] → a.inputs = [] →
        let cmd := Instr.chestRead units reads
        let c := s.get (CHS_SLOT_INFO_CURSOR k)
        let p := s.rd .chestRec (2 ^ 32 * k + c)
        let first := s.readPage reads k p
        let n := 32 + hPayloadLen first.data
        let seen := (List.range (ceilDiv n pageBytes)).map fun j => s.readPage reads k (p + j)
        let x : Tile := ⟨packFast (8 * pageBytes) (seen.map (·.data)) % 2 ^ (8 * n)⟩
        let hit : Bool := seen.any fun y => y.failed.isSome
        let mounted := s.get CHS_STATUS_MOUNTED = 1
        let sealed := s.get (CHS_SLOT_INFO_STATE k) = slotSealed
        let rest := c < s.get (CHS_SLOT_INFO_RECORDS k)
        (¬ mounted → stopped cmd o 5) ∧ (mounted → ¬ sealed → stopped cmd o 1) ∧ (mounted → sealed → ¬ rest → stopped cmd o 3) ∧
        (mounted → sealed → rest → first.failed.isSome = true → ∃ t, exec cmd s = .next t ∧ stops o 4 t ∧ ReadsCounted [first] s t ∧
          Frame (Foot.or (stopFoot o) (Foot.of chestCounters [] [])) s t) ∧
        (mounted → sealed → rest → first.failed.isSome = false → ∃ t, exec cmd s = .next t ∧
          Moved a [(o, x.withPoison hit)] s t ∧ ended t ∧ ReadsCounted seen s t ∧
          ((hit || hPoison x.head) = true → t.get (STR_POISONED o) = 1) ∧
          t.get (CHS_SLOT_INFO_CURSOR k) = (c + 1) % 2 ^ 32 ∧
          Frame (Foot.or (Foot.firing 0x178 a.streams)
            (Foot.of (fun y => chestCounters y ∨ y = (CHS_SLOT_INFO_CURSOR k).key ∨ y = CHS_LEFT_RECORDS.key) [] [])) s t))

/-- The chest commands of the host (R456–R459, R463–R466, R470): CHEST_OPEN, CHEST_SEAL, ERASE, PARK, UNPARK, CHEST_REWIND and FORMAT
complete with their status code, BUSY where CHS_CMD is written meanwhile, and where it is OK with their effect on the slot, which both
directory copies then record. CHEST_SCRUB_PASS starts a pass that is due, and ends one that runs: the reads are counted, weak blocks are
relocated with what they hold. -/
def Obligations.ChestCommandsManageSlots : Prop :=
  ∀ (k : BitVec 7) (bad : List Nat) (reads : List PageRead) (again : Bool) (s : State), s.running = true →
    let slot := k.toNat
    let mounted := s.get CHS_STATUS_MOUNTED = 1
    let st := s.get (CHS_SLOT_INFO_STATE slot)
    let a := s.get CHS_ARG0_VALUE
    let n := s.get CHS_ARG1_VALUE
    let onSlot := [Instr.chestOpen k bad again, .chestSeal k bad again, .erase k bad again, .park k bad false again,
      .park k bad true again, .unpark k reads again, .chestRewind k again]
    let ends (cmd : Instr) (code : Nat) : Prop := ∃ t, exec cmd s = .next t ∧ ChestEnds code again t ∧ Frame Foot.chestDone s t
    let foot : Foot := Foot.or Foot.chestDone (Foot.or Foot.nand (Foot.of (slotKeys slot) [] []))
    let copies : Foot := { keys := fun x => ∃ mem, errKeys mem x, cells := fun b _ => b = .drwErr ∨ b = .shfErr, bytes := fun _ => False,
                           parts := fun p => p = .faultDue }
    (∀ cmd ∈ onSlot, ¬ mounted → ends cmd chsUnmounted) ∧
    (∀ cmd ∈ onSlot, mounted → 80 ≤ slot → ends cmd chsBadArg) ∧
    (mounted → slot < 80 →
      (∀ c, s.openRefusal slot a = some c → ends (.chestOpen k bad again) c) ∧
      (s.openRefusal slot a = none → ∃ t, exec (.chestOpen k bad again) s = .next t ∧ ChestEnds chsOk again t ∧ Recorded t ∧
        t.get (CHS_SLOT_INFO_STATE slot) = slotOpen ∧ t.get (CHS_SLOT_INFO_ROLE slot) = fileRole slot ∧
        t.get (CHS_SLOT_INFO_PAGES slot) = a % 2 ^ 32 ∧
        t.get (CHS_SLOT_INFO_GEN slot) = (s.get (CHS_SLOT_INFO_GEN slot) + 1) % 2 ^ 32 ∧ t.get (CHS_SLOT_INFO_RECORDS slot) = 0 ∧
        t.get (CHS_SLOT_INFO_BYTES slot) = 0 ∧ t.rd .chestDir (cdWord slot 0) = s.rd .chestDir cdPageSeq ∧ t.chest = s.chest ∧
        Frame foot s t) ∧
      (st ≠ slotOpen → ends (.chestSeal k bad again) chsState) ∧
      (st = slotOpen → ∃ t, exec (.chestSeal k bad again) s = .next t ∧ ChestEnds chsOk again t ∧ Recorded t ∧
        t.get (CHS_SLOT_INFO_STATE slot) = slotSealed ∧ t.get (CHS_SLOT_INFO_PAGES slot) = s.rd .chestDir (cdWord slot 3) % 2 ^ 32 ∧
        (∀ f ∈ [CHS_SLOT_INFO_GEN slot, CHS_SLOT_INFO_RECORDS slot, CHS_SLOT_INFO_BYTES slot, CHS_SLOT_INFO_STEP slot], t.get f = s.get f) ∧
        t.chest = s.chest ∧ (∀ x ∈ t.stripes, x.file ≠ slot) ∧ Frame foot s t) ∧
      (∃ t, exec (.erase k bad again) s = .next t ∧ ChestEnds chsOk again t ∧ Recorded t ∧
        (∀ f ∈ [CHS_SLOT_INFO_STATE slot, CHS_SLOT_INFO_ROLE slot, CHS_SLOT_INFO_PAGES slot, CHS_SLOT_INFO_BYTES slot,
          CHS_SLOT_INFO_RECORDS slot, CHS_SLOT_INFO_STEP slot, CHS_SLOT_INFO_CURSOR slot], t.get f = 0) ∧
        t.get (CHS_SLOT_INFO_GEN slot) = s.get (CHS_SLOT_INFO_GEN slot) ∧ t.chest = (s.chest.filter fun p => p.slot ≠ slot) ∧
        (∀ p ∈ t.places, p.file ≠ slot) ∧ Frame foot s t) ∧
      (∃ t, exec (.chestRewind k again) s = .next t ∧ ChestEnds chsOk again t ∧ t.get (CHS_SLOT_INFO_CURSOR slot) = 0 ∧
        Frame (Foot.or Foot.chestDone (Foot.fields [CHS_SLOT_INFO_CURSOR slot])) s t) ∧
      (∀ media : Bool,
        let cmd := Instr.park k bad media again
        let m := ceilDiv n pageBytes
        let fits := 64 ≤ slot ∧ n ≠ 0 ∧ s.inShelves a n = true
        (¬ fits → ends cmd chsBadArg) ∧
        (∀ c, fits → s.openRefusal slot m = some c → ends cmd c) ∧
        (fits → s.openRefusal slot m = none → media = true → ∃ t, exec cmd s = .next t ∧ ChestEnds chsMedia again t ∧ Recorded t ∧
          t.get (CHS_SLOT_INFO_STATE slot) = slotOpen ∧ t.chest = s.chest ∧ Frame (Foot.or foot copies) s t) ∧
        (fits → s.openRefusal slot m = none → media = false → ∃ t, exec cmd s = .next t ∧ ChestEnds chsOk again t ∧ Recorded t ∧
          t.get (CHS_SLOT_INFO_STATE slot) = slotSealed ∧ t.get (CHS_SLOT_INFO_BYTES slot) = n % 2 ^ 64 ∧
          t.get (CHS_SLOT_INFO_PAGES slot) = m % 2 ^ 32 ∧ t.get (CHS_SLOT_INFO_GEN slot) = (s.get (CHS_SLOT_INFO_GEN slot) + 1) % 2 ^ 32 ∧
          (∃ ps, t.chest = s.chest ++ ps ∧ ps.length = m ∧ ∀ (j : Nat) (q : ChestPage), ps[j]? = some q → q.slot = slot ∧ q.page = j ∧
            pgFill q.head = min pageBytes (n - pageBytes * j) ∧
            ∀ i < min pageBytes (n - pageBytes * j), BitVec.ofNat 8 (q.data >>> (8 * i)) = s.byte (a + pageBytes * j + i)) ∧
          Frame (Foot.or foot copies) s t)) ∧
      (let cmd := Instr.unpark k reads again
        let len := s.get (CHS_SLOT_INFO_BYTES slot)
        let spans := 64 ≤ slot ∧ a % 64 = 0 ∧ s.inShelves a len = true
        let seen := (List.range (s.get (CHS_SLOT_INFO_PAGES slot))).map (s.readPage reads slot)
        let good := seen.takeWhile fun x => x.failed.isNone
        let data := (seenBytes good).take len
        (¬ spans → ends cmd chsBadArg) ∧
        (spans → st ≠ slotSealed → ends cmd chsState) ∧
        (spans → st = slotSealed → ∃ t, exec cmd s = .next t ∧
          ChestEnds (if good.length < seen.length then chsMedia else chsOk) again t ∧
          (∀ x, t.byte x = if a ≤ x ∧ x < a + data.length ∧ s.mapped x = true then data.getD (x - a) 0#8 else s.byte x) ∧
          ReadsCounted (seen.take (good.length + 1)) s t ∧
          Frame (Foot.or Foot.chestDone { keys := chestCounters, cells := fun b _ => b = .drwErr ∨ b = .shfErr,
                                          bytes := fun x => a ≤ x ∧ x < a + data.length, parts := fun _ => False }) s t))) ∧
    (∀ factory : List Nat,
      let cmd := Instr.format factory bad again
      ((∃ j < 80, s.get (CHS_SLOT_INFO_STATE j) = slotOpen) → ends cmd chsState) ∧
      ((∀ j < 80, s.get (CHS_SLOT_INFO_STATE j) ≠ slotOpen) → ∃ t, exec cmd s = .next t ∧ ChestEnds chsOk again t ∧ Recorded t ∧
        t.get CHS_STATUS_MOUNTED = 1 ∧ t.chest = [] ∧ (∀ j < 80, t.get (CHS_SLOT_INFO_STATE j) = slotEmpty) ∧
        (∀ p ∈ t.places, 80 ≤ p.file) ∧ t.rd .chestDir cdErases = s.rd .chestDir cdErases + 1 ∧
        t.rd .chestDir cdFactoryBad = factory.eraseDups.length ∧ (∀ b ∈ factory, bitAt (t.rd .blkState b) 2 = true) ∧
        (∀ b ∈ bad, s.blockTrained b = true → b ∉ factory → bitAt (t.rd .blkState b) 1 = true) ∧
        Frame (Foot.or Foot.chestDone (Foot.or Foot.nand
          (Foot.of (fun x => inBytes 0x02300100 0x02300B00 x ∨ x = CHS_STATUS_MOUNTED.key) [] []))) s t)) ∧
    (let cmd := Instr.chestScrubPass reads bad
      let running := s.get CHS_STATUS_SCRUBBING = 1
      let read := s.chest.map fun p => s.readPage reads p.slot p.page
      let slotPlaces (u : State) := (u.places.filter fun p => p.file < 80).map fun p => (p.file, p.page)
      (¬ mounted → exec cmd s = .next s) ∧
      (mounted → ¬ running → s.scrubDue = false → exec cmd s = .next s) ∧
      (mounted → ¬ running → s.scrubDue = true → ∃ t, exec cmd s = .next t ∧ t.get CHS_STATUS_SCRUBBING = 1 ∧
        t.rd .chestDir cdScrubStart = s.get CNT_AO_CYCLE_COUNT ∧ t.rd .chestDir cdScrubDays = s.get CHS_CFG_SCRUB_DAYS ∧
        Frame (Foot.of (fun x => x = CHS_STATUS_SCRUBBING.key) [.chestDir] []) s t) ∧
      (mounted → running → ∃ t, exec cmd s = .next t ∧ t.get CHS_STATUS_SCRUBBING = 0 ∧ ReadsCounted read s t ∧
        ChestCounted 5 (s.weakBlocks reads).length s t ∧ t.chest = s.chest ∧ slotPlaces t = slotPlaces s ∧
        Frame (Foot.or Foot.nand (Foot.of (fun x => x = CHS_STATUS_SCRUBBING.key) [] [])) s t))
end

