-- ==== Sys2Proof/Laws/Bits.lean ====
section
/-!
SUPPORT. Reading a field back out of a packed number: packed lists of words, and replaced fields.
-/

namespace Sys2Proof.Machine

theorem bits_lt (n lo w : Nat) : bits n lo w < 2 ^ w := Nat.mod_lt _ (Nat.two_pow_pos _)

theorem testBit_bits (n lo w i : Nat) : (bits n lo w).testBit i = (decide (i < w) && n.testBit (lo + i)) := by
  simp [bits, Nat.testBit_mod_two_pow, Nat.testBit_shiftRight]

/-- The fold of `packFast` from an accumulator below its position. -/
theorem packFast_fold (w : Nat) (l : List Nat) (a p : Nat) (h : a < 2 ^ p) :
    (l.foldl (fun (acc : Nat × Nat) x => (acc.1 + (x % 2 ^ w) <<< acc.2, acc.2 + w)) (a, p)).1 = a + (pack w l) <<< p := by
  induction l generalizing a p with
  | nil => simp [pack]
  | cons x t ih =>
    have hx : x % 2 ^ w < 2 ^ w := Nat.mod_lt _ (Nat.two_pow_pos _)
    rw [List.foldl_cons, ih]
    · simp only [pack, Nat.shiftLeft_eq, Nat.pow_add, Nat.add_mul]
      rw [Nat.add_assoc, Nat.mul_assoc, Nat.mul_comm (2 ^ w) (2 ^ p)]
    · simp only [Nat.shiftLeft_eq]
      have : a + x % 2 ^ w * 2 ^ p < 2 ^ w * 2 ^ p := by
        have := Nat.mul_le_mul_right (2 ^ p) (Nat.succ_le_of_lt hx)
        rw [Nat.succ_eq_add_one, Nat.add_mul] at this
        omega
      rw [Nat.pow_add, Nat.mul_comm (2 ^ p)]; exact this

/-- The quick packing is the packing. -/
theorem packFast_eq (w : Nat) (l : List Nat) : packFast w l = pack w l := by
  unfold packFast
  rw [packFast_fold w l 0 0 (by simp)]
  simp

theorem pack_lt (w : Nat) (l : List Nat) : pack w l < 2 ^ (l.length * w) := by
  induction l with
  | nil => simp [pack]
  | cons x t ih =>
    have hx : x % 2 ^ w < 2 ^ w := Nat.mod_lt _ (Nat.two_pow_pos _)
    simp only [pack, List.length_cons, Nat.add_mul, Nat.one_mul, Nat.shiftLeft_eq, Nat.pow_add]
    have := Nat.mul_le_mul_right (2 ^ w) (Nat.succ_le_of_lt ih)
    rw [Nat.succ_eq_add_one, Nat.add_mul] at this
    omega

/-- Word `i` of a packed list. -/
theorem bits_pack (w : Nat) (l : List Nat) (i : Nat) (h : i < l.length) : bits (pack w l) (i * w) w = l[i] % 2 ^ w := by
  induction l generalizing i with
  | nil => simp at h
  | cons x t ih =>
    have hx : x % 2 ^ w < 2 ^ w := Nat.mod_lt _ (Nat.two_pow_pos _)
    cases i with
    | zero =>
      simp only [pack, bits, Nat.zero_mul, Nat.shiftRight_zero, Nat.shiftLeft_eq, List.getElem_cons_zero]
      rw [Nat.add_mul_mod_self_right, Nat.mod_mod]
    | succ k =>
      have := ih k (by simpa using h)
      rw [List.getElem_cons_succ, ← this]
      simp only [bits, pack, Nat.shiftRight_eq_div_pow, Nat.shiftLeft_eq]
      congr 1
      rw [Nat.add_mul, Nat.one_mul, Nat.add_comm (k * w), Nat.pow_add, ← Nat.div_div_eq_div_mul, Nat.add_mul_div_right _ _ (Nat.two_pow_pos _),
        Nat.div_eq_of_lt hx, Nat.zero_add]

/-- Word `i` of a packed list, as the model packs it. -/
theorem bits_packFast (w : Nat) (l : List Nat) (i : Nat) (h : i < l.length) : bits (packFast w l) (i * w) w = l[i] % 2 ^ w := by
  rw [packFast_eq, bits_pack w l i h]

theorem setBits_eq (n lo w v : Nat) : setBits n lo w v = n % 2 ^ lo + (v % 2 ^ w) * 2 ^ lo + n / 2 ^ (lo + w) * 2 ^ (lo + w) := by
  simp [setBits, Nat.shiftLeft_eq, Nat.shiftRight_eq_div_pow]

/-- A replaced field reads as the value put there. -/
theorem bits_setBits_same (n lo w v : Nat) : bits (setBits n lo w v) lo w = v % 2 ^ w := by
  have h1 : n % 2 ^ lo < 2 ^ lo := Nat.mod_lt _ (Nat.two_pow_pos _)
  rw [setBits_eq]
  simp only [bits, Nat.shiftRight_eq_div_pow]
  rw [Nat.pow_add, ← Nat.mul_assoc, Nat.mul_right_comm _ (2 ^ lo), Nat.add_assoc, ← Nat.add_mul,
    Nat.add_mul_div_right _ _ (Nat.two_pow_pos _), Nat.div_eq_of_lt h1, Nat.zero_add, Nat.add_mul_mod_self_right, Nat.mod_mod]

end Sys2Proof.Machine
end

