-- ==== Sys2Proof/Laws/Eval.lean ====
section
/-!
SUPPORT. Forms of the long byte-string computations (memory read as a number, CRC-32C, SHAKE256) that the kernel evaluates quickly,
each proved equal to the model's own definition: every intermediate number is evaluated before the next step uses it.
-/

namespace Sys2Proof.Machine

/-- Evaluate a number before it is used. -/
def force {α : Type} (n : Nat) (k : Nat → α) : α :=
  match n with
  | 0 => k 0
  | m + 1 => k (m + 1)

@[simp] theorem force_eq {α : Type} (n : Nat) (k : Nat → α) : force n k = k n := by cases n <;> rfl

/-! Bytes. -/

theorem leBytes_append (a b x : Nat) : leBytes (a + b) x = leBytes a x ++ leBytes b (x / 256 ^ a) := by
  induction a generalizing x with
  | zero => simp [leBytes]
  | succ n ih =>
    rw [show n + 1 + b = (n + b) + 1 by omega, leBytes, leBytes, ih, Nat.pow_succ, Nat.mul_comm, ← Nat.div_div_eq_div_mul]
    rfl

theorem length_leBytes (n x : Nat) : (leBytes n x).length = n := by
  induction n generalizing x with
  | zero => rfl
  | succ n ih => simp [leBytes, ih]

theorem leNat_leBytes (n x : Nat) : leNat (leBytes n x) = x % 256 ^ n := by
  induction n generalizing x with
  | zero => simp [leBytes, leNat, Nat.mod_one]
  | succ n ih =>
    rw [leBytes, leNat, ih, Nat.pow_succ, Nat.mul_comm (256 ^ n) 256, Nat.mod_mul]
    simp

/-- The low bytes of a sum whose second part lies above them, and the bytes above. -/
theorem leBytes_join (a b x y : Nat) : leBytes a x ++ leBytes b y = leBytes (a + b) (x % 256 ^ a + 256 ^ a * y) := by
  have low (n u v : Nat) : leBytes n (u % 256 ^ n + 256 ^ n * v) = leBytes n u := by
    induction n generalizing u v with
    | zero => rfl
    | succ n ih =>
      have e : (u % 256 ^ (n + 1) + 256 ^ (n + 1) * v) = u % 256 + 256 * (u / 256 % 256 ^ n + 256 ^ n * v) := by
        rw [Nat.pow_succ, Nat.mul_comm (256 ^ n) 256, Nat.mod_mul, Nat.mul_assoc, Nat.mul_add]
        omega
      rw [e, leBytes, leBytes]
      have h1 : (u % 256 + 256 * (u / 256 % 256 ^ n + 256 ^ n * v)) / 256 = u / 256 % 256 ^ n + 256 ^ n * v := by omega
      have h2 : BitVec.ofNat 8 (u % 256 + 256 * (u / 256 % 256 ^ n + 256 ^ n * v)) = BitVec.ofNat 8 u := by
        apply BitVec.eq_of_toNat_eq
        simp only [BitVec.toNat_ofNat]
        omega
      rw [h1, h2, ih]
  rw [leBytes_append, low]
  congr 2
  rw [Nat.add_mul_div_left _ _ (Nat.pow_pos (by decide)), Nat.div_eq_of_lt (Nat.mod_lt _ (Nat.pow_pos (by decide))), Nat.zero_add]

theorem leBytes_of_list (l : List Byte) : l = leBytes l.length (leNat l) := by
  induction l with
  | nil => rfl
  | cons b t ih =>
    have h := b.isLt
    rw [List.length_cons, leBytes, leNat, show (b.toNat + 256 * leNat t) / 256 = leNat t by omega, ← ih]
    congr 1
    apply BitVec.eq_of_toNat_eq
    simp only [BitVec.toNat_ofNat]
    omega

/-- Length and number of strings joined in order. -/
def joined {α : Type} (len val : α → Nat) : List α → Nat × Nat
  | [] => (0, 0)
  | x :: t => (len x + (joined len val t).1, val x % 256 ^ len x + 256 ^ len x * (joined len val t).2)

theorem flatMap_leBytes {α : Type} (len val : α → Nat) (l : List α) :
    (l.flatMap fun x => leBytes (len x) (val x)) = leBytes (joined len val l).1 (joined len val l).2 := by
  induction l with
  | nil => rfl
  | cons x t ih => rw [List.flatMap_cons, ih, leBytes_join]; rfl

/-! Memory read as a number. -/

/-- `Mem.nat`, one cell after the other. -/
def memNatEval (a n : Nat) : List Host.Cell → Nat → Nat
  | [], x => x
  | p :: t, x => force (if a ≤ p.1 && p.1 < a + n then x + p.2.toNat <<< (8 * (p.1 - a)) else x) (memNatEval a n t)

theorem memNatEval_eq (m : List Host.Cell) (a n : Nat) : Mem.nat m a n = memNatEval a n m 0 := by
  have h (m : List Host.Cell) (x : Nat) :
      m.foldl (fun x p => if a ≤ p.1 && p.1 < a + n then x + p.2.toNat <<< (8 * (p.1 - a)) else x) x = memNatEval a n m x := by
    induction m generalizing x with
    | nil => rfl
    | cons p t ih => rw [List.foldl_cons, ih, memNatEval, force_eq]
  exact h m 0

/-! CRC-32C. -/

/-- One bit into the register of CRC-32C. -/
def crcBit (r b : Nat) : Nat := (r <<< 1) % 2 ^ 32 ^^^ (0x1EDC6F41 * ((r >>> 31) % 2 ^^^ b))

/-- The register of CRC-32C over the `n` low bytes of a number. -/
def crcEval : Nat → Nat → Nat → Nat
  | 0, _, r => r
  | n + 1, x, r =>
    force (x % 256) fun b => force (crcBit r (b % 2)) fun r => force (crcBit r (b / 2 % 2)) fun r => force (crcBit r (b / 4 % 2)) fun r =>
    force (crcBit r (b / 8 % 2)) fun r => force (crcBit r (b / 16 % 2)) fun r => force (crcBit r (b / 32 % 2)) fun r =>
    force (crcBit r (b / 64 % 2)) fun r => force (crcBit r (b / 128 % 2)) fun r => force (x / 256) fun y => crcEval n y r

theorem crcBit_eq (r : Nat) (b : Bool) : crc32cCfg.bit r b = crcBit r b.toNat := by
  have h : (r >>> 31) % 2 = 0 ∨ (r >>> 31) % 2 = 1 := Nat.mod_two_eq_zero_or_one _
  unfold crcBit CrcCfg.bit bitAt
  rcases h with h | h <;> cases b <;> simp [crc32cCfg, h]

theorem reflect_bits : ∀ b : Fin 256, ∀ i : Fin 8, (bitAt (reflect 8 b.val) (7 - i.val)).toNat = b.val / 2 ^ i.val % 2 := by
  decide +kernel

theorem crcByte_eq (r : Nat) (x : Byte) :
    crc32cCfg.byte r x = [1, 2, 4, 8, 16, 32, 64, 128].foldl (fun r k => crcBit r (x.toNat / k % 2)) r := by
  have h (i : Fin 8) := reflect_bits ⟨x.toNat, x.isLt⟩ i
  simp only [CrcCfg.byte, crcBit_eq, List.foldl_cons, List.foldl_nil]
  have h0 : (bitAt (reflect 8 x.toNat) 7).toNat = x.toNat / 1 % 2 := h 0
  have h1 : (bitAt (reflect 8 x.toNat) 6).toNat = x.toNat / 2 % 2 := h 1
  have h2 : (bitAt (reflect 8 x.toNat) 5).toNat = x.toNat / 4 % 2 := h 2
  have h3 : (bitAt (reflect 8 x.toNat) 4).toNat = x.toNat / 8 % 2 := h 3
  have h4 : (bitAt (reflect 8 x.toNat) 3).toNat = x.toNat / 16 % 2 := h 4
  have h5 : (bitAt (reflect 8 x.toNat) 2).toNat = x.toNat / 32 % 2 := h 5
  have h6 : (bitAt (reflect 8 x.toNat) 1).toNat = x.toNat / 64 % 2 := h 6
  have h7 : (bitAt (reflect 8 x.toNat) 0).toNat = x.toNat / 128 % 2 := h 7
  simp only [show crc32cCfg.refin = true from rfl, cond_true, h0, h1, h2, h3, h4, h5, h6, h7]

theorem crcEval_eq (n x : Nat) : crc32c (leBytes n x) = crc32cCfg.check (crcEval n x crc32cCfg.init) := by
  have h (n x r : Nat) : crc32cCfg.fold r (leBytes n x) = crcEval n x r := by
    induction n generalizing x r with
    | zero => rfl
    | succ n ih =>
      rw [leBytes, show ∀ (b : Byte) (l : List Byte),
        crc32cCfg.fold r (b :: l) = crc32cCfg.fold (crc32cCfg.byte r b) l from fun _ _ => rfl, ih, crcByte_eq]
      simp [crcEval, Nat.div_one]
  rw [crc32c, h]

/-! SHAKE256. -/

/-- A function of the 25 lanes. -/
abbrev Lanes25 (α : Type) : Type := (
    b0 b1 b2 b3 b4 b5 b6 b7 b8 b9 b10 b11 b12 b13 b14 b15 b16 b17 b18 b19 b20 b21 b22 b23 b24 : Nat) → α

def Lanes25.of {α : Type} (k : List Nat → α) : Lanes25 α := fun
    b0 b1 b2 b3 b4 b5 b6 b7 b8 b9 b10 b11 b12 b13 b14 b15 b16 b17 b18 b19 b20 b21 b22 b23 b24 =>
  k [
    b0, b1, b2, b3, b4, b5, b6, b7, b8, b9, b10, b11, b12, b13, b14, b15, b16, b17, b18, b19, b20, b21, b22, b23, b24]

/-- One round on 25 lanes, each result evaluated before the next. -/
def lanes25Round {α : Type} (rc : Nat) (k : Lanes25 α) : Lanes25 α := fun
    b0 b1 b2 b3 b4 b5 b6 b7 b8 b9 b10 b11 b12 b13 b14 b15 b16 b17 b18 b19 b20 b21 b22 b23 b24 =>
  force (b0 ^^^ b5 ^^^ b10 ^^^ b15 ^^^ b20) fun c0 => force (b1 ^^^ b6 ^^^ b11 ^^^ b16 ^^^ b21) fun c1 =>
  force (b2 ^^^ b7 ^^^ b12 ^^^ b17 ^^^ b22) fun c2 => force (b3 ^^^ b8 ^^^ b13 ^^^ b18 ^^^ b23) fun c3 =>
  force (b4 ^^^ b9 ^^^ b14 ^^^ b19 ^^^ b24) fun c4 => force (c4 ^^^ rotl64 c1 1) fun d0 => force (c0 ^^^ rotl64 c2 1) fun d1 =>
  force (c1 ^^^ rotl64 c3 1) fun d2 => force (c2 ^^^ rotl64 c4 1) fun d3 => force (c3 ^^^ rotl64 c0 1) fun d4 =>
  force (rotl64 (b0 ^^^ d0) 0) fun r0 => force (rotl64 (b6 ^^^ d1) 44) fun r1 => force (rotl64 (b12 ^^^ d2) 43) fun r2 =>
  force (rotl64 (b18 ^^^ d3) 21) fun r3 => force (rotl64 (b24 ^^^ d4) 14) fun r4 => force (rotl64 (b3 ^^^ d3) 28) fun r5 =>
  force (rotl64 (b9 ^^^ d4) 20) fun r6 => force (rotl64 (b10 ^^^ d0) 3) fun r7 => force (rotl64 (b16 ^^^ d1) 45) fun r8 =>
  force (rotl64 (b22 ^^^ d2) 61) fun r9 => force (rotl64 (b1 ^^^ d1) 1) fun r10 => force (rotl64 (b7 ^^^ d2) 6) fun r11 =>
  force (rotl64 (b13 ^^^ d3) 25) fun r12 => force (rotl64 (b19 ^^^ d4) 8) fun r13 => force (rotl64 (b20 ^^^ d0) 18) fun r14 =>
  force (rotl64 (b4 ^^^ d4) 27) fun r15 => force (rotl64 (b5 ^^^ d0) 36) fun r16 => force (rotl64 (b11 ^^^ d1) 10) fun r17 =>
  force (rotl64 (b17 ^^^ d2) 15) fun r18 => force (rotl64 (b23 ^^^ d3) 56) fun r19 => force (rotl64 (b2 ^^^ d2) 62) fun r20 =>
  force (rotl64 (b8 ^^^ d3) 55) fun r21 => force (rotl64 (b14 ^^^ d4) 39) fun r22 => force (rotl64 (b15 ^^^ d0) 41) fun r23 =>
  force (rotl64 (b21 ^^^ d1) 2) fun r24 => force ((r0 ^^^ ((r1 ^^^ (2 ^ 64 - 1)) &&& r2)) ^^^ rc) fun e0 =>
  force (r1 ^^^ ((r2 ^^^ (2 ^ 64 - 1)) &&& r3)) fun e1 => force (r2 ^^^ ((r3 ^^^ (2 ^ 64 - 1)) &&& r4)) fun e2 =>
  force (r3 ^^^ ((r4 ^^^ (2 ^ 64 - 1)) &&& r0)) fun e3 => force (r4 ^^^ ((r0 ^^^ (2 ^ 64 - 1)) &&& r1)) fun e4 =>
  force (r5 ^^^ ((r6 ^^^ (2 ^ 64 - 1)) &&& r7)) fun e5 => force (r6 ^^^ ((r7 ^^^ (2 ^ 64 - 1)) &&& r8)) fun e6 =>
  force (r7 ^^^ ((r8 ^^^ (2 ^ 64 - 1)) &&& r9)) fun e7 => force (r8 ^^^ ((r9 ^^^ (2 ^ 64 - 1)) &&& r5)) fun e8 =>
  force (r9 ^^^ ((r5 ^^^ (2 ^ 64 - 1)) &&& r6)) fun e9 => force (r10 ^^^ ((r11 ^^^ (2 ^ 64 - 1)) &&& r12)) fun e10 =>
  force (r11 ^^^ ((r12 ^^^ (2 ^ 64 - 1)) &&& r13)) fun e11 => force (r12 ^^^ ((r13 ^^^ (2 ^ 64 - 1)) &&& r14)) fun e12 =>
  force (r13 ^^^ ((r14 ^^^ (2 ^ 64 - 1)) &&& r10)) fun e13 => force (r14 ^^^ ((r10 ^^^ (2 ^ 64 - 1)) &&& r11)) fun e14 =>
  force (r15 ^^^ ((r16 ^^^ (2 ^ 64 - 1)) &&& r17)) fun e15 => force (r16 ^^^ ((r17 ^^^ (2 ^ 64 - 1)) &&& r18)) fun e16 =>
  force (r17 ^^^ ((r18 ^^^ (2 ^ 64 - 1)) &&& r19)) fun e17 => force (r18 ^^^ ((r19 ^^^ (2 ^ 64 - 1)) &&& r15)) fun e18 =>
  force (r19 ^^^ ((r15 ^^^ (2 ^ 64 - 1)) &&& r16)) fun e19 => force (r20 ^^^ ((r21 ^^^ (2 ^ 64 - 1)) &&& r22)) fun e20 =>
  force (r21 ^^^ ((r22 ^^^ (2 ^ 64 - 1)) &&& r23)) fun e21 => force (r22 ^^^ ((r23 ^^^ (2 ^ 64 - 1)) &&& r24)) fun e22 =>
  force (r23 ^^^ ((r24 ^^^ (2 ^ 64 - 1)) &&& r20)) fun e23 => force (r24 ^^^ ((r20 ^^^ (2 ^ 64 - 1)) &&& r21)) fun e24 =>
  k e0 e1 e2 e3 e4 e5 e6 e7 e8 e9 e10 e11 e12 e13 e14 e15 e16 e17 e18 e19 e20 e21 e22 e23 e24

theorem lanes25Round_of {α : Type} (rc : Nat) (k : List Nat → α) :
    lanes25Round rc (Lanes25.of k) = Lanes25.of fun l => k (keccakRound l rc) := by
  funext
    b0 b1 b2 b3 b4 b5 b6 b7 b8 b9 b10 b11 b12 b13 b14 b15 b16 b17 b18 b19 b20 b21 b22 b23 b24
  simp only [lanes25Round, force_eq, Lanes25.of]
  rfl

/-- Keccak-f[1600] on 25 lanes. -/
def lanes25Perm {α : Type} (k : Lanes25 α) : Lanes25 α :=
  lanes25Round 0x0000000000000001 (lanes25Round 0x0000000000008082 (lanes25Round 0x800000000000808A (lanes25Round
  0x8000000080008000 (lanes25Round 0x000000000000808B (lanes25Round 0x0000000080000001 (lanes25Round 0x8000000080008081
  (lanes25Round 0x8000000000008009 (lanes25Round 0x000000000000008A (lanes25Round 0x0000000000000088 (lanes25Round
  0x0000000080008009 (lanes25Round 0x000000008000000A (lanes25Round 0x000000008000808B (lanes25Round 0x800000000000008B
  (lanes25Round 0x8000000000008089 (lanes25Round 0x8000000000008003 (lanes25Round 0x8000000000008002 (lanes25Round
  0x8000000000000080 (lanes25Round 0x000000000000800A (lanes25Round 0x800000008000000A (lanes25Round 0x8000000080008081
  (lanes25Round 0x8000000000008080 (lanes25Round 0x0000000080000001 (lanes25Round 0x8000000080008008 k)))))))))))))))))))))))

theorem lanes25Perm_of {α : Type} (k : List Nat → α) : lanes25Perm (Lanes25.of k) = Lanes25.of fun l => k (keccakF l) := by
  simp only [lanes25Perm, lanes25Round_of]
  rfl

/-- Absorb a block given as a number. -/
def absorbEval (a : List Nat) (n : Nat) : List Nat :=
  match a with
  | [
    b0, b1, b2, b3, b4, b5, b6, b7, b8, b9, b10, b11, b12, b13, b14, b15, b16, b17, b18, b19, b20, b21, b22, b23, b24] =>
    force n fun n => lanes25Perm (Lanes25.of id)
      (b0 ^^^ bits n 0 64) (b1 ^^^ bits n 64 64) (b2 ^^^ bits n 128 64) (b3 ^^^ bits n 192 64) (b4 ^^^ bits n 256 64)
      (b5 ^^^ bits n 320 64) (b6 ^^^ bits n 384 64) (b7 ^^^ bits n 448 64) (b8 ^^^ bits n 512 64) (b9 ^^^ bits n 576 64)
      (b10 ^^^ bits n 640 64) (b11 ^^^ bits n 704 64) (b12 ^^^ bits n 768 64) (b13 ^^^ bits n 832 64) (b14 ^^^ bits n 896 64)
      (b15 ^^^ bits n 960 64) (b16 ^^^ bits n 1024 64) b17 b18 b19 b20 b21 b22 b23 b24
  | a => keccakF (a.zipIdx.map fun p => if p.2 < 17 then p.1 ^^^ bits n (64 * p.2) 64 else p.1)

theorem absorbEval_eq (a : List Nat) (block : List Byte) : absorb a block = absorbEval a (leNat block) := by
  unfold absorbEval
  split
  · rw [force_eq, lanes25Perm_of, absorb]
    generalize keccakF = f
    rfl
  · rfl

/-- Absorb `k` blocks given as one number. -/
def absorbAllEval : Nat → Nat → List Nat → List Nat
  | 0, _, a => a
  | k + 1, x, a => force (x / 256 ^ 136) fun y => absorbAllEval k y (absorbEval a (x % 256 ^ 136))

theorem absorbAllEval_eq (k x : Nat) (a : List Nat) : absorbAll k a (leBytes (136 * k) x) = absorbAllEval k x a := by
  induction k generalizing x a with
  | zero => rfl
  | succ k ih =>
    rw [show 136 * (k + 1) = 136 + 136 * k by omega, leBytes_append, absorbAll, absorbAllEval, force_eq, shakeRate,
      List.take_left' (length_leBytes _ _), List.drop_left' (length_leBytes _ _), ih, absorbEval_eq, leNat_leBytes]

/-- SHAKE256 of the `n` low bytes of a number, where at least two bytes of padding follow. -/
theorem shake256_eval (out n k x : Nat) (h : n + 2 ≤ 136 * k) (hk : 136 * k ≤ n + 136) :
    shake256 out (leBytes n x) = leBytes out (packFast 64
      (absorbAllEval k (x % 256 ^ n + 256 ^ n * (0x1F + 256 ^ (136 * k - n - 1) * 0x80)) (List.replicate 25 0))) := by
  have hm : 136 - n % 136 = 136 * k - n := by omega
  have hz (j : Nat) : List.replicate j 0#8 = leBytes j 0 := by
    induction j with
    | zero => rfl
    | succ j ih => rw [List.replicate_succ, ih]; rfl
  have hp : shakePad (leBytes n x) = leBytes (136 * k) (x % 256 ^ n + 256 ^ n * (0x1F + 256 ^ (136 * k - n - 1) * 0x80)) := by
    unfold shakePad
    rw [length_leBytes, show shakeRate = 136 from rfl, hm]
    simp only [show ¬ (136 * k - n = 1) by omega, if_false]
    rw [hz, show [0x1F#8] = leBytes 1 0x1F from rfl, show [0x80#8] = leBytes 1 0x80 from rfl, leBytes_join, leBytes_join, leBytes_join]
    have hl : n + 1 + (136 * k - n - 2) + 1 = 136 * k := by omega
    rw [hl]
    congr 1
    have e1 : (x % 256 ^ n + 256 ^ n * 0x1F) < 256 ^ (n + 1) := by
      have := Nat.mod_lt x (show 0 < 256 ^ n from Nat.pow_pos (by decide))
      rw [Nat.pow_succ]
      omega
    have e2 : (x % 256 ^ n + 256 ^ n * 0x1F) % 256 ^ (n + 1) = x % 256 ^ n + 256 ^ n * 0x1F := Nat.mod_eq_of_lt e1
    have e3 : (x % 256 ^ n + 256 ^ n * 0x1F) < 256 ^ (n + 1 + (136 * k - n - 2)) :=
      Nat.lt_of_lt_of_le e1 (Nat.pow_le_pow_right (by decide) (by omega))
    rw [Nat.mul_zero, Nat.add_zero, e2, Nat.mod_eq_of_lt e3, Nat.mul_add, Nat.add_assoc]
    congr 2
    rw [← Nat.mul_assoc, ← Nat.pow_add]
    congr 2
    omega
  unfold shake256
  simp only [hp, length_leBytes, show shakeRate = 136 from rfl]
  rw [show 136 * k / 136 = k by omega, absorbAllEval_eq]

end Sys2Proof.Machine
end

