-- ==== Sys2Proof/Laws/State.lean ====
section
/-!
SUPPORT. Laws of the state: sparse maps, register fields, banks and bytes read back what was written and nothing else changes;
what each elementary update does to each part of the state; what an act does, piece by piece.
-/

namespace Sys2Proof.Machine

/-! Sparse maps. -/

theorem Map.find_insert_self (m : Map) (k v d : Nat) : (m.insert k v).find k d = v := by
  induction m with
  | nil => simp [Map.insert, Map.find]
  | cons p t ih =>
    obtain ⟨k', v'⟩ := p
    simp only [Map.insert]
    split
    · simp [Map.find]
    · split
      · simp [Map.find]
      · rename_i h; simp [Map.find, Ne.symm h, ih]

theorem Map.find_insert_ne (m : Map) {k j : Nat} (h : k ≠ j) (v d : Nat) : (m.insert k v).find j d = m.find j d := by
  induction m with
  | nil => simp [Map.insert, Map.find, h]
  | cons p t ih =>
    obtain ⟨k', v'⟩ := p
    simp only [Map.insert]
    split
    · simp [Map.find, h]
    · split
      · rename_i e; subst e; simp [Map.find, h]
      · simp [Map.find, ih]

theorem Map.find_erase_self (m : Map) (k d : Nat) : (m.erase k).find k d = d := by
  induction m with
  | nil => rfl
  | cons p t ih =>
    obtain ⟨k', v'⟩ := p
    by_cases h : k' = k
    · subst h; simpa [Map.erase] using ih
    · simp only [Map.erase, ne_eq, List.filter_cons, h, not_false_eq_true, decide_true, if_true, Map.find, if_false]
      exact ih

theorem Map.find_erase_ne (m : Map) {k j : Nat} (h : k ≠ j) (d : Nat) : (m.erase k).find j d = m.find j d := by
  induction m with
  | nil => rfl
  | cons p t ih =>
    obtain ⟨k', v'⟩ := p
    by_cases e : k' = k
    · subst e; simpa [Map.erase, Map.find, h] using ih
    · simp only [Map.erase, ne_eq, List.filter_cons, e, not_false_eq_true, decide_true, if_true, Map.find]
      split
      · rfl
      · exact ih

theorem Map.find_put_self (m : Map) (k v d : Nat) : (m.put k v d).find k d = v := by
  unfold Map.put
  split
  · rename_i h; rw [Map.find_erase_self, h]
  · exact Map.find_insert_self m k v d

theorem Map.find_put_ne (m : Map) {k j : Nat} (h : k ≠ j) (v d d' : Nat) : (m.put k v d).find j d' = m.find j d' := by
  unfold Map.put
  split
  · exact Map.find_erase_ne m h d'
  · exact Map.find_insert_ne m h v d'

/-! Bytes of memory. -/

theorem Mem.read_insert (m : List Host.Cell) (a c : Nat) (b : Byte) :
    Mem.read (Mem.insert m a b) c = if a = c then b else Mem.read m c := by
  induction m with
  | nil => simp [Mem.insert, Mem.read]
  | cons p t ih =>
    obtain ⟨a', b'⟩ := p
    simp only [Mem.insert]
    split
    · simp [Mem.read]
    · split
      · rename_i e; subst e; simp only [Mem.read]; split <;> rfl
      · rename_i h; simp only [Mem.read, ih]
        by_cases e : a' = c
        · subst e; simp [h]
        · simp [e]

theorem Mem.read_erase (m : List Host.Cell) (a c : Nat) :
    Mem.read (m.filter fun p => p.1 ≠ a) c = if a = c then 0#8 else Mem.read m c := by
  induction m with
  | nil => simp [Mem.read]
  | cons p t ih =>
    obtain ⟨a', b'⟩ := p
    by_cases e : a' = a
    · subst e
      rw [List.filter_cons_of_neg (by simp), ih]
      simp only [Mem.read]; split <;> rfl
    · rw [List.filter_cons_of_pos (by simpa using e)]
      simp only [Mem.read, ih]
      by_cases h : a' = c
      · subst h; simp [Ne.symm e]
      · simp [h]

/-- A byte reads as it was written, and every other byte as before. -/
theorem Mem.read_write (m : List Host.Cell) (a c : Nat) (b : Byte) :
    Mem.read (Mem.write m a b) c = if a = c then b else Mem.read m c := by
  unfold Mem.write
  split
  · rename_i h; subst h; exact Mem.read_erase m a c
  · exact Mem.read_insert m a c b

theorem Mem.read_clear (m : List Host.Cell) (lo hi c : Nat) :
    Mem.read (m.filter fun p => !(lo ≤ p.1 && p.1 < hi)) c = if lo ≤ c ∧ c < hi then 0#8 else Mem.read m c := by
  induction m with
  | nil => simp [Mem.read]
  | cons p t ih =>
    obtain ⟨a', b'⟩ := p
    by_cases e : lo ≤ a' ∧ a' < hi
    · rw [List.filter_cons_of_neg (by simp [e]), ih]
      simp only [Mem.read]
      by_cases h : a' = c
      · subst h; simp [e]
      · simp [h]
    · rw [List.filter_cons_of_pos (by simp; omega)]
      simp only [Mem.read, ih]
      by_cases h : a' = c
      · subst h; simp [e]
      · simp [h]

/-! Fields, banks and bytes of the state. -/

@[simp] theorem State.get_set_self (s : State) (f : Field) (v : Nat) : (s.set f v).get f = v % 2 ^ f.width := by
  simp [State.get, State.set, Map.find_put_self]

theorem State.get_set_ne (s : State) {f g : Field} (h : f.key ≠ g.key) (v : Nat) : (s.set f v).get g = s.get g := by
  simp [State.get, State.set, Map.find_put_ne _ h]

/-- Another bank keeps its contents: for the first 35 banks, then for the rest. -/
theorem State.bank_withBank_low (s : State) {b c : Bank} (m : Map) (h : b ≠ c) (k : b.ctorIdx < 35) :
    (s.withBank b m).bank c = s.bank c := by
  cases b <;> first
    | exact absurd k (Nat.not_lt_of_le (Nat.le_of_ble_eq_true rfl))
    | (cases c <;> first | rfl | exact absurd rfl h)

theorem State.bank_withBank_high (s : State) {b c : Bank} (m : Map) (h : b ≠ c) (k : 35 ≤ b.ctorIdx) :
    (s.withBank b m).bank c = s.bank c := by
  cases b <;> first
    | exact absurd k (Nat.not_le_of_lt (Nat.le_of_ble_eq_true rfl))
    | (cases c <;> first | rfl | exact absurd rfl h)

@[simp] theorem State.bank_withBank (s : State) (b c : Bank) (m : Map) :
    (s.withBank b m).bank c = if b = c then m else s.bank c := by
  split
  · rename_i h; subst h; cases b <;> rfl
  · rename_i h
    rcases Nat.lt_or_ge b.ctorIdx 35 with k | k
    · exact s.bank_withBank_low m h k
    · exact s.bank_withBank_high m h k

@[simp] theorem State.bank_set (s : State) (f : Field) (v : Nat) (b : Bank) : (s.set f v).bank b = s.bank b := by
  cases b <;> rfl

@[simp] theorem State.rd_set (s : State) (f : Field) (v : Nat) (b : Bank) (k : Nat) : (s.set f v).rd b k = s.rd b k := by
  simp [State.rd]

@[simp] theorem State.rd_wr (s : State) (b c : Bank) (k j v : Nat) :
    (s.wr b k v).rd c j = if b = c ∧ k = j then v else s.rd c j := by
  simp only [State.rd, State.wr, State.bank_withBank]
  by_cases h : b = c
  · subst h
    by_cases e : k = j
    · subst e; simp [Map.find_put_self]
    · simp [Map.find_put_ne _ e, e]
  · simp [h]

@[simp] theorem State.byte_set (s : State) (f : Field) (v a : Nat) : (s.set f v).byte a = s.byte a := rfl

@[simp] theorem State.set_pending (s : State) (f : Field) (v : Nat) : (s.set f v).pending = s.pending := rfl
@[simp] theorem State.withBank_pending (s : State) (b : Bank) (m : Map) : (s.withBank b m).pending = s.pending := by cases b <;> rfl
@[simp] theorem State.wr_pending (s : State) (b : Bank) (k v : Nat) : (s.wr b k v).pending = s.pending := State.withBank_pending s b _
@[simp] theorem State.set_free (s : State) (f : Field) (v : Nat) : (s.set f v).free = s.free := rfl
@[simp] theorem State.withBank_free (s : State) (b : Bank) (m : Map) : (s.withBank b m).free = s.free := by cases b <;> rfl
@[simp] theorem State.wr_free (s : State) (b : Bank) (k v : Nat) : (s.wr b k v).free = s.free := State.withBank_free s b _
@[simp] theorem State.withBank_regs (s : State) (b : Bank) (m : Map) : (s.withBank b m).regs = s.regs := by cases b <;> rfl
@[simp] theorem State.set_mem (s : State) (f : Field) (v : Nat) : (s.set f v).mem = s.mem := rfl
@[simp] theorem State.withBank_mem (s : State) (b : Bank) (m : Map) : (s.withBank b m).mem = s.mem := by cases b <;> rfl
@[simp] theorem State.wr_mem (s : State) (b : Bank) (k v : Nat) : (s.wr b k v).mem = s.mem := State.withBank_mem s b _
@[simp] theorem State.set_allow (s : State) (f : Field) (v : Nat) : (s.set f v).allow = s.allow := rfl
@[simp] theorem State.withBank_allow (s : State) (b : Bank) (m : Map) : (s.withBank b m).allow = s.allow := by cases b <;> rfl
@[simp] theorem State.wr_allow (s : State) (b : Bank) (k v : Nat) : (s.wr b k v).allow = s.allow := State.withBank_allow s b _
@[simp] theorem State.set_slots (s : State) (f : Field) (v : Nat) : (s.set f v).slots = s.slots := rfl
@[simp] theorem State.withBank_slots (s : State) (b : Bank) (m : Map) : (s.withBank b m).slots = s.slots := by cases b <;> rfl
@[simp] theorem State.wr_slots (s : State) (b : Bank) (k v : Nat) : (s.wr b k v).slots = s.slots := State.withBank_slots s b _
@[simp] theorem State.set_progs (s : State) (f : Field) (v : Nat) : (s.set f v).progs = s.progs := rfl
@[simp] theorem State.withBank_progs (s : State) (b : Bank) (m : Map) : (s.withBank b m).progs = s.progs := by cases b <;> rfl
@[simp] theorem State.wr_progs (s : State) (b : Bank) (k v : Nat) : (s.wr b k v).progs = s.progs := State.withBank_progs s b _
@[simp] theorem State.set_regions (s : State) (f : Field) (v : Nat) : (s.set f v).regions = s.regions := rfl
@[simp] theorem State.withBank_regions (s : State) (b : Bank) (m : Map) : (s.withBank b m).regions = s.regions := by cases b <;> rfl
@[simp] theorem State.wr_regions (s : State) (b : Bank) (k v : Nat) : (s.wr b k v).regions = s.regions := State.withBank_regions s b _
@[simp] theorem State.set_insts (s : State) (f : Field) (v : Nat) : (s.set f v).insts = s.insts := rfl
@[simp] theorem State.withBank_insts (s : State) (b : Bank) (m : Map) : (s.withBank b m).insts = s.insts := by cases b <;> rfl
@[simp] theorem State.wr_insts (s : State) (b : Bank) (k v : Nat) : (s.wr b k v).insts = s.insts := State.withBank_insts s b _
@[simp] theorem State.set_waitMsgs (s : State) (f : Field) (v : Nat) : (s.set f v).waitMsgs = s.waitMsgs := rfl
@[simp] theorem State.withBank_waitMsgs (s : State) (b : Bank) (m : Map) : (s.withBank b m).waitMsgs = s.waitMsgs := by cases b <;> rfl
@[simp] theorem State.wr_waitMsgs (s : State) (b : Bank) (k v : Nat) : (s.wr b k v).waitMsgs = s.waitMsgs := State.withBank_waitMsgs s b _
@[simp] theorem State.set_vsyCells (s : State) (f : Field) (v : Nat) : (s.set f v).vsyCells = s.vsyCells := rfl
@[simp] theorem State.withBank_vsyCells (s : State) (b : Bank) (m : Map) : (s.withBank b m).vsyCells = s.vsyCells := by cases b <;> rfl
@[simp] theorem State.wr_vsyCells (s : State) (b : Bank) (k v : Nat) : (s.wr b k v).vsyCells = s.vsyCells := State.withBank_vsyCells s b _
@[simp] theorem State.set_sentCounts (s : State) (f : Field) (v : Nat) : (s.set f v).sentCounts = s.sentCounts := rfl
@[simp] theorem State.withBank_sentCounts (s : State) (b : Bank) (m : Map) : (s.withBank b m).sentCounts = s.sentCounts := by cases b <;> rfl
@[simp] theorem State.wr_sentCounts (s : State) (b : Bank) (k v : Nat) : (s.wr b k v).sentCounts = s.sentCounts := State.withBank_sentCounts s b _
@[simp] theorem State.set_takenCounts (s : State) (f : Field) (v : Nat) : (s.set f v).takenCounts = s.takenCounts := rfl
@[simp] theorem State.withBank_takenCounts (s : State) (b : Bank) (m : Map) : (s.withBank b m).takenCounts = s.takenCounts := by cases b <;> rfl
@[simp] theorem State.wr_takenCounts (s : State) (b : Bank) (k v : Nat) : (s.wr b k v).takenCounts = s.takenCounts := State.withBank_takenCounts s b _
@[simp] theorem State.set_exacts (s : State) (f : Field) (v : Nat) : (s.set f v).exacts = s.exacts := rfl
@[simp] theorem State.withBank_exacts (s : State) (b : Bank) (m : Map) : (s.withBank b m).exacts = s.exacts := by cases b <;> rfl
@[simp] theorem State.wr_exacts (s : State) (b : Bank) (k v : Nat) : (s.wr b k v).exacts = s.exacts := State.withBank_exacts s b _
@[simp] theorem State.set_earlyAborts (s : State) (f : Field) (v : Nat) : (s.set f v).earlyAborts = s.earlyAborts := rfl
@[simp] theorem State.withBank_earlyAborts (s : State) (b : Bank) (m : Map) : (s.withBank b m).earlyAborts = s.earlyAborts := by cases b <;> rfl
@[simp] theorem State.wr_earlyAborts (s : State) (b : Bank) (k v : Nat) : (s.wr b k v).earlyAborts = s.earlyAborts := State.withBank_earlyAborts s b _
@[simp] theorem State.set_passes (s : State) (f : Field) (v : Nat) : (s.set f v).passes = s.passes := rfl
@[simp] theorem State.withBank_passes (s : State) (b : Bank) (m : Map) : (s.withBank b m).passes = s.passes := by cases b <;> rfl
@[simp] theorem State.wr_passes (s : State) (b : Bank) (k v : Nat) : (s.wr b k v).passes = s.passes := State.withBank_passes s b _
@[simp] theorem State.set_commitCells (s : State) (f : Field) (v : Nat) : (s.set f v).commitCells = s.commitCells := rfl
@[simp] theorem State.withBank_commitCells (s : State) (b : Bank) (m : Map) : (s.withBank b m).commitCells = s.commitCells := by cases b <;> rfl
@[simp] theorem State.wr_commitCells (s : State) (b : Bank) (k v : Nat) : (s.wr b k v).commitCells = s.commitCells := State.withBank_commitCells s b _
@[simp] theorem State.set_enters (s : State) (f : Field) (v : Nat) : (s.set f v).enters = s.enters := rfl
@[simp] theorem State.withBank_enters (s : State) (b : Bank) (m : Map) : (s.withBank b m).enters = s.enters := by cases b <;> rfl
@[simp] theorem State.wr_enters (s : State) (b : Bank) (k v : Nat) : (s.wr b k v).enters = s.enters := State.withBank_enters s b _
@[simp] theorem State.set_detours (s : State) (f : Field) (v : Nat) : (s.set f v).detours = s.detours := rfl
@[simp] theorem State.withBank_detours (s : State) (b : Bank) (m : Map) : (s.withBank b m).detours = s.detours := by cases b <;> rfl
@[simp] theorem State.wr_detours (s : State) (b : Bank) (k v : Nat) : (s.wr b k v).detours = s.detours := State.withBank_detours s b _
@[simp] theorem State.set_coords (s : State) (f : Field) (v : Nat) : (s.set f v).coords = s.coords := rfl
@[simp] theorem State.withBank_coords (s : State) (b : Bank) (m : Map) : (s.withBank b m).coords = s.coords := by cases b <;> rfl
@[simp] theorem State.wr_coords (s : State) (b : Bank) (k v : Nat) : (s.wr b k v).coords = s.coords := State.withBank_coords s b _
@[simp] theorem State.set_failed (s : State) (f : Field) (v : Nat) : (s.set f v).failed = s.failed := rfl
@[simp] theorem State.withBank_failed (s : State) (b : Bank) (m : Map) : (s.withBank b m).failed = s.failed := by cases b <;> rfl
@[simp] theorem State.wr_failed (s : State) (b : Bank) (k v : Nat) : (s.wr b k v).failed = s.failed := State.withBank_failed s b _
@[simp] theorem State.set_marks (s : State) (f : Field) (v : Nat) : (s.set f v).marks = s.marks := rfl
@[simp] theorem State.withBank_marks (s : State) (b : Bank) (m : Map) : (s.withBank b m).marks = s.marks := by cases b <;> rfl
@[simp] theorem State.wr_marks (s : State) (b : Bank) (k v : Nat) : (s.wr b k v).marks = s.marks := State.withBank_marks s b _
@[simp] theorem State.set_vecs (s : State) (f : Field) (v : Nat) : (s.set f v).vecs = s.vecs := rfl
@[simp] theorem State.withBank_vecs (s : State) (b : Bank) (m : Map) : (s.withBank b m).vecs = s.vecs := by cases b <;> rfl
@[simp] theorem State.wr_vecs (s : State) (b : Bank) (k v : Nat) : (s.wr b k v).vecs = s.vecs := State.withBank_vecs s b _
@[simp] theorem State.set_desks (s : State) (f : Field) (v : Nat) : (s.set f v).desks = s.desks := rfl
@[simp] theorem State.withBank_desks (s : State) (b : Bank) (m : Map) : (s.withBank b m).desks = s.desks := by cases b <;> rfl
@[simp] theorem State.wr_desks (s : State) (b : Bank) (k v : Nat) : (s.wr b k v).desks = s.desks := State.withBank_desks s b _
@[simp] theorem State.set_period (s : State) (f : Field) (v : Nat) : (s.set f v).period = s.period := rfl
@[simp] theorem State.withBank_period (s : State) (b : Bank) (m : Map) : (s.withBank b m).period = s.period := by cases b <;> rfl
@[simp] theorem State.wr_period (s : State) (b : Bank) (k v : Nat) : (s.wr b k v).period = s.period := State.withBank_period s b _
@[simp] theorem State.set_supply (s : State) (f : Field) (v : Nat) : (s.set f v).supply = s.supply := rfl
@[simp] theorem State.withBank_supply (s : State) (b : Bank) (m : Map) : (s.withBank b m).supply = s.supply := by cases b <;> rfl
@[simp] theorem State.wr_supply (s : State) (b : Bank) (k v : Nat) : (s.wr b k v).supply = s.supply := State.withBank_supply s b _
@[simp] theorem State.set_selLate (s : State) (f : Field) (v : Nat) : (s.set f v).selLate = s.selLate := rfl
@[simp] theorem State.withBank_selLate (s : State) (b : Bank) (m : Map) : (s.withBank b m).selLate = s.selLate := by cases b <;> rfl
@[simp] theorem State.wr_selLate (s : State) (b : Bank) (k v : Nat) : (s.wr b k v).selLate = s.selLate := State.withBank_selLate s b _
@[simp] theorem State.set_faultSeq (s : State) (f : Field) (v : Nat) : (s.set f v).faultSeq = s.faultSeq := rfl
@[simp] theorem State.withBank_faultSeq (s : State) (b : Bank) (m : Map) : (s.withBank b m).faultSeq = s.faultSeq := by cases b <;> rfl
@[simp] theorem State.wr_faultSeq (s : State) (b : Bank) (k v : Nat) : (s.wr b k v).faultSeq = s.faultSeq := State.withBank_faultSeq s b _
@[simp] theorem State.set_seed (s : State) (f : Field) (v : Nat) : (s.set f v).seed = s.seed := rfl
@[simp] theorem State.withBank_seed (s : State) (b : Bank) (m : Map) : (s.withBank b m).seed = s.seed := by cases b <;> rfl
@[simp] theorem State.wr_seed (s : State) (b : Bank) (k v : Nat) : (s.wr b k v).seed = s.seed := State.withBank_seed s b _
@[simp] theorem State.set_egress (s : State) (f : Field) (v : Nat) : (s.set f v).egress = s.egress := rfl
@[simp] theorem State.withBank_egress (s : State) (b : Bank) (m : Map) : (s.withBank b m).egress = s.egress := by cases b <;> rfl
@[simp] theorem State.wr_egress (s : State) (b : Bank) (k v : Nat) : (s.wr b k v).egress = s.egress := State.withBank_egress s b _
@[simp] theorem State.set_rxBuf (s : State) (f : Field) (v : Nat) : (s.set f v).rxBuf = s.rxBuf := rfl
@[simp] theorem State.withBank_rxBuf (s : State) (b : Bank) (m : Map) : (s.withBank b m).rxBuf = s.rxBuf := by cases b <;> rfl
@[simp] theorem State.wr_rxBuf (s : State) (b : Bank) (k v : Nat) : (s.wr b k v).rxBuf = s.rxBuf := State.withBank_rxBuf s b _
@[simp] theorem State.set_copies (s : State) (f : Field) (v : Nat) : (s.set f v).copies = s.copies := rfl
@[simp] theorem State.withBank_copies (s : State) (b : Bank) (m : Map) : (s.withBank b m).copies = s.copies := by cases b <;> rfl
@[simp] theorem State.wr_copies (s : State) (b : Bank) (k v : Nat) : (s.wr b k v).copies = s.copies := State.withBank_copies s b _
@[simp] theorem State.set_txq (s : State) (f : Field) (v : Nat) : (s.set f v).txq = s.txq := rfl
@[simp] theorem State.withBank_txq (s : State) (b : Bank) (m : Map) : (s.withBank b m).txq = s.txq := by cases b <;> rfl
@[simp] theorem State.wr_txq (s : State) (b : Bank) (k v : Nat) : (s.wr b k v).txq = s.txq := State.withBank_txq s b _
@[simp] theorem State.set_cellIds (s : State) (f : Field) (v : Nat) : (s.set f v).cellIds = s.cellIds := rfl
@[simp] theorem State.withBank_cellIds (s : State) (b : Bank) (m : Map) : (s.withBank b m).cellIds = s.cellIds := by cases b <;> rfl
@[simp] theorem State.wr_cellIds (s : State) (b : Bank) (k v : Nat) : (s.wr b k v).cellIds = s.cellIds := State.withBank_cellIds s b _
@[simp] theorem State.set_heldFrames (s : State) (f : Field) (v : Nat) : (s.set f v).heldFrames = s.heldFrames := rfl
@[simp] theorem State.withBank_heldFrames (s : State) (b : Bank) (m : Map) : (s.withBank b m).heldFrames = s.heldFrames := by cases b <;> rfl
@[simp] theorem State.wr_heldFrames (s : State) (b : Bank) (k v : Nat) : (s.wr b k v).heldFrames = s.heldFrames := State.withBank_heldFrames s b _
@[simp] theorem State.set_wire (s : State) (f : Field) (v : Nat) : (s.set f v).wire = s.wire := rfl
@[simp] theorem State.withBank_wire (s : State) (b : Bank) (m : Map) : (s.withBank b m).wire = s.wire := by cases b <;> rfl
@[simp] theorem State.wr_wire (s : State) (b : Bank) (k v : Nat) : (s.wr b k v).wire = s.wire := State.withBank_wire s b _
@[simp] theorem State.set_admitted (s : State) (f : Field) (v : Nat) : (s.set f v).admitted = s.admitted := rfl
@[simp] theorem State.withBank_admitted (s : State) (b : Bank) (m : Map) : (s.withBank b m).admitted = s.admitted := by cases b <;> rfl
@[simp] theorem State.wr_admitted (s : State) (b : Bank) (k v : Nat) : (s.wr b k v).admitted = s.admitted := State.withBank_admitted s b _
@[simp] theorem State.set_pcie (s : State) (f : Field) (v : Nat) : (s.set f v).pcie = s.pcie := rfl
@[simp] theorem State.withBank_pcie (s : State) (b : Bank) (m : Map) : (s.withBank b m).pcie = s.pcie := by cases b <;> rfl
@[simp] theorem State.wr_pcie (s : State) (b : Bank) (k v : Nat) : (s.wr b k v).pcie = s.pcie := State.withBank_pcie s b _
@[simp] theorem State.set_pmPmes (s : State) (f : Field) (v : Nat) : (s.set f v).pmPmes = s.pmPmes := rfl
@[simp] theorem State.withBank_pmPmes (s : State) (b : Bank) (m : Map) : (s.withBank b m).pmPmes = s.pmPmes := by cases b <;> rfl
@[simp] theorem State.wr_pmPmes (s : State) (b : Bank) (k v : Nat) : (s.wr b k v).pmPmes = s.pmPmes := State.withBank_pmPmes s b _
@[simp] theorem State.set_doeObject (s : State) (f : Field) (v : Nat) : (s.set f v).doeObject = s.doeObject := rfl
@[simp] theorem State.withBank_doeObject (s : State) (b : Bank) (m : Map) : (s.withBank b m).doeObject = s.doeObject := by cases b <;> rfl
@[simp] theorem State.wr_doeObject (s : State) (b : Bank) (k v : Nat) : (s.wr b k v).doeObject = s.doeObject := State.withBank_doeObject s b _
@[simp] theorem State.set_smb (s : State) (f : Field) (v : Nat) : (s.set f v).smb = s.smb := rfl
@[simp] theorem State.withBank_smb (s : State) (b : Bank) (m : Map) : (s.withBank b m).smb = s.smb := by cases b <;> rfl
@[simp] theorem State.wr_smb (s : State) (b : Bank) (k v : Nat) : (s.wr b k v).smb = s.smb := State.withBank_smb s b _
@[simp] theorem State.set_fwBody (s : State) (f : Field) (v : Nat) : (s.set f v).fwBody = s.fwBody := rfl
@[simp] theorem State.withBank_fwBody (s : State) (b : Bank) (m : Map) : (s.withBank b m).fwBody = s.fwBody := by cases b <;> rfl
@[simp] theorem State.wr_fwBody (s : State) (b : Bank) (k v : Nat) : (s.wr b k v).fwBody = s.fwBody := State.withBank_fwBody s b _
@[simp] theorem State.set_chestSys (s : State) (f : Field) (v : Nat) : (s.set f v).chestSys = s.chestSys := rfl
@[simp] theorem State.withBank_chestSys (s : State) (b : Bank) (m : Map) : (s.withBank b m).chestSys = s.chestSys := by cases b <;> rfl
@[simp] theorem State.wr_chestSys (s : State) (b : Bank) (k v : Nat) : (s.wr b k v).chestSys = s.chestSys := State.withBank_chestSys s b _
@[simp] theorem State.set_places (s : State) (f : Field) (v : Nat) : (s.set f v).places = s.places := rfl
@[simp] theorem State.withBank_places (s : State) (b : Bank) (m : Map) : (s.withBank b m).places = s.places := by cases b <;> rfl
@[simp] theorem State.wr_places (s : State) (b : Bank) (k v : Nat) : (s.wr b k v).places = s.places := State.withBank_places s b _
@[simp] theorem State.set_stripes (s : State) (f : Field) (v : Nat) : (s.set f v).stripes = s.stripes := rfl
@[simp] theorem State.withBank_stripes (s : State) (b : Bank) (m : Map) : (s.withBank b m).stripes = s.stripes := by cases b <;> rfl
@[simp] theorem State.wr_stripes (s : State) (b : Bank) (k v : Nat) : (s.wr b k v).stripes = s.stripes := State.withBank_stripes s b _
@[simp] theorem State.set_faultDue (s : State) (f : Field) (v : Nat) : (s.set f v).faultDue = s.faultDue := rfl
@[simp] theorem State.withBank_faultDue (s : State) (b : Bank) (m : Map) : (s.withBank b m).faultDue = s.faultDue := by cases b <;> rfl
@[simp] theorem State.wr_faultDue (s : State) (b : Bank) (k v : Nat) : (s.wr b k v).faultDue = s.faultDue := State.withBank_faultDue s b _
@[simp] theorem State.set_fibre (s : State) (f : Field) (v : Nat) : (s.set f v).fibre = s.fibre := rfl
@[simp] theorem State.withBank_fibre (s : State) (b : Bank) (m : Map) : (s.withBank b m).fibre = s.fibre := by cases b <;> rfl
@[simp] theorem State.wr_fibre (s : State) (b : Bank) (k v : Nat) : (s.wr b k v).fibre = s.fibre := State.withBank_fibre s b _
@[simp] theorem State.set_notices (s : State) (f : Field) (v : Nat) : (s.set f v).notices = s.notices := rfl
@[simp] theorem State.withBank_notices (s : State) (b : Bank) (m : Map) : (s.withBank b m).notices = s.notices := by cases b <;> rfl
@[simp] theorem State.wr_notices (s : State) (b : Bank) (k v : Nat) : (s.wr b k v).notices = s.notices := State.withBank_notices s b _
@[simp] theorem State.set_inflight (s : State) (f : Field) (v : Nat) : (s.set f v).inflight = s.inflight := rfl
@[simp] theorem State.withBank_inflight (s : State) (b : Bank) (m : Map) : (s.withBank b m).inflight = s.inflight := by cases b <;> rfl
@[simp] theorem State.wr_inflight (s : State) (b : Bank) (k v : Nat) : (s.wr b k v).inflight = s.inflight := State.withBank_inflight s b _
@[simp] theorem State.set_hostOut (s : State) (f : Field) (v : Nat) : (s.set f v).hostOut = s.hostOut := rfl
@[simp] theorem State.withBank_hostOut (s : State) (b : Bank) (m : Map) : (s.withBank b m).hostOut = s.hostOut := by cases b <;> rfl
@[simp] theorem State.wr_hostOut (s : State) (b : Bank) (k v : Nat) : (s.wr b k v).hostOut = s.hostOut := State.withBank_hostOut s b _
@[simp] theorem State.set_msix (s : State) (f : Field) (v : Nat) : (s.set f v).msix = s.msix := rfl
@[simp] theorem State.withBank_msix (s : State) (b : Bank) (m : Map) : (s.withBank b m).msix = s.msix := by cases b <;> rfl
@[simp] theorem State.wr_msix (s : State) (b : Bank) (k v : Nat) : (s.wr b k v).msix = s.msix := State.withBank_msix s b _
@[simp] theorem State.set_readOut (s : State) (f : Field) (v : Nat) : (s.set f v).readOut = s.readOut := rfl
@[simp] theorem State.withBank_readOut (s : State) (b : Bank) (m : Map) : (s.withBank b m).readOut = s.readOut := by cases b <;> rfl
@[simp] theorem State.wr_readOut (s : State) (b : Bank) (k v : Nat) : (s.wr b k v).readOut = s.readOut := State.withBank_readOut s b _
@[simp] theorem State.set_doe (s : State) (f : Field) (v : Nat) : (s.set f v).doe = s.doe := rfl
@[simp] theorem State.withBank_doe (s : State) (b : Bank) (m : Map) : (s.withBank b m).doe = s.doe := by cases b <;> rfl
@[simp] theorem State.wr_doe (s : State) (b : Bank) (k v : Nat) : (s.wr b k v).doe = s.doe := State.withBank_doe s b _
@[simp] theorem State.set_chest (s : State) (f : Field) (v : Nat) : (s.set f v).chest = s.chest := rfl
@[simp] theorem State.withBank_chest (s : State) (b : Bank) (m : Map) : (s.withBank b m).chest = s.chest := by cases b <;> rfl
@[simp] theorem State.wr_chest (s : State) (b : Bank) (k v : Nat) : (s.wr b k v).chest = s.chest := State.withBank_chest s b _
@[simp] theorem State.set_bar4Log (s : State) (f : Field) (v : Nat) : (s.set f v).bar4Log = s.bar4Log := rfl
@[simp] theorem State.withBank_bar4Log (s : State) (b : Bank) (m : Map) : (s.withBank b m).bar4Log = s.bar4Log := by cases b <;> rfl
@[simp] theorem State.wr_bar4Log (s : State) (b : Bank) (k v : Nat) : (s.wr b k v).bar4Log = s.bar4Log := State.withBank_bar4Log s b _
@[simp] theorem State.set_alert (s : State) (f : Field) (v : Nat) : (s.set f v).alert = s.alert := rfl
@[simp] theorem State.withBank_alert (s : State) (b : Bank) (m : Map) : (s.withBank b m).alert = s.alert := by cases b <;> rfl
@[simp] theorem State.wr_alert (s : State) (b : Bank) (k v : Nat) : (s.wr b k v).alert = s.alert := State.withBank_alert s b _
@[simp] theorem State.set_tripped (s : State) (f : Field) (v : Nat) : (s.set f v).tripped = s.tripped := rfl
@[simp] theorem State.withBank_tripped (s : State) (b : Bank) (m : Map) : (s.withBank b m).tripped = s.tripped := by cases b <;> rfl
@[simp] theorem State.wr_tripped (s : State) (b : Bank) (k v : Nat) : (s.wr b k v).tripped = s.tripped := State.withBank_tripped s b _
@[simp] theorem State.set_wakeLow (s : State) (f : Field) (v : Nat) : (s.set f v).wakeLow = s.wakeLow := rfl
@[simp] theorem State.withBank_wakeLow (s : State) (b : Bank) (m : Map) : (s.withBank b m).wakeLow = s.wakeLow := by cases b <;> rfl
@[simp] theorem State.wr_wakeLow (s : State) (b : Bank) (k v : Nat) : (s.wr b k v).wakeLow = s.wakeLow := State.withBank_wakeLow s b _
@[simp] theorem State.set_sclkPart (s : State) (f : Field) (v : Nat) : (s.set f v).sclkPart = s.sclkPart := rfl
@[simp] theorem State.withBank_sclkPart (s : State) (b : Bank) (m : Map) : (s.withBank b m).sclkPart = s.sclkPart := by cases b <;> rfl
@[simp] theorem State.wr_sclkPart (s : State) (b : Bank) (k v : Nat) : (s.wr b k v).sclkPart = s.sclkPart := State.withBank_sclkPart s b _

@[simp] theorem State.get_wr (s : State) (b : Bank) (k v : Nat) (f : Field) : (s.wr b k v).get f = s.get f := by
  cases b <;> rfl

@[simp] theorem State.byte_wr (s : State) (b : Bank) (k v a : Nat) : (s.wr b k v).byte a = s.byte a := by
  cases b <;> rfl

/-! What an elementary update does to each part of the state. -/

@[simp] theorem Upd.apply_set (s : State) (f : Field) (v : Nat) : (Upd.set f v).apply s = s.set f v := rfl
@[simp] theorem Upd.apply_put (s : State) (b : Bank) (k v : Nat) : (Upd.put b k v).apply s = s.wr b k v := rfl

/-- Which updates write registers, banks and memory. -/
def Upd.isReg : Upd → Bool
  | .set _ _ => true
  | .resetRegs _ => true
  | _ => false

def Upd.isBank : Upd → Bool
  | .put _ _ _ => true
  | .clear _ => true
  | _ => false

def Upd.isMem : Upd → Bool
  | .poke _ _ => true
  | .zeroMem _ _ => true
  | _ => false

theorem Upd.apply_regs (u : Upd) (s : State) (h : u.isReg = false) : (u.apply s).regs = s.regs := by
  cases u with
  | set f v => simp [Upd.isReg] at h
  | resetRegs l => simp [Upd.isReg] at h
  | put b k v => exact State.withBank_regs s b _
  | clear b => exact State.withBank_regs s b _
  | _ => rfl

@[simp] theorem Upd.get_apply (u : Upd) (s : State) (f : Field) (h : u.isReg = false) : (u.apply s).get f = s.get f := by
  simp [State.get, Upd.apply_regs u s h]

/-- An update of no bank leaves the banks: for the first half of the updates, then for the rest. -/
theorem Upd.bank_apply_low (u : Upd) (s : State) (b : Bank) (h : u.isBank = false) (k : u.ctorIdx < 38) :
    (u.apply s).bank b = s.bank b := by
  cases u <;> first
    | exact absurd k (Nat.not_lt_of_le (Nat.le_of_ble_eq_true rfl))
    | exact absurd h Bool.noConfusion
    | (cases b <;> rfl)

theorem Upd.bank_apply_high (u : Upd) (s : State) (b : Bank) (h : u.isBank = false) (k : 38 ≤ u.ctorIdx) :
    (u.apply s).bank b = s.bank b := by
  cases u <;> first
    | exact absurd k (Nat.not_le_of_lt (Nat.le_of_ble_eq_true rfl))
    | exact absurd h Bool.noConfusion
    | (cases b <;> rfl)

theorem Upd.bank_apply (u : Upd) (s : State) (b : Bank) (h : u.isBank = false) : (u.apply s).bank b = s.bank b := by
  rcases Nat.lt_or_ge u.ctorIdx 38 with k | k
  · exact u.bank_apply_low s b h k
  · exact u.bank_apply_high s b h k

@[simp] theorem Upd.rd_apply (u : Upd) (s : State) (b : Bank) (k : Nat) (h : u.isBank = false) : (u.apply s).rd b k = s.rd b k := by
  simp [State.rd, Upd.bank_apply u s b h]

@[simp] theorem Upd.rd_clear (s : State) (b c : Bank) (k : Nat) :
    ((Upd.clear b).apply s).rd c k = if b = c then 0 else s.rd c k := by
  simp only [Upd.apply, State.rd, State.bank_withBank]
  split <;> rfl

theorem Upd.apply_mem (u : Upd) (s : State) (h : u.isMem = false) : (u.apply s).mem = s.mem := by
  cases u with
  | poke a v => simp [Upd.isMem] at h
  | zeroMem a v => simp [Upd.isMem] at h
  | put b k v => exact State.withBank_mem s b _
  | clear b => exact State.withBank_mem s b _
  | _ => rfl

@[simp] theorem Upd.byte_apply (u : Upd) (s : State) (a : Nat) (h : u.isMem = false) : (u.apply s).byte a = s.byte a := by
  simp [State.byte, Upd.apply_mem u s h]

@[simp] theorem Upd.byte_poke (s : State) (a c : Nat) (v : Byte) :
    ((Upd.poke a v).apply s).byte c = if a = c then v else s.byte c := Mem.read_write s.mem a c v

@[simp] theorem Upd.byte_zeroMem (s : State) (lo hi c : Nat) :
    ((Upd.zeroMem lo hi).apply s).byte c = if lo ≤ c ∧ c < hi then 0#8 else s.byte c := Mem.read_clear s.mem lo hi c

@[simp] theorem Upd.pending_apply (u : Upd) (s : State) : (u.apply s).pending = s.pending := by
  cases u with
  | put b k v => exact State.withBank_pending s b _
  | clear b => exact State.withBank_pending s b _
  | _ => rfl

@[simp] theorem Upd.free_apply (u : Upd) (s : State) :
    (u.apply s).free = match u with
      | .free v => v
      | _ => s.free := by
  cases u with
  | put b k v => exact State.withBank_free s b _
  | clear b => exact State.withBank_free s b _
  | _ => rfl

@[simp] theorem Upd.allow_apply (u : Upd) (s : State) :
    (u.apply s).allow = match u with
      | .allow v => v
      | _ => s.allow := by
  cases u with
  | put b k v => exact State.withBank_allow s b _
  | clear b => exact State.withBank_allow s b _
  | _ => rfl

@[simp] theorem Upd.slots_apply (u : Upd) (s : State) :
    (u.apply s).slots = match u with
      | .slots v => v
      | _ => s.slots := by
  cases u with
  | put b k v => exact State.withBank_slots s b _
  | clear b => exact State.withBank_slots s b _
  | _ => rfl

@[simp] theorem Upd.progs_apply (u : Upd) (s : State) :
    (u.apply s).progs = match u with
      | .progs v => v
      | _ => s.progs := by
  cases u with
  | put b k v => exact State.withBank_progs s b _
  | clear b => exact State.withBank_progs s b _
  | _ => rfl

@[simp] theorem Upd.regions_apply (u : Upd) (s : State) :
    (u.apply s).regions = match u with
      | .regions v => v
      | _ => s.regions := by
  cases u with
  | put b k v => exact State.withBank_regions s b _
  | clear b => exact State.withBank_regions s b _
  | _ => rfl

@[simp] theorem Upd.insts_apply (u : Upd) (s : State) :
    (u.apply s).insts = match u with
      | .insts v => v
      | _ => s.insts := by
  cases u with
  | put b k v => exact State.withBank_insts s b _
  | clear b => exact State.withBank_insts s b _
  | _ => rfl

@[simp] theorem Upd.waitMsgs_apply (u : Upd) (s : State) :
    (u.apply s).waitMsgs = match u with
      | .waitMsgs v => v
      | _ => s.waitMsgs := by
  cases u with
  | put b k v => exact State.withBank_waitMsgs s b _
  | clear b => exact State.withBank_waitMsgs s b _
  | _ => rfl

@[simp] theorem Upd.vsyCells_apply (u : Upd) (s : State) :
    (u.apply s).vsyCells = match u with
      | .vsyCells v => v
      | _ => s.vsyCells := by
  cases u with
  | put b k v => exact State.withBank_vsyCells s b _
  | clear b => exact State.withBank_vsyCells s b _
  | _ => rfl

@[simp] theorem Upd.sentCounts_apply (u : Upd) (s : State) :
    (u.apply s).sentCounts = match u with
      | .sentCounts v => v
      | _ => s.sentCounts := by
  cases u with
  | put b k v => exact State.withBank_sentCounts s b _
  | clear b => exact State.withBank_sentCounts s b _
  | _ => rfl

@[simp] theorem Upd.takenCounts_apply (u : Upd) (s : State) :
    (u.apply s).takenCounts = match u with
      | .takenCounts v => v
      | _ => s.takenCounts := by
  cases u with
  | put b k v => exact State.withBank_takenCounts s b _
  | clear b => exact State.withBank_takenCounts s b _
  | _ => rfl

@[simp] theorem Upd.exacts_apply (u : Upd) (s : State) :
    (u.apply s).exacts = match u with
      | .exacts v => v
      | _ => s.exacts := by
  cases u with
  | put b k v => exact State.withBank_exacts s b _
  | clear b => exact State.withBank_exacts s b _
  | _ => rfl

@[simp] theorem Upd.earlyAborts_apply (u : Upd) (s : State) :
    (u.apply s).earlyAborts = match u with
      | .earlyAborts v => v
      | _ => s.earlyAborts := by
  cases u with
  | put b k v => exact State.withBank_earlyAborts s b _
  | clear b => exact State.withBank_earlyAborts s b _
  | _ => rfl

@[simp] theorem Upd.passes_apply (u : Upd) (s : State) :
    (u.apply s).passes = match u with
      | .passes v => v
      | _ => s.passes := by
  cases u with
  | put b k v => exact State.withBank_passes s b _
  | clear b => exact State.withBank_passes s b _
  | _ => rfl

@[simp] theorem Upd.commitCells_apply (u : Upd) (s : State) :
    (u.apply s).commitCells = match u with
      | .commitCells v => v
      | _ => s.commitCells := by
  cases u with
  | put b k v => exact State.withBank_commitCells s b _
  | clear b => exact State.withBank_commitCells s b _
  | _ => rfl

@[simp] theorem Upd.enters_apply (u : Upd) (s : State) :
    (u.apply s).enters = match u with
      | .enters v => v
      | _ => s.enters := by
  cases u with
  | put b k v => exact State.withBank_enters s b _
  | clear b => exact State.withBank_enters s b _
  | _ => rfl

@[simp] theorem Upd.detours_apply (u : Upd) (s : State) :
    (u.apply s).detours = match u with
      | .detours v => v
      | _ => s.detours := by
  cases u with
  | put b k v => exact State.withBank_detours s b _
  | clear b => exact State.withBank_detours s b _
  | _ => rfl

@[simp] theorem Upd.coords_apply (u : Upd) (s : State) :
    (u.apply s).coords = match u with
      | .coords v => v
      | _ => s.coords := by
  cases u with
  | put b k v => exact State.withBank_coords s b _
  | clear b => exact State.withBank_coords s b _
  | _ => rfl

@[simp] theorem Upd.failed_apply (u : Upd) (s : State) :
    (u.apply s).failed = match u with
      | .failed v => v
      | _ => s.failed := by
  cases u with
  | put b k v => exact State.withBank_failed s b _
  | clear b => exact State.withBank_failed s b _
  | _ => rfl

@[simp] theorem Upd.marks_apply (u : Upd) (s : State) :
    (u.apply s).marks = match u with
      | .marks v => v
      | _ => s.marks := by
  cases u with
  | put b k v => exact State.withBank_marks s b _
  | clear b => exact State.withBank_marks s b _
  | _ => rfl

@[simp] theorem Upd.vecs_apply (u : Upd) (s : State) :
    (u.apply s).vecs = match u with
      | .vecs v => v
      | _ => s.vecs := by
  cases u with
  | put b k v => exact State.withBank_vecs s b _
  | clear b => exact State.withBank_vecs s b _
  | _ => rfl

@[simp] theorem Upd.desks_apply (u : Upd) (s : State) :
    (u.apply s).desks = match u with
      | .desks v => v
      | _ => s.desks := by
  cases u with
  | put b k v => exact State.withBank_desks s b _
  | clear b => exact State.withBank_desks s b _
  | _ => rfl

@[simp] theorem Upd.period_apply (u : Upd) (s : State) :
    (u.apply s).period = match u with
      | .period v => v
      | _ => s.period := by
  cases u with
  | put b k v => exact State.withBank_period s b _
  | clear b => exact State.withBank_period s b _
  | _ => rfl

@[simp] theorem Upd.supply_apply (u : Upd) (s : State) :
    (u.apply s).supply = match u with
      | .supply v => v
      | _ => s.supply := by
  cases u with
  | put b k v => exact State.withBank_supply s b _
  | clear b => exact State.withBank_supply s b _
  | _ => rfl

@[simp] theorem Upd.selLate_apply (u : Upd) (s : State) :
    (u.apply s).selLate = match u with
      | .selLate v => v
      | _ => s.selLate := by
  cases u with
  | put b k v => exact State.withBank_selLate s b _
  | clear b => exact State.withBank_selLate s b _
  | _ => rfl

@[simp] theorem Upd.faultSeq_apply (u : Upd) (s : State) :
    (u.apply s).faultSeq = match u with
      | .faultSeq v => v
      | _ => s.faultSeq := by
  cases u with
  | put b k v => exact State.withBank_faultSeq s b _
  | clear b => exact State.withBank_faultSeq s b _
  | _ => rfl

@[simp] theorem Upd.seed_apply (u : Upd) (s : State) :
    (u.apply s).seed = match u with
      | .seed v => v
      | _ => s.seed := by
  cases u with
  | put b k v => exact State.withBank_seed s b _
  | clear b => exact State.withBank_seed s b _
  | _ => rfl

@[simp] theorem Upd.egress_apply (u : Upd) (s : State) :
    (u.apply s).egress = match u with
      | .egress v => v
      | _ => s.egress := by
  cases u with
  | put b k v => exact State.withBank_egress s b _
  | clear b => exact State.withBank_egress s b _
  | _ => rfl

@[simp] theorem Upd.rxBuf_apply (u : Upd) (s : State) :
    (u.apply s).rxBuf = match u with
      | .rxBuf v => v
      | _ => s.rxBuf := by
  cases u with
  | put b k v => exact State.withBank_rxBuf s b _
  | clear b => exact State.withBank_rxBuf s b _
  | _ => rfl

@[simp] theorem Upd.copies_apply (u : Upd) (s : State) :
    (u.apply s).copies = match u with
      | .copies v => v
      | _ => s.copies := by
  cases u with
  | put b k v => exact State.withBank_copies s b _
  | clear b => exact State.withBank_copies s b _
  | _ => rfl

@[simp] theorem Upd.txq_apply (u : Upd) (s : State) :
    (u.apply s).txq = match u with
      | .txq v => v
      | _ => s.txq := by
  cases u with
  | put b k v => exact State.withBank_txq s b _
  | clear b => exact State.withBank_txq s b _
  | _ => rfl

@[simp] theorem Upd.cellIds_apply (u : Upd) (s : State) :
    (u.apply s).cellIds = match u with
      | .cellIds v => v
      | _ => s.cellIds := by
  cases u with
  | put b k v => exact State.withBank_cellIds s b _
  | clear b => exact State.withBank_cellIds s b _
  | _ => rfl

@[simp] theorem Upd.heldFrames_apply (u : Upd) (s : State) :
    (u.apply s).heldFrames = match u with
      | .heldFrames v => v
      | _ => s.heldFrames := by
  cases u with
  | put b k v => exact State.withBank_heldFrames s b _
  | clear b => exact State.withBank_heldFrames s b _
  | _ => rfl

@[simp] theorem Upd.wire_apply (u : Upd) (s : State) :
    (u.apply s).wire = match u with
      | .wire v => v
      | _ => s.wire := by
  cases u with
  | put b k v => exact State.withBank_wire s b _
  | clear b => exact State.withBank_wire s b _
  | _ => rfl

@[simp] theorem Upd.admitted_apply (u : Upd) (s : State) :
    (u.apply s).admitted = match u with
      | .admitted v => v
      | _ => s.admitted := by
  cases u with
  | put b k v => exact State.withBank_admitted s b _
  | clear b => exact State.withBank_admitted s b _
  | _ => rfl

@[simp] theorem Upd.pcie_apply (u : Upd) (s : State) :
    (u.apply s).pcie = match u with
      | .pcie v => v
      | _ => s.pcie := by
  cases u with
  | put b k v => exact State.withBank_pcie s b _
  | clear b => exact State.withBank_pcie s b _
  | _ => rfl

@[simp] theorem Upd.pmPmes_apply (u : Upd) (s : State) :
    (u.apply s).pmPmes = match u with
      | .pmPmes v => v
      | _ => s.pmPmes := by
  cases u with
  | put b k v => exact State.withBank_pmPmes s b _
  | clear b => exact State.withBank_pmPmes s b _
  | _ => rfl

@[simp] theorem Upd.doeObject_apply (u : Upd) (s : State) :
    (u.apply s).doeObject = match u with
      | .doeObject v => v
      | _ => s.doeObject := by
  cases u with
  | put b k v => exact State.withBank_doeObject s b _
  | clear b => exact State.withBank_doeObject s b _
  | _ => rfl

@[simp] theorem Upd.smb_apply (u : Upd) (s : State) :
    (u.apply s).smb = match u with
      | .smb v => v
      | _ => s.smb := by
  cases u with
  | put b k v => exact State.withBank_smb s b _
  | clear b => exact State.withBank_smb s b _
  | _ => rfl

@[simp] theorem Upd.fwBody_apply (u : Upd) (s : State) :
    (u.apply s).fwBody = match u with
      | .fwBody v => v
      | _ => s.fwBody := by
  cases u with
  | put b k v => exact State.withBank_fwBody s b _
  | clear b => exact State.withBank_fwBody s b _
  | _ => rfl

@[simp] theorem Upd.chestSys_apply (u : Upd) (s : State) :
    (u.apply s).chestSys = match u with
      | .chestSys v => v
      | _ => s.chestSys := by
  cases u with
  | put b k v => exact State.withBank_chestSys s b _
  | clear b => exact State.withBank_chestSys s b _
  | _ => rfl

@[simp] theorem Upd.places_apply (u : Upd) (s : State) :
    (u.apply s).places = match u with
      | .places v => v
      | _ => s.places := by
  cases u with
  | put b k v => exact State.withBank_places s b _
  | clear b => exact State.withBank_places s b _
  | _ => rfl

@[simp] theorem Upd.stripes_apply (u : Upd) (s : State) :
    (u.apply s).stripes = match u with
      | .stripes v => v
      | _ => s.stripes := by
  cases u with
  | put b k v => exact State.withBank_stripes s b _
  | clear b => exact State.withBank_stripes s b _
  | _ => rfl

@[simp] theorem Upd.faultDue_apply (u : Upd) (s : State) :
    (u.apply s).faultDue = match u with
      | .faultDue v => v
      | _ => s.faultDue := by
  cases u with
  | put b k v => exact State.withBank_faultDue s b _
  | clear b => exact State.withBank_faultDue s b _
  | _ => rfl

@[simp] theorem Upd.fibre_apply (u : Upd) (s : State) :
    (u.apply s).fibre = match u with
      | .fibre v => v
      | _ => s.fibre := by
  cases u with
  | put b k v => exact State.withBank_fibre s b _
  | clear b => exact State.withBank_fibre s b _
  | _ => rfl

@[simp] theorem Upd.notices_apply (u : Upd) (s : State) :
    (u.apply s).notices = match u with
      | .notices v => v
      | _ => s.notices := by
  cases u with
  | put b k v => exact State.withBank_notices s b _
  | clear b => exact State.withBank_notices s b _
  | _ => rfl

@[simp] theorem Upd.inflight_apply (u : Upd) (s : State) :
    (u.apply s).inflight = match u with
      | .inflight v => v
      | _ => s.inflight := by
  cases u with
  | put b k v => exact State.withBank_inflight s b _
  | clear b => exact State.withBank_inflight s b _
  | _ => rfl

@[simp] theorem Upd.hostOut_apply (u : Upd) (s : State) :
    (u.apply s).hostOut = match u with
      | .hostOut v => v
      | _ => s.hostOut := by
  cases u with
  | put b k v => exact State.withBank_hostOut s b _
  | clear b => exact State.withBank_hostOut s b _
  | _ => rfl

@[simp] theorem Upd.msix_apply (u : Upd) (s : State) :
    (u.apply s).msix = match u with
      | .msix v => v
      | _ => s.msix := by
  cases u with
  | put b k v => exact State.withBank_msix s b _
  | clear b => exact State.withBank_msix s b _
  | _ => rfl

@[simp] theorem Upd.readOut_apply (u : Upd) (s : State) :
    (u.apply s).readOut = match u with
      | .readOut v => v
      | _ => s.readOut := by
  cases u with
  | put b k v => exact State.withBank_readOut s b _
  | clear b => exact State.withBank_readOut s b _
  | _ => rfl

@[simp] theorem Upd.doe_apply (u : Upd) (s : State) :
    (u.apply s).doe = match u with
      | .doe v => v
      | _ => s.doe := by
  cases u with
  | put b k v => exact State.withBank_doe s b _
  | clear b => exact State.withBank_doe s b _
  | _ => rfl

@[simp] theorem Upd.chest_apply (u : Upd) (s : State) :
    (u.apply s).chest = match u with
      | .chest v => v
      | _ => s.chest := by
  cases u with
  | put b k v => exact State.withBank_chest s b _
  | clear b => exact State.withBank_chest s b _
  | _ => rfl

@[simp] theorem Upd.bar4Log_apply (u : Upd) (s : State) :
    (u.apply s).bar4Log = match u with
      | .bar4Log v => v
      | _ => s.bar4Log := by
  cases u with
  | put b k v => exact State.withBank_bar4Log s b _
  | clear b => exact State.withBank_bar4Log s b _
  | _ => rfl

@[simp] theorem Upd.alert_apply (u : Upd) (s : State) :
    (u.apply s).alert = match u with
      | .alert v => v
      | _ => s.alert := by
  cases u with
  | put b k v => exact State.withBank_alert s b _
  | clear b => exact State.withBank_alert s b _
  | _ => rfl

@[simp] theorem Upd.tripped_apply (u : Upd) (s : State) :
    (u.apply s).tripped = match u with
      | .tripped v => v
      | _ => s.tripped := by
  cases u with
  | put b k v => exact State.withBank_tripped s b _
  | clear b => exact State.withBank_tripped s b _
  | _ => rfl

@[simp] theorem Upd.wakeLow_apply (u : Upd) (s : State) :
    (u.apply s).wakeLow = match u with
      | .wakeLow v => v
      | _ => s.wakeLow := by
  cases u with
  | put b k v => exact State.withBank_wakeLow s b _
  | clear b => exact State.withBank_wakeLow s b _
  | _ => rfl

@[simp] theorem Upd.sclkPart_apply (u : Upd) (s : State) :
    (u.apply s).sclkPart = match u with
      | .sclkPart v => v
      | _ => s.sclkPart := by
  cases u with
  | put b k v => exact State.withBank_sclkPart s b _
  | clear b => exact State.withBank_sclkPart s b _
  | _ => rfl

/-! What an act does, piece by piece. -/

@[simp] theorem Act.run_skip (s : State) : Act.skip.run s = s := rfl
@[simp] theorem Act.run_upd (u : Upd) (s : State) : (Act.upd u).run s = u.apply s := rfl
@[simp] theorem Act.run_seq (a b : Act) (s : State) : (Act.seq a b).run s = b.run (a.run s) := rfl
@[simp] theorem Act.run_ask (f : State → Act) (s : State) : (Act.ask f).run s = (f s).run s := rfl
@[simp] theorem Act.run_all_nil (s : State) : (Act.all []).run s = s := rfl
@[simp] theorem Act.run_all_cons (a : Act) (l : List Act) (s : State) :
    (Act.all (a :: l)).run s = (Act.all l).run (a.run s) := rfl
@[simp] theorem Act.run_when (c : Bool) (a : Act) (s : State) : (Act.when c a).run s = if c then a.run s else s := by
  cases c <;> rfl
@[simp] theorem Act.run_each_nil {α : Type} (f : α → Act) (s : State) : (Act.each [] f).run s = s := rfl
@[simp] theorem Act.run_each_cons {α : Type} (x : α) (l : List α) (f : α → Act) (s : State) :
    (Act.each (x :: l) f).run s = (Act.each l f).run ((f x).run s) := rfl
@[simp] theorem Act.run_set (f : Field) (v : Nat) (s : State) : (Act.set f v).run s = s.set f v := rfl
@[simp] theorem Act.run_modify (f : Field) (g : Nat → Nat) (s : State) : (Act.modify f g).run s = s.set f (g (s.get f)) := rfl
@[simp] theorem Act.run_put (b : Bank) (k v : Nat) (s : State) : (Act.put b k v).run s = s.wr b k v := rfl
@[simp] theorem Act.run_pokes_nil (a : Nat) (s : State) : (Act.pokes a []).run s = s := rfl
@[simp] theorem Act.run_pokes_cons (a : Nat) (b : Byte) (l : List Byte) (s : State) :
    (Act.pokes a (b :: l)).run s = (Act.pokes (a + 1) l).run ((Upd.poke a b).apply s) := rfl

theorem Act.run_each_append {α : Type} (l k : List α) (f : α → Act) (s : State) :
    (Act.each (l ++ k) f).run s = (Act.each k f).run ((Act.each l f).run s) := by
  induction l generalizing s with
  | nil => rfl
  | cons x l ih => simp [ih]

/-- Bytes written from `a` upwards read back, and every other byte as before. -/
theorem Act.byte_pokes (a c : Nat) (l : List Byte) (s : State) :
    ((Act.pokes a l).run s).byte c = if a ≤ c ∧ c < a + l.length then l.getD (c - a) 0#8 else s.byte c := by
  induction l generalizing a s with
  | nil => simp <;> omega
  | cons b l ih =>
    rw [Act.run_pokes_cons, ih, Upd.byte_poke]
    by_cases h : a = c
    · subst h; rw [if_neg (by omega), if_pos rfl, if_pos (by simp)]; simp
    · by_cases k : a + 1 ≤ c ∧ c < a + 1 + l.length
      · rw [if_pos k, if_pos (by simp; omega)]
        obtain ⟨n, rfl⟩ : ∃ n, c = a + 1 + n := ⟨c - (a + 1), by omega⟩
        simp [show a + 1 + n - a = n + 1 by omega]
      · rw [if_neg k, if_neg h, if_neg (by simp; omega)]

end Sys2Proof.Machine
end

