-- ==== Sys2Proof/Laws/Frames.lean ====
section
/-!
SUPPORT. Frames compose, and each elementary update has one; what every run of elementary updates keeps: the queue of commands and
the canonical form.
-/

namespace Sys2Proof.Machine

/-! The queue. -/

theorem applyAll_nil (s : State) : applyAll [] s = s := rfl

theorem applyAll_cons (u : Upd) (us : List Upd) (s : State) : applyAll (u :: us) s = applyAll us (u.apply s) := rfl

theorem applyAll_pending (us : List Upd) (s : State) : (applyAll us s).pending = s.pending := by
  induction us generalizing s with
  | nil => rfl
  | cons u us ih => rw [applyAll_cons, ih, Upd.pending_apply]

theorem Reach.pending {s t : State} (h : Reach s t) : t.pending = s.pending := by
  obtain ⟨us, rfl⟩ := h
  exact applyAll_pending us s

/-- No act touches the queue of commands. -/
@[simp] theorem Act.pending_run (a : Act) (s : State) : (a.run s).pending = s.pending := (a.ok s).pending

/-! The canonical form. -/

theorem Map.all_insert {m : Map} {k v : Nat} {P : Nat × Nat → Bool} (hm : m.all P = true) (hk : P (k, v) = true) :
    (m.insert k v).all P = true := by
  induction m with
  | nil => simp [Map.insert, hk]
  | cons p t ih =>
    obtain ⟨k', v'⟩ := p
    simp only [List.all_cons, Bool.and_eq_true] at hm
    simp only [Map.insert]
    split
    · simp [hk, hm.1]; simpa using hm.2
    · split
      · simp [hk]; simpa using hm.2
      · simp [hm.1]; simpa using ih hm.2

theorem Map.rising_insert {m : Map} (k v : Nat) (h : m.rising = true) : (m.insert k v).rising = true := by
  induction m with
  | nil => simp [Map.insert, Map.rising]
  | cons p t ih =>
    obtain ⟨k', v'⟩ := p
    simp only [Map.rising, Bool.and_eq_true] at h
    simp only [Map.insert]
    split
    · rename_i lt
      simp only [Map.rising, Bool.and_eq_true, List.all_cons, decide_eq_true_eq]
      refine ⟨⟨lt, ?_⟩, h.1, h.2⟩
      simp only [List.all_eq_true, decide_eq_true_eq] at h ⊢
      exact fun p hp => Nat.lt_trans lt (h.1 p hp)
    · split
      · rename_i e; subst e; simp only [Map.rising, Bool.and_eq_true]; exact h
      · rename_i n1 n2
        simp only [Map.rising, Bool.and_eq_true]
        exact ⟨Map.all_insert h.1 (by simp; omega), ih h.2⟩

theorem Map.rising_filter {m : Map} (P : Nat × Nat → Bool) (h : m.rising = true) : Map.rising (m.filter P) = true := by
  induction m with
  | nil => rfl
  | cons p t ih =>
    obtain ⟨k', v'⟩ := p
    simp only [Map.rising, Bool.and_eq_true] at h
    by_cases c : P (k', v') = true
    · rw [List.filter_cons_of_pos c]
      simp only [Map.rising, Bool.and_eq_true]
      refine ⟨?_, ih h.2⟩
      simp only [List.all_eq_true, List.mem_filter] at h ⊢
      exact fun p hp => h.1 p hp.1
    · rw [List.filter_cons_of_neg c]
      exact ih h.2

theorem Map.rising_put {m : Map} (k v d : Nat) (h : m.rising = true) : (m.put k v d).rising = true := by
  unfold Map.put
  split
  · exact Map.rising_filter _ h
  · exact Map.rising_insert k v h

/-- Storing in a bank keeps its canonical form. -/
theorem Map.wf_put {m : Map} (k v : Nat) (h : m.wf = true) : (m.put k v 0).wf = true := by
  simp only [Map.wf, Bool.and_eq_true] at h ⊢
  refine ⟨Map.rising_put k v 0 h.1, ?_⟩
  unfold Map.put
  split
  · have h2 := h.2
    simp only [Map.erase, List.all_eq_true, List.mem_filter] at h2 ⊢
    exact fun p hp => h2 p hp.1
  · rename_i n
    exact Map.all_insert h.2 (by simpa using n)

theorem Mem.all_insert {m : List Host.Cell} {a : Nat} {b : Byte} {P : Host.Cell → Bool} (hm : m.all P = true)
    (ha : P (a, b) = true) : (Mem.insert m a b).all P = true := by
  induction m with
  | nil => simp [Mem.insert, ha]
  | cons p t ih =>
    obtain ⟨a', b'⟩ := p
    simp only [List.all_cons, Bool.and_eq_true] at hm
    simp only [Mem.insert]
    split
    · simp [ha, hm.1]; simpa using hm.2
    · split
      · simp [ha]; simpa using hm.2
      · simp [hm.1]; simpa using ih hm.2

/-- Writing one byte keeps the canonical form of memory. -/
theorem Memory.wf_write {m : List Host.Cell} (a : Nat) (b : Byte) (h : Memory.wf m = true) : Memory.wf (Mem.write m a b) = true := by
  unfold Mem.write
  split
  · induction m with
    | nil => rfl
    | cons p t ih =>
      obtain ⟨a', b'⟩ := p
      simp only [Memory.wf, Bool.and_eq_true] at h
      by_cases e : a' = a
      · rw [List.filter_cons_of_neg (by simpa using e)]; exact ih h.2
      · rw [List.filter_cons_of_pos (by simpa using e)]
        simp only [Memory.wf, Bool.and_eq_true]
        refine ⟨⟨h.1.1, ?_⟩, ih h.2⟩
        have h2 := h.1.2
        simp only [List.all_eq_true, List.mem_filter] at h2 ⊢
        exact fun p hp => h2 p hp.1
  · rename_i n
    induction m with
    | nil => simp [Mem.insert, Memory.wf, n]
    | cons p t ih =>
      obtain ⟨a', b'⟩ := p
      simp only [Memory.wf, Bool.and_eq_true] at h
      simp only [Mem.insert]
      split
      · rename_i lt
        simp only [Memory.wf, Bool.and_eq_true, List.all_cons, decide_eq_true_eq]
        refine ⟨⟨by simpa using n, lt, ?_⟩, ⟨h.1.1, h.1.2⟩, h.2⟩
        have h2 := h.1.2
        simp only [List.all_eq_true, decide_eq_true_eq] at h2 ⊢
        exact fun p hp => Nat.lt_trans lt (h2 p hp)
      · split
        · rename_i e; subst e
          simp only [Memory.wf, Bool.and_eq_true]
          exact ⟨⟨by simpa using n, h.1.2⟩, h.2⟩
        · rename_i n1 n2
          simp only [Memory.wf, Bool.and_eq_true]
          exact ⟨⟨h.1.1, Mem.all_insert h.1.2 (by simp; omega)⟩, ih h.2⟩

theorem Memory.wf_filter {m : List Host.Cell} (P : Host.Cell → Bool) (h : Memory.wf m = true) :
    Memory.wf (m.filter P) = true := by
  induction m with
  | nil => rfl
  | cons p t ih =>
    obtain ⟨a', b'⟩ := p
    simp only [Memory.wf, Bool.and_eq_true] at h
    by_cases c : P (a', b') = true
    · rw [List.filter_cons_of_pos c]
      simp only [Memory.wf, Bool.and_eq_true]
      refine ⟨⟨h.1.1, ?_⟩, ih h.2⟩
      have h2 := h.1.2
      simp only [List.all_eq_true, List.mem_filter] at h2 ⊢
      exact fun p hp => h2 p hp.1
    · rw [List.filter_cons_of_neg c]
      exact ih h.2

/-- Every elementary update keeps memory canonical. -/
theorem Upd.apply_wf (u : Upd) (s : State) (h : Memory.wf s.mem = true) : Memory.wf (u.apply s).mem = true := by
  cases u with
  | poke a v => exact Memory.wf_write a v h
  | zeroMem lo hi => exact Memory.wf_filter _ h
  | _ => rw [Upd.apply_mem _ s rfl]; exact h

/-- Every act keeps memory canonical. -/
theorem Act.wf_run (a : Act) (s : State) (h : Memory.wf s.mem = true) : Memory.wf (a.run s).mem = true := by
  obtain ⟨us, e⟩ := a.ok s
  rw [e]
  clear e
  induction us generalizing s with
  | nil => exact h
  | cons u us ih => exact ih (u.apply s) (Upd.apply_wf u s h)

/-! Frames. -/

theorem Part.same_refl (p : Part) (s : State) : p.same s s := by cases p <;> rfl

theorem Part.same_trans {p : Part} {s t u : State} (h : p.same s t) (k : p.same t u) : p.same s u := by
  cases p <;> exact Eq.trans k h

theorem Frame.refl (F : Foot) (s : State) : Frame F s s :=
  ⟨rfl, fun _ _ => rfl, fun _ _ _ => rfl, fun _ _ => rfl, fun p _ => p.same_refl s⟩

theorem Frame.trans {F : Foot} {s t u : State} (h : Frame F s t) (k : Frame F t u) : Frame F s u :=
  ⟨k.queue.trans h.queue, fun f n => (k.regs f n).trans (h.regs f n), fun b i n => (k.cells b i n).trans (h.cells b i n),
    fun a n => (k.bytes a n).trans (h.bytes a n), fun p n => Part.same_trans (h.parts p n) (k.parts p n)⟩

/-- A larger footprint frames as well. -/
theorem Frame.mono {F G : Foot} {s t : State} (h : Frame F s t) (hk : ∀ k, F.keys k → G.keys k)
    (hc : ∀ b k, F.cells b k → G.cells b k) (hb : ∀ a, F.bytes a → G.bytes a) (hp : ∀ p, F.parts p → G.parts p) :
    Frame G s t :=
  ⟨h.queue, fun f n => h.regs f fun x => n (hk _ x), fun b i n => h.cells b i fun x => n (hc _ _ x),
    fun a n => h.bytes a fun x => n (hb _ x), fun p n => h.parts p fun x => n (hp _ x)⟩

theorem Part.same_set (p : Part) (s : State) (f : Field) (v : Nat) : p.same s (s.set f v) := by cases p <;> rfl

theorem Part.same_wr (p : Part) (s : State) (b : Bank) (k v : Nat) : p.same s (s.wr b k v) := by
  cases p <;> simp [Part.same]

theorem Frame.set (F : Foot) (s : State) (f : Field) (v : Nat) (h : F.keys f.key) : Frame F s (s.set f v) :=
  ⟨rfl, fun g n => State.get_set_ne s (fun e => n (e ▸ h)) v, fun _ _ _ => by simp, fun _ _ => rfl, fun p _ => p.same_set s f v⟩

theorem Frame.wr (F : Foot) (s : State) (b : Bank) (k v : Nat) (h : F.cells b k) : Frame F s (s.wr b k v) :=
  ⟨by simp, fun _ _ => by simp, fun c j n => by
    rw [State.rd_wr, if_neg]; rintro ⟨rfl, rfl⟩; exact n h, fun _ _ => by simp, fun p _ => p.same_wr s b k v⟩

/-- The part that an update replaces, where it replaces one. -/
def Upd.part? : Upd → Option Part
  | .free _ => some .free
  | .allow _ => some .allow
  | .slots _ => some .slots
  | .progs _ => some .progs
  | .regions _ => some .regions
  | .insts _ => some .insts
  | .waitMsgs _ => some .waitMsgs
  | .vsyCells _ => some .vsyCells
  | .sentCounts _ => some .sentCounts
  | .takenCounts _ => some .takenCounts
  | .exacts _ => some .exacts
  | .earlyAborts _ => some .earlyAborts
  | .passes _ => some .passes
  | .commitCells _ => some .commitCells
  | .enters _ => some .enters
  | .detours _ => some .detours
  | .coords _ => some .coords
  | .failed _ => some .failed
  | .marks _ => some .marks
  | .vecs _ => some .vecs
  | .desks _ => some .desks
  | .period _ => some .period
  | .supply _ => some .supply
  | .selLate _ => some .selLate
  | .faultSeq _ => some .faultSeq
  | .seed _ => some .seed
  | .egress _ => some .egress
  | .rxBuf _ => some .rxBuf
  | .copies _ => some .copies
  | .txq _ => some .txq
  | .cellIds _ => some .cellIds
  | .heldFrames _ => some .heldFrames
  | .wire _ => some .wire
  | .admitted _ => some .admitted
  | .pcie _ => some .pcie
  | .pmPmes _ => some .pmPmes
  | .doeObject _ => some .doeObject
  | .smb _ => some .smb
  | .fwBody _ => some .fwBody
  | .chestSys _ => some .chestSys
  | .places _ => some .places
  | .stripes _ => some .stripes
  | .faultDue _ => some .faultDue
  | .fibre _ => some .fibre
  | .notices _ => some .notices
  | .inflight _ => some .inflight
  | .hostOut _ => some .hostOut
  | .msix _ => some .msix
  | .readOut _ => some .readOut
  | .doe _ => some .doe
  | .chest _ => some .chest
  | .bar4Log _ => some .bar4Log
  | .alert _ => some .alert
  | .tripped _ => some .tripped
  | .wakeLow _ => some .wakeLow
  | .sclkPart _ => some .sclkPart
  | .set _ _ => none
  | .put _ _ _ => none
  | .clear _ => none
  | .poke _ _ => none
  | .resetRegs _ => none
  | .zeroMem _ _ => none

theorem Frame.upd_part (F : Foot) (s : State) (u : Upd) (p : Part) (h : u.part? = some p) (hp : F.parts p) :
    Frame F s (u.apply s) := by
  refine ⟨by simp, fun f _ => ?_, fun b k _ => ?_, fun a _ => ?_, fun q hq => ?_⟩
  · exact Upd.get_apply u s f (by cases u <;> first | rfl | simp [Upd.part?] at h)
  · exact Upd.rd_apply u s b k (by cases u <;> first | rfl | simp [Upd.part?] at h)
  · exact Upd.byte_apply u s a (by cases u <;> first | rfl | simp [Upd.part?] at h)
  · have ne : p ≠ q := fun e => hq (e ▸ hp)
    cases u <;> simp only [Upd.part?, Option.some.injEq, reduceCtorEq] at h <;> subst h <;> cases q <;>
      first | rfl | exact absurd rfl ne

theorem Frame.clear (F : Foot) (s : State) (b : Bank) (h : ∀ k, F.cells b k) : Frame F s ((Upd.clear b).apply s) := by
  refine ⟨by simp, fun f _ => Upd.get_apply _ s f rfl, fun c k n => ?_, fun a _ => Upd.byte_apply _ s a rfl, fun p _ => ?_⟩
  · rw [Upd.rd_clear, if_neg]; rintro rfl; exact n (h k)
  · cases p <;> simp [Part.same]

theorem Frame.poke (F : Foot) (s : State) (a : Nat) (v : Byte) (h : F.bytes a) : Frame F s ((Upd.poke a v).apply s) := by
  refine ⟨by simp, fun f _ => Upd.get_apply _ s f rfl, fun c k _ => Upd.rd_apply _ s c k rfl, fun c n => ?_, fun p _ => ?_⟩
  · rw [Upd.byte_poke, if_neg]; rintro rfl; exact n h
  · cases p <;> simp [Part.same]

/-- Acts that stay within a footprint, whatever state they start from. -/
def Act.Within (F : Foot) (a : Act) : Prop := ∀ s, Frame F s (a.run s)

namespace Act.Within

variable {F : Foot}

theorem skip : Act.skip.Within F := fun s => Frame.refl F s
theorem seq {a b : Act} (ha : a.Within F) (hb : b.Within F) : (Act.seq a b).Within F := fun s => (ha s).trans (hb _)
theorem ask {f : State → Act} (h : ∀ s, (f s).Within F) : (Act.ask f).Within F := fun s => h s s
theorem nil : (Act.all []).Within F := skip
theorem cons {a : Act} {l : List Act} (ha : a.Within F) (hl : (Act.all l).Within F) : (Act.all (a :: l)).Within F := seq ha hl
theorem when {c : Bool} {a : Act} (h : a.Within F) : (Act.when c a).Within F := by cases c <;> first | exact skip | exact h
theorem each {α : Type} {l : List α} {f : α → Act} (h : ∀ x, (f x).Within F) : (Act.each l f).Within F := by
  induction l with
  | nil => exact skip
  | cons x l ih => exact seq (h x) ih
theorem set {f : Field} {v : Nat} (h : F.keys f.key) : (Act.set f v).Within F := fun s => Frame.set F s f v h
theorem modify {f : Field} {g : Nat → Nat} (h : F.keys f.key) : (Act.modify f g).Within F := fun s => Frame.set F s f _ h
theorem put {b : Bank} {k v : Nat} (h : F.cells b k) : (Act.put b k v).Within F := fun s => Frame.wr F s b k v h
theorem part {u : Upd} (p : Part) (h : u.part? = some p) (hp : F.parts p) : (Act.upd u).Within F :=
  fun s => Frame.upd_part F s u p h hp
theorem clear {b : Bank} (h : ∀ k, F.cells b k) : (Act.upd (.clear b)).Within F := fun s => Frame.clear F s b h
theorem poke {a : Nat} {v : Byte} (h : F.bytes a) : (Act.upd (.poke a v)).Within F := fun s => Frame.poke F s a v h
theorem pokes {a : Nat} {l : List Byte} (h : ∀ c, a ≤ c → c < a + l.length → F.bytes c) : (Act.pokes a l).Within F := by
  induction l generalizing a with
  | nil => exact skip
  | cons b l ih =>
    exact seq (poke (h a (Nat.le_refl a) (by simp))) (ih fun c h1 h2 => h c (by omega) (by simp; omega))
theorem ite {c : Prop} [Decidable c] {a b : Act} (ha : a.Within F) (hb : b.Within F) : (if c then a else b).Within F := by
  split <;> assumption

end Act.Within

end Sys2Proof.Machine
end

