-- ==== Sys2Proof/Laws/Ops.lean ====
section
/-!
SUPPORT. What each shared operation can do: its footprint, and the reads after it that statements need.
-/

namespace Sys2Proof.Machine

open Reg

/-! Footprints together. -/

theorem Act.Within.mono {F G : Foot} {a : Act} (h : a.Within F) (hk : ∀ k, F.keys k → G.keys k)
    (hc : ∀ b k, F.cells b k → G.cells b k) (hb : ∀ x, F.bytes x → G.bytes x) (hp : ∀ p, F.parts p → G.parts p) : a.Within G :=
  fun s => (h s).mono hk hc hb hp

theorem Act.Within.left {F G : Foot} {a : Act} (h : a.Within F) : a.Within (Foot.or F G) :=
  h.mono (fun _ => .inl) (fun _ _ => .inl) (fun _ => .inl) (fun _ => .inl)

theorem Act.Within.right {F G : Foot} {a : Act} (h : a.Within G) : a.Within (Foot.or F G) :=
  h.mono (fun _ => .inr) (fun _ _ => .inr) (fun _ => .inr) (fun _ => .inr)

theorem State.get_lt (s : State) (f : Field) : s.get f < 2 ^ f.width := Nat.mod_lt _ (Nat.two_pow_pos _)

/-! Host completions. -/

theorem signal_within (v : Nat) (hv : v < 256) : (signal v).Within Foot.hostDone := by
  unfold signal
  refine .ask fun s => .ite (.set ?_) (.part .msix rfl ?_)
  · simp only [Foot.hostDone, Foot.of, hostKeys, inBytes, MSIX_PENDING]; omega
  · simp [Foot.hostDone, Foot.of]

theorem postCompletion_within (c : Nat) (hc : c < 64) (cmd : HostCmd) (st r : Nat) :
    (postCompletion c cmd st r).Within Foot.hostDone := by
  unfold postCompletion
  refine .ask fun s => .cons (.part .hostOut rfl ?_) (.cons (.set ?_) (.cons (.when (.put ?_)) (.cons (.set ?_) (.cons (.set ?_)
    (.cons (.ite (.seq (signal_within _ (s.get_lt _)) (.put ?_)) (.put ?_)) .nil)))))
  all_goals simp [Foot.hostDone, Foot.of, hostKeys, inBytes, HST_CPL_PTR_TAIL, HST_CPL_SEQ_POSTED_SEQ, HST_CPL_SEQ_NEXT_SEQ] <;> omega

theorem ringStatus_within (r : Nat) (hr : r < 64) : (ringStatus r).Within Foot.hostDone := by
  unfold ringStatus resetRing
  refine .ask fun s => .cons (.set ?_) (.cons (.set ?_) (.cons (.when (.cons (.set ?_) (.cons (.set ?_) (.cons (.put ?_) .nil)))) .nil))
  all_goals simp [Foot.hostDone, Foot.of, hostKeys, inBytes, HST_CMD_PTR_TAIL, HST_CMD_PTR_HEAD, HST_CMD_STATUS_STOPPED,
    HST_CMD_STATUS_INFLIGHT] <;> omega

theorem finishOne_within (cmd : HostCmd) (st r : Nat) : (finishOne cmd st r).Within Foot.hostDone := by
  unfold finishOne
  refine .ask fun s => .seq (.part .inflight rfl ?_) (.when (postCompletion_within _ (s.get_lt _) _ _ _))
  simp [Foot.hostDone, Foot.of]

/-- The end of a host command stays within the host's registers and queues. -/
theorem finishCmd_within (cmd : HostCmd) (st r : Nat) : (finishCmd cmd st r).Within Foot.hostDone := by
  unfold finishCmd
  exact .cons (finishOne_within _ _ _) (.cons (.ask fun s => .each fun c => finishOne_within _ _ _)
    (.cons (ringStatus_within _ cmd.ring.isLt) .nil))

/-- Partners that are never below their VC lead back to a VC only along that VC itself: the dependencies between VCs that UP makes
form no cycle (R229). -/
theorem partners_no_cycle {up : Nat → Nat} (h : ∀ v, v ≤ up v) {v n : Nat} (e : Nat.repeat up n v = v) {k : Nat} (hk : k ≤ n) :
    Nat.repeat up k v = v := by
  have mono (i j : Nat) : Nat.repeat up i v ≤ Nat.repeat up (i + j) v := by
    induction j with
    | zero => exact Nat.le_refl _
    | succ j ih => exact Nat.le_trans ih (h _)
  have h0 := mono 0 k
  have h1 := mono k (n - k)
  rw [Nat.zero_add] at h0
  rw [Nat.add_sub_cancel' hk, e] at h1
  exact Nat.le_antisymm h1 h0

/-! Milestones. -/

variable {ns : List Nat}

theorem deskSet_within (c r v : Nat) (hc : c < 36) (hr : r < 64) : (deskSet c r v).Within (Foot.milestone ns) := by
  unfold deskSet
  refine .when (.set (.inr (.inr (.inl ⟨c, hc, ?_⟩))))
  simp only [inBytes, CLU_DESK_SREG_VALUE]; omega

theorem releaseWaiters_within (m : Nat) : (releaseWaiters m).Within (Foot.milestone ns) := by
  unfold releaseWaiters deskRelease
  refine .ask fun s => .cons (.each fun d => .cons ?_ (.cons (.set ?_) (.cons (.modify ?_) .nil)))
    (.cons (.part .desks rfl ?_) (.cons (.each fun c => (finishCmd_within _ _ _).left) .nil))
  · refine deskSet_within _ _ _ d.cluster.isLt ?_
    cases d.wait with
    | none => simp
    | some w => exact w.1.isLt
  · refine .inr (.inr (.inl ⟨_, d.cluster.isLt, ?_⟩)); simp only [inBytes, CLU_DESK_STATE_RUN]; omega
  · refine .inr (.inr (.inl ⟨_, d.cluster.isLt, ?_⟩)); simp only [inBytes, CLU_DESK_STATE_PC]; omega
  · simp [Foot.milestone, Foot.or, Foot.of]

theorem mlsRefresh_within (m : Nat) (hm : m < 65536) : (mlsRefresh m).Within (Foot.milestone ns) := by
  unfold mlsRefresh
  refine .ask fun s => .cons (.set (.inr (.inl ?_))) (.cons (.when (.cons (.when (signal_within _ (s.get_lt _)).left)
    (.cons (releaseWaiters_within m) (.cons (.each fun g => .put ?_) .nil)))) .nil)
  · simp only [mlsKeys, inBytes, MLS_STATUS_REACHED]; omega
  · simp [Foot.milestone, Foot.or, Foot.of]

/-- A milestone increment stays within milestones and what waits on them, and the stream that it may mark. -/
theorem mlsAdd_within (m k : Nat) (hm : m < 65536) (mark : Option Nat) (hn : ∀ n, mark = some n → n ∈ ns) :
    (mlsAdd m k mark).Within (Foot.milestone ns) := by
  unfold mlsAdd
  refine .ask fun s => .ite .skip (.seq (.ite (.cons (.set (.inr (.inl ?_))) (.cons (.set (.inr (.inl ?_))) (.cons ?_ .nil)))
    (.set (.inr (.inl ?_)))) (mlsRefresh_within m hm))
  · simp only [mlsKeys, inBytes, MLS_ENTRY_COUNT]; omega
  · simp only [mlsKeys, inBytes, MLS_STATUS_OVF]; omega
  · cases mark with
    | none => exact .skip
    | some n =>
      refine .set (.inr (.inr (.inr ⟨n, hn n rfl, ?_⟩))); simp only [ctxKeys, inBytes, STR_MILESTONE_OVERFLOW]; omega
  · simp only [mlsKeys, inBytes, MLS_ENTRY_COUNT]; omega

theorem streamCode_within (n code : Nat) : (streamCode n code).Within (Foot.milestone ns) := by
  unfold streamCode mlsCode
  refine .ask fun s => .when (.ask fun t => .when (.seq (.set (.inr (.inl ?_))) (mlsRefresh_within _ (s.get_lt _))))
  have := s.get_lt (STR_MLS_DONE n)
  simp only [mlsKeys, inBytes, MLS_STATUS_CODE, STR_MLS_DONE] at *; omega

/-! Streams and tiles. -/

/-- A field of the context of a stream of `ns`. -/
theorem ctx_key {n : Nat} {f : Field} (hn : n ∈ ns) (h : ctxKeys n f.key) : (Foot.tiles ns).keys f.key :=
  .inl (.inr (.inr (.inr ⟨n, hn, h⟩)))

theorem complete_within {n : Nat} (hn : n ∈ ns) (k : Nat) : (complete n k).Within (Foot.tiles ns) := by
  unfold complete
  refine .ask fun s => .cons (.set (ctx_key hn ?_)) (.cons (.put ?_)
    (.cons (.when (mlsAdd_within _ _ (s.get_lt _) _ ?_).left) .nil))
  · simp only [ctxKeys, inBytes, STR_TILES_DONE]; omega
  · simp [Foot.tiles, Foot.milestone, Foot.hostDone, Foot.or, Foot.of]
  · intro m e; cases e; exact hn

theorem returnCredit_within {n : Nat} (hn : n ∈ ns) (k : Nat) : (returnCredit n k).Within (Foot.tiles ns) := by
  unfold returnCredit
  refine .ask fun s => .ite .skip (.cons (.set (ctx_key hn ?_)) (.cons (.set (ctx_key hn ?_)) .nil))
  · simp only [ctxKeys, inBytes, STR_CREDITS]; omega
  · simp only [ctxKeys, inBytes, STR_WD_COUNT]; omega

theorem setNextIn_within {n : Nat} (hn : n ∈ ns) (v : Nat) : (setNextIn n v).Within (Foot.tiles ns) := by
  unfold setNextIn
  refine .ask fun s => .ite (.set (ctx_key hn ?_)) (.put ?_)
  · simp only [ctxKeys, inBytes, STR_NEXT_SEQ]; omega
  · simp [Foot.tiles, Foot.milestone, Foot.hostDone, Foot.or, Foot.of]

/-- The consumption of a tile stays within its stream, the slots and milestones. -/
theorem consume_within {n : Nat} (hn : n ∈ ns) : (consume n).Within (Foot.tiles ns) := by
  unfold consume
  refine .ask fun s => .cons (.part .slots rfl ?_) (.cons (setNextIn_within hn _) (.cons (.set (ctx_key hn ?_))
    (.cons (complete_within hn _) (.cons (returnCredit_within hn _) .nil))))
  · simp [Foot.tiles, Foot.milestone, Foot.hostDone, Foot.or, Foot.of]
  · simp only [ctxKeys, inBytes, STR_WD_COUNT]; omega

theorem originate_within (g : Option Nat) (cs : List Cell) : (originate g cs).Within (Foot.tiles ns) := by
  unfold originate
  refine .ask fun s => .when (.part .egress rfl ?_)
  simp [Foot.tiles, Foot.milestone, Foot.hostDone, Foot.or, Foot.of]

/-- The production of a tile stays within its stream, the slots and the router's queue. -/
theorem emit_within {n : Nat} (hn : n ∈ ns) (t : Tile) : (emit n t).Within (Foot.tiles ns) := by
  unfold emit
  refine .ask fun s => .cons (.set (ctx_key hn ?_)) (.cons (.set (ctx_key hn ?_)) (.cons (.put ?_)
    (.cons (.ite (.cons (.put ?_) (.cons (originate_within _ _) .nil)) (.part .slots rfl ?_)) .nil)))
  · simp only [ctxKeys, inBytes, STR_NEXT_SEQ]; omega
  · simp only [ctxKeys, inBytes, STR_CREDITS]; omega
  all_goals simp [Foot.tiles, Foot.milestone, Foot.hostDone, Foot.or, Foot.of]

theorem raiseSource_within (g n : Nat) : (raiseSource g n).Within (Foot.tiles ns) :=
  .ask fun _ => .cons (.set (.inr ⟨g, .inl rfl⟩)) (.cons (.when (.set (.inr ⟨g, .inr rfl⟩))) .nil)

theorem raiseFlags_within {n : Nat} (hn : n ∈ ns) (fl : Nat) : (raiseFlags n fl).Within (Foot.tiles ns) := by
  have set (f : Field) (h : ctxKeys n f.key) : (Act.set f 1).Within (Foot.tiles ns) := .set (ctx_key hn h)
  unfold raiseFlags
  refine .ask fun s => ?_
  have src (k : Nat) : (raiseSource (s.get (STR_GRAPH n)) k).Within (Foot.tiles ns) := raiseSource_within _ _
  exact .cons (.when (.cons (set _ (by simp only [ctxKeys, inBytes, STR_NAN_IN]; omega)) (.cons (src _) .nil)))
    (.cons (.when (.cons (set _ (by simp only [ctxKeys, inBytes, STR_INVALID]; omega)) (.cons (src _) .nil)))
    (.cons (.when (.cons (set _ (by simp only [ctxKeys, inBytes, STR_OVERFLOW]; omega)) (.cons (src _) .nil)))
    (.cons (.when (set _ (by simp only [ctxKeys, inBytes, STR_DENORM_FLUSHED]; omega)))
    (.cons (.when (set _ (by simp only [ctxKeys, inBytes, STR_SATURATE]; omega)))
    (.cons (.when (.cons (set _ (by simp only [ctxKeys, inBytes, STR_INT_SAT]; omega)) (.cons (src _) .nil)))
    (.cons (.when (set _ (by simp only [ctxKeys, inBytes, STR_EMPTY]; omega))) .nil))))))

theorem raisePoisoned_within {n : Nat} (hn : n ∈ ns) : (raisePoisoned n).Within (Foot.tiles ns) := by
  unfold raisePoisoned
  refine .ask fun s => .cons (.set (ctx_key hn ?_)) (.cons (raiseSource_within _ _) .nil)
  simp only [ctxKeys, inBytes, STR_POISONED]; omega

theorem charge_within (k d : Nat) : (charge k d).Within (Foot.tiles ns) := by
  unfold charge
  refine .ask fun s => .cons (.part .allow rfl ?_) (.cons (.when (.put ?_)) .nil)
  all_goals simp [Foot.tiles, Foot.milestone, Foot.hostDone, Foot.or, Foot.of]

theorem Act.Within.each_mem {α : Type} {F : Foot} {l : List α} {f : α → Act} (h : ∀ x ∈ l, (f x).Within F) :
    (Act.each l f).Within F := by
  unfold Act.each
  have := h
  induction l with
  | nil => exact .nil
  | cons x l ih =>
    exact .cons (h x (by simp)) (ih (fun y hy => h y (by simp [hy])) fun y hy => h y (by simp [hy]))

/-- The tiles of a firing stay within its streams, the slots, the router's queue, the budget and milestones. -/
theorem fireTiles_within {a : Alt} {outs : List (Nat × Tile)} (ha : ∀ n ∈ a.streams, n ∈ ns) (ho : ∀ o ∈ outs, o.1 ∈ ns) :
    (fireTiles a outs).Within (Foot.tiles ns) := by
  unfold fireTiles
  exact .ask fun s => .cons (.each_mem fun o h => .ask fun s' => emit_within (ho o h) _)
    (.cons (.when (.each_mem fun n h => raisePoisoned_within (ha n h)))
      (.cons (.each_mem fun n h => consume_within (ha n (by simp [Alt.streams, h]))) .nil))

/-- A stream stops: its flag rises, and the event waits for its record. -/
theorem stopStream_within {n : Nat} (hn : n ∈ ns) (f : Field) (h : ctxKeys n f.key) (k : Nat) :
    (stopStream f n k).Within (Foot.or (Foot.tiles ns) (Foot.of (fun _ => False) [] [.faultDue])) := by
  unfold stopStream noteFault
  exact .ask fun s => .seq (.set (.inl (ctx_key hn h))) (.when (.ask fun t => .part .faultDue rfl (.inr (by simp [Foot.of]))))

/-! Stations. -/

theorem advance_within (e : Nat) : (advance e 0).Within (Foot.firing e ns) := by
  unfold advance
  refine .ask fun s => ?_
  split
  · refine .seq (.set (.inr ?_)) (.put (.inr ?_))
    all_goals simp [Foot.of, stationKeys, inBytes, STN_STATUS_STEP_IDX]
    omega
  · exact .skip

/-- A whole firing stays within its tiles and its station's status. -/
theorem finishFiring_within {e : Nat} {a : Alt} {outs : List (Nat × Tile)} (ha : ∀ n ∈ a.streams, n ∈ ns)
    (ho : ∀ o ∈ outs, o.1 ∈ ns) : (finishFiring e 0 a outs).Within (Foot.firing e ns) :=
  .seq (fireTiles_within ha ho).left (advance_within e)

end Sys2Proof.Machine
end

