-- ==== Sys2Proof/Laws/Regs.lean ====
section
/-!
SUPPORT. Laws of the register map and of a write by access codes: the fields of a register lie apart, and each changes by its own code.
-/

namespace Sys2Proof.Machine

/-- No two fields of a register start at the same bit. -/
theorem table_fields_apart : (Reg.table.all fun r => decide ((r.fields.map (·.lo)).Nodup)) = true := by decide +kernel

/-- Every field holds its reset value in its width. -/
theorem table_resets_fit : (Reg.table.all fun r => r.fields.all fun f => decide (f.reset < 2 ^ f.width)) = true := by decide +kernel

theorem regAt_mem {off a : Nat} {r : RegDef} (h : regAt off = some (a, r)) : r ∈ Reg.table := by
  obtain ⟨x, hx, e⟩ := List.exists_of_findSome?_eq_some h
  cases hc : x.covers off with
  | none => simp [hc] at e
  | some b =>
    simp only [hc, Option.map_some, Option.some.injEq, Prod.mk.injEq] at e
    exact e.2 ▸ hx

theorem setBits_whole (old w x : Nat) (h : old < 2 ^ w) : setBits old 0 w x = x % 2 ^ w := by
  simp [setBits, Nat.shiftRight_eq_div_pow, Nat.div_eq_of_lt h, Nat.mod_one]

end Sys2Proof.Machine
end

