-- ==== Sys2Proof/Laws/Step.lean ====
section
/-!
SUPPORT. What any command and any step can do: a next state comes from the state before by elementary updates.
-/

namespace Sys2Proof.Machine

theorem live_eq {a : Act} {s : State} (h : s.running = true) : live a s = .next (a.run s) := by simp [live, h]

theorem live_off {a : Act} {s : State} (h : s.running = false) : live a s = .next s := by simp [live, h]

theorem secLive_eq {a : Act} {s : State} (h : s.enumerated = true) : secLive a s = .next (a.run s) := by simp [secLive, h]

theorem vecMeaning_eq {c : Cluster} {i : Instr} {ok : Bool} {a : Act} {s : State} (k : ok = true) (h : s.running = true)
    (n : s.vecNext c = some i) : vecMeaning c i ok a s = .next (a.run s) := by simp [vecMeaning, k, h, n]

theorem deskMeaning_eq {c : Cluster} {i : Instr} {a : Act} {s : State} (h : s.running = true) (n : s.deskIssues c (some i) = true) :
    deskMeaning c i a s = .next (a.run s) := by simp [deskMeaning, live, h, n]

theorem next_reach {a : Act} {s t : State} (h : (Host.Outcome.next (a.run s) : Host.Outcome State Fault Refusal) = .next t) :
    Reach s t := by
  cases h; exact a.ok s

theorem live_reach {a : Act} {s t : State} (h : live a s = .next t) : Reach s t := next_reach h

theorem sec_reach {a : Act} {s t : State} (h : secLive a s = .next t) : Reach s t := next_reach h

theorem vec_reach {c : Cluster} {i : Instr} {ok : Bool} {a : Act} {s t : State} (h : vecMeaning c i ok a s = .next t) : Reach s t := by
  unfold vecMeaning at h
  split at h
  · split at h
    · exact next_reach h
    · cases h
  · cases h; exact .refl _

theorem desk_reach {c : Cluster} {i : Instr} {a : Act} {s t : State} (h : deskMeaning c i a s = .next t) : Reach s t := live_reach h

/-- A command that gives a next state is a run of elementary updates. -/
theorem exec_reach {c : Instr} {s t : State} (h : exec c s = .next t) : Reach s t := by
  cases c with
  | vadd | vsub | vmul | vfma | vmax | vmin | vabs | vneg | vdot4 | vdot2 | vrcp | vrsqrt | vexp2 | vlog2 | vdiv | vsqrt
  | vcmp | vsel | mand | mor | mnot | mpop | vand | vor | vxor | vshl | vshr | vsar | vcvt | vmov | vbrd | vxb | vrot | vbcl
  | vidx | vrsum | vrprod | vrmax | vrmin | vramax | vramin | vld | vst | vldh | vseth | vrng | vout | vseta | vadda | vloop
  | vend => exact vec_reach h
  | deskAdd | deskSub | deskAnd | deskOr | deskXor | deskSll | deskSrl | deskSra | deskSlt | deskSltu | deskMul | deskMulhu
  | deskDivu | deskAddi | deskAndi | deskOri | deskSlli | deskSrli | deskSrai | deskLui | deskLw | deskSw | deskLbu | deskSb
  | deskBeq | deskBne | deskBlt | deskBge | deskBltu | deskBgeu | deskJal | deskJalr | deskFadd | deskFsub | deskFmul
  | deskFlt | deskFcvtws | deskFcvtsw | deskMwait | deskMinc | deskMtgt | deskMrd | deskCsrr | deskCsrw | deskLdx | deskStx
  | deskTin | deskTout | deskHalt => exact desk_reach h
  | getCert | getReport | fwWrite | fwSeal | setPref | commitSvn | enroll | debugUnlock | measExtend | doeInvalidRequest => exact sec_reach h
  | registerWrite | rcRead | modeRequest | conventionalReset | powerOn | bootWatchdogExpiry | rootLockLost | watchCommit
  | watchSample | smbusAddressMatch | wakeNLow | pcieWake | inputPowerLoss | moduleWithdrawal | thermalTrip | laserInsert
  | laserRemove | laserFault | temperatureRefresh | pcieLinkTraining => exact next_reach h
  | _ => exact live_reach h

/-- A step that gives a next state is a run of elementary updates, on the queue's rest where it took a command. -/
theorem step_reach {s t : State} (h : step s = .next t) : Reach s t ∨ Reach { s with pending := s.pending.tail } t := by
  unfold step at h
  split at h
  · exact .inl (next_reach h)
  · rename_i e; rw [e]; exact .inr (exec_reach h)

end Sys2Proof.Machine
end

