-- ==== Sys2Proof/WellFormed.lean ====
section
/-!
DEFINITION. Which commands are well formed: operands that the hardware can meet. Ranges that a type does not already fix are checked here;
a meaning is total and answers for every operand.
-/

namespace Sys2Proof

open Machine

/-- A cell of the kind given, on a VC that R212 allows it, with its reserved bits 0 (R210, R212). -/
def Cell.ofKind (c : Cell) (k : Nat) : Bool :=
  c.kind.toNat = k && ((k = 2 || k = 8 || k = 9) = (c.vc = 0#3)) && c.reserved = 0#3

/-- A message of COLL or GRAD cells: a header cell, and data cells of the same kind (R290, R327). -/
def wholeMessage (cells : List Cell) : Bool :=
  match cells with
  | [] => false
  | h :: t => (h.ofKind 4 || h.ofKind 5) && t.all fun c => c.kind = h.kind

/-- A message of an exchange has a place in it: R288 gives an actor and a phase one bit, and R289 the widths of its other fields. -/
def MsgKey.ok (k : MsgKey) : Bool :=
  k.actor < 2 && k.phase < 2 && k.level < 4 && k.dir < 2 && k.col < 2 ^ 32 && k.round < 256 && k.digit < 256 && k.part < 2 ^ 16

/-- Blocks of the chest that there are (R453). -/
def blocksOk (l : List Nat) : Bool := l.all (· < chestDies * dieBlocks)

/-- A start-up trains at most the sixteen shelf channels there are (R191). -/
def StartUp.ok (o : StartUp) : Bool := o.dimms.length ≤ 16

/-- A well-formed command. -/
def Instr.wellFormed : Instr → Bool
  | .registerWrite _ _ _ _ => true
  | .rcRead _ _ _ _ _ => true
  | .barMemoryWrite _ _ data _ => data ≠ []
  | .modeRequest _ => true
  | .stbyPllLock => true
  | .supplyRaiseSettled => true
  | .budgetPeriodBoundary => true
  | .budgetSetSelect _ _ => true
  | .streamContextWrite _ _ _ => true
  | .nextSeqRewrite _ _ => true
  | .streamFaultClear _ _ _ => true
  | .streamWatchdogFire _ => true
  | .mlsIncWrite _ _ => true
  | .milestoneEntryWrite _ _ _ => true
  | .stationQuiesce e => isStation e.toNat
  | .stationResume e => isStation e.toNat
  | .stationAbort e => isStation e.toNat
  | .convert _ => true
  | .stashEnc _ => true
  | .stashDec _ => true
  | .copy _ => true
  | .compensate _ => true
  | .clrLost _ => true
  | .clrAmax _ _ => true
  | .benchLoad _ _ _ _ => true
  | .benchStream _ _ _ _ _ => true
  | .clrChkfailL _ _ => true
  | .clrChkfailH _ _ => true
  | .clrChkskip _ _ => true
  | .clrAcc _ _ => true
  | .vecRun _ => true
  | .vadd _ i => etIn i 0 4
  | .vsub _ i => etIn i 0 4
  | .vmul _ i => etIn i 0 4
  | .vfma _ i => etIn i 2 4
  | .vmax _ i => etIn i 0 6
  | .vmin _ i => etIn i 0 6
  | .vabs _ i => etIn i 0 6
  | .vneg _ i => etIn i 0 6
  | .vdot4 _ i => etIn i 0 0
  | .vdot2 _ i => etIn i 2 3
  | .vrcp _ i => etIn i 4 4
  | .vrsqrt _ i => etIn i 4 4
  | .vexp2 _ i => etIn i 4 4
  | .vlog2 _ i => etIn i 4 4
  | .vdiv _ i => etIn i 4 4
  | .vsqrt _ i => etIn i 4 4
  | .vcmp _ i => etIn i 0 6 && i.imm.toNat % 8 ≠ (if etInt i.et.toNat then 6 else 7)
  | .vsel _ i => etIn i 0 6 && i.men && !i.mz
  | .mand _ _ => true
  | .mor _ _ => true
  | .mnot _ _ => true
  | .mpop _ i => etIn i 0 6
  | .vand _ i => etIn i 0 1
  | .vor _ i => etIn i 0 1
  | .vxor _ i => etIn i 0 1
  | .vshl _ i => etIn i 0 1
  | .vshr _ i => etIn i 0 1
  | .vsar _ i => etIn i 0 1
  | .vcvt _ i => etIn i 0 6 && i.imm.toNat % 8 ≠ 7
  | .vmov _ i => etIn i 0 6
  | .vbrd _ i => etIn i 0 6
  | .vxb _ i => etIn i 1 1
  | .vrot _ i => etIn i 1 1
  | .vbcl _ i => etIn i 1 1
  | .vidx _ i => etIn i 0 6
  | .vrsum _ i => etIn i 0 4
  | .vrprod _ i => etIn i 1 4
  | .vrmax _ i => etIn i 0 6
  | .vrmin _ i => etIn i 0 6
  | .vramax _ i => etIn i 0 6
  | .vramin _ i => etIn i 0 6
  | .vld _ _ => true
  | .vst _ i => etIn i 0 6 && i.vb.toNat < 2
  | .vldh _ _ => true
  | .vseth _ i => i.imm.toNat % 16 < 9 && i.vb.toNat < 2
  | .vrng _ i => i.sa.toNat ≤ 61
  | .vout _ i => etIn i 1 1
  | .vseta _ _ => true
  | .vadda _ _ => true
  | .vloop _ _ => true
  | .vend _ => true
  | .vecImemDataAccess _ _ => true
  | .deskMemDataAccess _ _ => true
  | .deskRun _ => true
  | .deskAdd _ _ _ _ => true
  | .deskSub _ _ _ _ => true
  | .deskAnd _ _ _ _ => true
  | .deskOr _ _ _ _ => true
  | .deskXor _ _ _ _ => true
  | .deskSll _ _ _ _ => true
  | .deskSrl _ _ _ _ => true
  | .deskSra _ _ _ _ => true
  | .deskSlt _ _ _ _ => true
  | .deskSltu _ _ _ _ => true
  | .deskMul _ _ _ _ => true
  | .deskMulhu _ _ _ _ => true
  | .deskDivu _ _ _ _ => true
  | .deskAddi _ _ _ _ => true
  | .deskAndi _ _ _ _ => true
  | .deskOri _ _ _ _ => true
  | .deskSlli _ _ _ _ => true
  | .deskSrli _ _ _ _ => true
  | .deskSrai _ _ _ _ => true
  | .deskLui _ _ _ => true
  | .deskLw _ _ _ _ => true
  | .deskSw _ _ _ _ => true
  | .deskLbu _ _ _ _ => true
  | .deskSb _ _ _ _ => true
  | .deskBeq _ _ _ _ => true
  | .deskBne _ _ _ _ => true
  | .deskBlt _ _ _ _ => true
  | .deskBge _ _ _ _ => true
  | .deskBltu _ _ _ _ => true
  | .deskBgeu _ _ _ _ => true
  | .deskJal _ _ _ => true
  | .deskJalr _ _ _ _ => true
  | .deskFadd _ _ _ _ => true
  | .deskFsub _ _ _ _ => true
  | .deskFmul _ _ _ _ => true
  | .deskFlt _ _ _ _ => true
  | .deskFcvtws _ _ _ => true
  | .deskFcvtsw _ _ _ => true
  | .deskMwait _ _ _ => true
  | .mwaitTimeout _ => true
  | .deskMinc _ _ _ => true
  | .deskMtgt _ _ _ => true
  | .deskMrd _ _ _ => true
  | .deskCsrr _ _ _ => true
  | .deskCsrw _ _ _ => true
  | .deskLdx _ _ _ _ => true
  | .deskStx _ _ _ _ => true
  | .deskTin _ _ _ _ => true
  | .deskTout _ _ _ => true
  | .deskHalt _ => true
  | .memWrite e => isMemory e.toNat
  | .memRead e strikes => isMemory e.toNat && strikes.all fun p => p.2 ≤ 16
  | .drawerScrub _ _ _ => true
  | .shelfScrub _ _ _ _ _ _ => true
  | .shelfRefresh _ _ _ => true
  | .drwClrCe _ => true
  | .drwClrUe _ => true
  | .shfClrCe _ => true
  | .shfClrUe _ => true
  | .tileCellRx _ c _ => c.ofKind 1
  | .creditCellSend _ => true
  | .creditCellRx _ c _ => c.ofKind 2
  | .mlsIncCell _ c => c.ofKind 3
  | .cellRoute _ _ _ => true
  | .mcastCell _ _ _ => true
  | .noticeCell _ c => c.ofKind 9
  | .fenceEntryWrite _ _ _ => true
  | .mcastFencedWrite _ _ => true
  | .routerCounterClear _ => true
  | .frameTx _ _ => true
  | .frameRx _ frame _ _ _ _ => frame.length = 1296
  | .replayTimeout _ => true
  | .nakRetryTimeout _ => true
  | .linkLightLost _ _ => true
  | .linkLightPresent _ => true
  | .linkLockDone _ => true
  | .linkFecDone _ => true
  | .linkFrameDone _ => true
  | .creditHandshake _ _ => true
  | .linkStageTimeout _ => true
  | .dark _ _ => true
  | .retrain _ => true
  | .linkCounterClear _ _ => true
  | .waymarkSend _ => true
  | .waymarkRx _ => true
  | .electionRecompute _ => true
  | .discSettle => true
  | .coll _ _ => true
  | .pieceSend _ k _ => k.ok
  | .pieceMessage cells _ => wholeMessage cells
  | .collCredit c => c.ofKind 2
  | .abortCell c => c.ofKind 7
  | .enterCell c => c.ofKind 4
  | .collWatchdogFire _ => true
  | .lagClear => true
  | .collCounterClear _ => true
  | .commitAttempt _ => true
  | .commitCell c => c.ofKind 6
  | .commitWatchdogFire _ => true
  | .stepHalt _ => true
  | .resume _ => true
  | .rollback _ => true
  | .forceFail _ => true
  | .stepNumWrite _ _ => true
  | .failHoldExpiry _ => true
  | .failDeclare _ => true
  | .failNotice => true
  | .fabricRoleWrite r => r ≠ 3#2
  | .bucket _ _ => true
  | .bucketFinish _ _ _ => true
  | .sampleMessage cells _ => wholeMessage cells
  | .publish _ _ => true
  | .gather _ => true
  | .publicationMessage cells _ => wholeMessage cells
  | .gradCounterClear _ => true
  | .planCtrlLoad => true
  | .abandon _ => true
  | .tollgateCheck => true
  | .quiescentPoint => true
  | .activationCycle => true
  | .commandAccept _ _ => true
  | .nop _ => true
  | .regWr _ => true
  | .regRd _ => true
  | .mlsInc _ => true
  | .mlsWait _ => true
  | .copyH2D _ _ _ _ _ => true
  | .copyD2H _ _ _ _ _ => true
  | .planLoad _ => true
  | .budget _ _ => true
  | .snapshot _ => true
  | .fence _ => true
  | .coalTimerExpiry _ => true
  | .cmdRingRun _ _ => true
  | .cmdRingReset _ => true
  | .abortWaits _ => true
  | .cplRingConfigWrite _ _ _ _ => true
  | .put _ => true
  | .get frame _ => frame.all fun f => 16 ≤ f.1.length
  | .conventionalReset _ o => o.ok
  | .functionLevelReset _ => true
  | .getCert _ _ => true
  | .getReport _ _ _ _ => true
  | .fwWrite _ _ => true
  | .fwSeal _ _ => true
  | .setPref _ _ => true
  | .commitSvn _ => true
  | .enroll _ _ => true
  | .debugUnlock _ _ => true
  | .measExtend _ _ => true
  | .powerOn o => o.ok
  | .bootWatchdogExpiry o => o.ok
  | .rootLockLost o => o.ok
  | .idleRequest => true
  | .idleExit => true
  | .arm => true
  | .cancel => true
  | .watchCommit _ _ o => o.ok
  | .watchSample _ _ o => o.ok
  | .smbusAddressMatch _ _ _ o => o.ok
  | .wakeNLow _ _ _ o => o.ok
  | .pcieWake _ o => o.ok
  | .off => true
  | .inputPowerLoss _ => true
  | .moduleWithdrawal _ => true
  | .thermalTrip _ => true
  | .snapshotRequest => true
  | .snapshotComplete => true
  | .faultRecordPost _ _ => true
  | .clrFltLost => true
  | .clrDrainDrop => true
  | .rewind _ _ => true
  | .rewindDrainEnd _ => true
  | .fold _ => true
  | .checkSeal _ => true
  | .verify _ => true
  | .checkStateWrite _ _ => true
  | .checkConfigWrite _ _ _ => true
  | .clrMismatch _ => true
  | .append _ bad => blocksOk bad
  | .chestRead _ _ => true
  | .chestOpen _ bad _ => blocksOk bad
  | .chestSeal _ bad _ => blocksOk bad
  | .erase _ bad _ => blocksOk bad
  | .park _ bad _ _ => blocksOk bad
  | .unpark _ _ _ => true
  | .chestRewind _ _ => true
  | .format factory bad _ => blocksOk factory && blocksOk bad
  | .chestScrubPass _ bad => blocksOk bad
  | .chestCounterClear _ => true
  | .laserOff _ _ => true
  | .laserInsert _ => true
  | .laserRemove _ => true
  | .laserFault _ => true
  | .temperatureRefresh _ => true
  | .illegalInstruction _ => true
  | .pcieLinkTraining _ width _ _ => [0, 1, 2, 4, 8, 16].contains width.toNat
  | .doeInvalidRequest _ _ => true

end Sys2Proof
end

