-- ==== Sys2Proof/Tests/Slice0.lean ====
section
/-!
SUPPORT. Tests: ill-formed commands that `wellFormed` refuses, steps with results that the spec gives, and for each statement with
hypotheses a concrete state and operands that meet them, clause by clause.
-/

namespace Sys2Proof.Tests

set_option Elab.async false

open Sys2Proof Sys2Proof.Machine Sys2Proof.Machine.Reg

/-! Small states. -/

/-- A state with some fields set. -/
def fields (s : State) (l : List (Field × Nat)) : State := l.foldl (fun s p => s.set p.1 p.2) s

/-- A tile of `rows` × `cols` codes whose payload is given byte by byte. -/
def tile (fmt rows cols rowBytes : Nat) (payload : List Nat) : Tile :=
  ⟨fmt + rows <<< 16 + cols <<< 32 + rowBytes <<< 48 + (rows * rowBytes) <<< 224 + leNat (payload.map fun c => BitVec.ofNat 8 c) <<< 256⟩

/-- A running chip with station `e` at a step of one alternative `op`: its inputs are the on-chip streams 10 and on, each with its tile,
its outputs the streams 20 and on, all of graph 1. -/
def station (s : State) (e part op : Nat) (tiles : List Tile) (outs : Nat) : State :=
  let i := (List.range tiles.length).map (10 + ·)
  let o := (List.range outs).map (20 + ·)
  let s := i.foldl (fun s n => fields (s.wr .rxSeq n 0) [(STR_VALID n, 1), (STR_DST_ENDPT n, e), (STR_SRC_ENDPT n, 2), (STR_CREDIT_MAX n, 4),
    (STR_CREDITS n, 3), (STR_GRAPH n, 1)]) s
  let s := o.foldl (fun s n => fields s [(STR_VALID n, 1), (STR_SRC_ENDPT n, e), (STR_DST_ENDPT n, 2), (STR_CREDIT_MAX n, 4),
    (STR_CREDITS n, 4), (STR_GRAPH n, 1)]) s
  let s := fields s [(STN_CTRL_ENABLE e, 1), (STN_STATUS_STEP_IDX e, 0), (STN_STATUS_QUIESCED e, 0), (GLB_SET_BENCH 0 1, 512), (GLB_SET_VECTOR 0 1, 512),
    (GLB_SET_DRAWER 0 1, 512), (GLB_SET_SHELF 0 1, 512), (GLB_SET_HOST_OUT 0 1, 512), (GLB_SET_HOST_IN 0 1, 512),
    (GLB_SET_CHEST 0 1, 512)]
  { s with
    slots := (i.zip tiles).map fun p => wholeSlot p.1 0 p.2
    progs := [⟨e, part, [⟨1, [⟨op, i.map some, o.map some⟩]⟩, ⟨0, []⟩]⟩]
    allow := [(allowKey e part 1, 1000000), (allowKey e 1 1, 1000000)] }

/-- The one alternative of such a station. -/
def alt (op ins outs : Nat) : Alt := ⟨op, (List.range ins).map fun k => some (10 + k), (List.range outs).map fun k => some (20 + k)⟩

/-- A sound FP32 tile and a sound BF16 tile of two elements, 1 and −2. -/
def x32 : Tile := tile 0x0A 1 2 8 [0, 0, 0x80, 0x3F, 0, 0, 0, 0xC0]
def x16 : Tile := tile 0x09 1 2 4 [0x80, 0x3F, 0x00, 0xC0]

/-- The next state of an outcome; the state before it where there is none. -/
def after (o : Host.Outcome State Fault Refusal) (s : State) : State :=
  match o with
  | .next t => t
  | _ => s

/-- The outcome is a next state. -/
def ran (o : Host.Outcome State Fault Refusal) : Bool :=
  match o with
  | .next _ => true
  | _ => false

/-- A cell to endpoint `e` on stream `n`, of a kind, on a VC, with a payload. -/
def cellTo (kind vc e n payload : Nat) : Cell :=
  ⟨0, .ofNat 9 e, .ofNat 18 n, 0, .ofNat 3 vc, .ofNat 5 kind, false, false, false, true, 0, 0, .ofNat 512 payload⟩

/-- Fields of a vector instruction: ET, VD, VA, VB and IMM. -/
def vi (et vd va vb imm : Nat) : VInsn :=
  ⟨.ofNat 3 et, .ofNat 5 vd, .ofNat 5 va, .ofNat 5 vb, 0, 0, false, false, 0, false, false, .ofNat 16 imm⟩

/-- A vector firing of cluster 0 with no tiles: its snapshot register s`k` is `k`. -/
def vf (a : Alt) : VecFiring :=
  ⟨0, 1, a, false, false, List.range 64, [], [], [], [], 0, [], [], 0, 0, 0, [], []⟩

/-- The word of a vector instruction (R121, R127). -/
def vword (op : Nat) (i : VInsn) : Nat :=
  op + i.et.toNat <<< 8 + i.vd.toNat <<< 11 + i.va.toNat <<< 16 + i.vb.toNat <<< 21 + i.vc.toNat <<< 26 + i.msk.toNat <<< 31 +
    b2n i.men <<< 34 + b2n i.mz <<< 35 + i.sa.toNat <<< 36 + b2n i.sb <<< 42 + b2n i.rnd <<< 43 + i.imm.toNat <<< 48

/-- The state with a word at the PC of the vector engine, or of the desk, of cluster 0. -/
def vat (w : Nat) (s : State) : State := s.wr .vimem (s.get (CLU_VEC_STATE_PC 0)) w
def dat (w : Nat) (s : State) : State := s.wr .dimem (s.get (CLU_DESK_STATE_PC 0)) w

/-- An alternative is the one the station fires: the first ready and funded one. -/
def readies (s : State) (e part : Nat) (ready : Alt → Bool) (a : Alt) : Bool := s.firstReady e part ready = some a

/-- Tile on stream `n` in the slots of a state. -/
def slotTile (s : State) (n : Nat) : Tile := ((s.slots.find? fun x => x.stream = n).map fun x => x.tile).getD ⟨0⟩

/-! Ill-formed commands are refused by `wellFormed`, and a well-formed one beside each is not. -/

theorem test_wf_host_write_stores_something :
    (Instr.barMemoryWrite false 0 [] []).wellFormed = false ∧ (Instr.barMemoryWrite false 0 [1] []).wellFormed = true := by decide

theorem test_wf_station_commands_name_a_station :
    (Instr.stationQuiesce 0x1FF).wellFormed = false ∧ (Instr.stationResume 0x1FF).wellFormed = false ∧
    (Instr.stationAbort 0x1FF).wellFormed = false ∧ (Instr.stationQuiesce 5).wellFormed = true := by decide

theorem test_wf_memory_commands_name_a_memory :
    (Instr.memWrite 4).wellFormed = false ∧ (Instr.memRead 4 []).wellFormed = false ∧
    (Instr.memRead 6 [(0, 17)]).wellFormed = false ∧ (Instr.memRead 6 [(0, 2)]).wellFormed = true := by decide

theorem test_wf_vector_element_types :
    (Instr.vadd 0 (vi 5 0 0 0 0)).wellFormed = false ∧ (Instr.vfma 0 (vi 1 0 0 0 0)).wellFormed = false ∧
    (Instr.vmax 0 (vi 7 0 0 0 0)).wellFormed = false ∧ (Instr.vdot4 0 (vi 1 0 0 0 0)).wellFormed = false ∧
    (Instr.vdot2 0 (vi 4 0 0 0 0)).wellFormed = false ∧ (Instr.vrcp 0 (vi 2 0 0 0 0)).wellFormed = false ∧
    (Instr.vand 0 (vi 2 0 0 0 0)).wellFormed = false ∧ (Instr.vxb 0 (vi 0 0 0 0 0)).wellFormed = false ∧
    (Instr.vrprod 0 (vi 0 0 0 0 0)).wellFormed = false ∧ (Instr.vout 0 (vi 4 0 0 0 0)).wellFormed = false ∧
    (Instr.vadd 0 (vi 4 0 0 0 0)).wellFormed = true := by decide

theorem test_wf_vector_reserved_values :
    (Instr.vcmp 0 (vi 1 0 0 0 6)).wellFormed = false ∧ (Instr.vcmp 0 (vi 4 0 0 0 7)).wellFormed = false ∧
    (Instr.vsel 0 (vi 4 0 0 0 0)).wellFormed = false ∧ (Instr.vcvt 0 (vi 4 0 0 0 7)).wellFormed = false ∧
    (Instr.vst 0 (vi 4 0 0 2 0)).wellFormed = false ∧ (Instr.vseth 0 (vi 4 0 0 0 9)).wellFormed = false ∧
    (Instr.vrng 0 { vi 4 0 0 0 0 with sa := 62 }).wellFormed = false ∧ (Instr.vcmp 0 (vi 4 0 0 0 5)).wellFormed = true := by decide

theorem test_wf_cells_have_their_kind_and_vc :
    (Instr.tileCellRx none (cellTo 2 1 5 0 0) false).wellFormed = false ∧ (Instr.creditCellRx none (cellTo 2 1 5 0 0) false).wellFormed = false ∧
    (Instr.mlsIncCell none (cellTo 1 1 5 0 0)).wellFormed = false ∧ (Instr.noticeCell none (cellTo 9 1 5 0 0)).wellFormed = false ∧
    (Instr.collCredit (cellTo 1 1 5 0 0)).wellFormed = false ∧ (Instr.abortCell (cellTo 1 1 5 0 0)).wellFormed = false ∧
    (Instr.enterCell (cellTo 1 1 5 0 0)).wellFormed = false ∧ (Instr.commitCell (cellTo 1 1 5 0 0)).wellFormed = false ∧
    (Instr.creditCellRx none (cellTo 2 0 5 0 0) false).wellFormed = true ∧
    (Instr.tileCellRx none { cellTo 1 1 5 0 0 with reserved := 1 } false).wellFormed = false := by decide

theorem test_wf_messages_are_whole :
    (Instr.pieceMessage [] []).wellFormed = false ∧ (Instr.sampleMessage [cellTo 1 1 0 0 0] []).wellFormed = false ∧
    (Instr.publicationMessage [cellTo 5 1 0 0 0, cellTo 4 1 0 0 0] []).wellFormed = false ∧
    (Instr.pieceMessage [cellTo 4 1 0 0 0] []).wellFormed = true := by decide

theorem test_wf_message_keys :
    (Instr.pieceSend 0 ⟨2, false, 0, 0, 0, 0, 0, 0, 0, 0⟩ []).wellFormed = false ∧
    (Instr.pieceSend 0 ⟨0, false, 2, 0, 0, 0, 0, 0, 0, 0⟩ []).wellFormed = false ∧
    (Instr.pieceSend 0 ⟨0, false, 0, 4, 0, 0, 0, 0, 0, 0⟩ []).wellFormed = false ∧
    (Instr.pieceSend 0 ⟨0, false, 0, 0, 0, 0, 0, 0, 0, 0⟩ []).wellFormed = true := by decide

theorem test_wf_frames_have_their_length :
    (Instr.frameRx 0 [] false 0 0 false).wellFormed = false ∧
    (Instr.frameRx 0 (List.replicate 1296 0) false 0 0 false).wellFormed = true ∧
    (Instr.get (some ([0], false)) false).wellFormed = false ∧ (Instr.get none false).wellFormed = true := by decide +kernel

/-- A start-up in which everything trains. -/
def goodStart : StartUp := ⟨true, [⟨true, true, true, 3⟩], 0xFF, (true, true), none, 0⟩

theorem test_wf_roles_links_and_blocks :
    (Instr.fabricRoleWrite 3).wellFormed = false ∧
    (Instr.pcieLinkTraining 6 3 true none).wellFormed = false ∧ (Instr.pcieLinkTraining 6 16 true none).wellFormed = true ∧
    (Instr.powerOn { goodStart with dimms := List.replicate 17 ⟨true, true, true, 3⟩ }).wellFormed = false ∧
    (Instr.conventionalReset [] { goodStart with dimms := List.replicate 17 ⟨true, true, true, 3⟩ }).wellFormed = false ∧
    (Instr.powerOn goodStart).wellFormed = true ∧
    (Instr.append 0 [211968]).wellFormed = false ∧ (Instr.erase 0 [211967] false).wellFormed = true := by decide

/-! Witnesses of the hypotheses of the statements, and steps with results that the spec gives. -/

theorem witness_EmptyQueueTicksCycleCounters :
    State.reset.pending = [] ∧ State.reset.running = true ∧ (State.reset.set GLB_BOOT_STATUS_FAIL 1).running = false ∧
    (State.reset.set GLB_BOOT_STATUS_FAIL 1).off = false ∧ (State.reset.set PWR_STATE_STATUS_STATE 3).off = true := by decide +kernel

/-- In mode B five AO cycles hold 64 SCLK cycles (R11). -/
theorem test_mode_b_ticks :
    let s := State.reset.set PWR_OPMODE_CUR 1
    ((List.range 5).foldl (fun s _ => after (step s) s) s).get CNT_CYCLE_COUNT = 64 := by decide +kernel

theorem witness_CommandsLeaveQueueAlone : ∃ t, exec (.modeRequest 1#2) { State.reset with pending := [.stbyPllLock] } = .next t := ⟨_, rfl⟩

theorem witness_EveryStepKeepsCanonicalForm : Canonical State.reset ∧ ∃ t, step State.reset = .next t :=
  ⟨⟨rfl, rfl, fun b => by cases b <;> rfl⟩, _, rfl⟩

theorem witness_ResetGivesTableValues : PWR_WATCH_CFG_PERIOD_MS.reset < 2 ^ PWR_WATCH_CFG_PERIOD_MS.width := by decide +kernel

theorem witness_StoppedChipIgnoresSynchronousCommands :
    (State.reset.set PWR_STATE_STATUS_STATE 2).running = false ∧ (State.reset.set PWR_STATE_STATUS_STATE 3).running = false ∧
    (State.reset.set GLB_BOOT_STATUS_FAIL 1).running = false ∧ alwaysOn (.convert 0) = false ∧ alwaysOn (.put false) = false := by
  decide +kernel

/-- A register with a plain field: GLB_NUMCTL, whose FLUSH is RW. -/
theorem witness_RegisterWriteFollowsAccessCodes :
    State.reset.running = true ∧ (0x100 : Nat) % 4 = 0 ∧ (specials.findSome? fun x => x.covers 0x100) = none ∧
    regAt 0x100 = some (0x100, ⟨0x100, 0, 1, 4, [⟨0, 1, .rw, 1⟩]⟩) ∧ (FieldDef.mk 0 1 .rw 1).part 0 = some (0, 1, 0) := by
  decide +kernel

/-- A W1C bit that the hardware sets in the same cycle stays set, and the one beside it is cleared (R4). -/
theorem test_hardware_set_wins :
    let s := fields State.reset [(STR_LOST 5, 1), (STR_ABORTED 5, 1)]
    let t := after (exec (.registerWrite 0x03000168 4 0x24 4) s) s
    t.get (STR_LOST 5) = 1 ∧ t.get (STR_ABORTED 5) = 0 := by decide +kernel

/-- A read that clears leaves what is counted in the same cycle (R3). -/
theorem test_read_clears_then_counts :
    let s := State.reset.set (HST_TQ_REPEATS_COUNT 0) 7
    let t := after (exec (.rcRead .bar0 0x00102028 8 1 []) s) s
    t.readOut = 7 ∧ t.get (HST_TQ_REPEATS_COUNT 0) = 1 := by decide +kernel

/-- A write of 0 to it clears FLUSH (R2). -/
theorem test_write_clears_flush :
    (after (exec (.registerWrite 0x100 4 0 0) State.reset) State.reset).get GLB_NUMCTL_FLUSH = 0 := by decide +kernel

theorem witness_UndefinedAccessesAndReadsThatClear :
    ((4 : Nat) = 4 ∧ (0x4000 : Nat) % 4 = 0 ∧ (specials.findSome? fun x => x.covers 0x4000) = none ∧ regAt 0x4000 = none) ∧
    ((8 : Nat) = 8 ∧ (0x4000 : Nat) % 8 = 0 ∧
      ∀ k ∈ [0x4000, 0x4004], (specials.findSome? fun x => x.covers k) = none ∧ regAt k = none) ∧
    ¬ (((2 : Nat) = 4 ∧ (0x100 : Nat) % 4 = 0) ∨ ((2 : Nat) = 8 ∧ (0x100 : Nat) % 8 = 0)) ∧
    State.reset.running = true ∧ State.reset.get CNT_VIEW_SHADOW = 0 := by decide +kernel

theorem witness_HostWriteStoresOutsideHoles :
    State.reset.running = true ∧ State.reset.barAddress false 0 = some 0 ∧
    State.reset.barAddress false (2 ^ 31 - 1) = some (2 ^ 31 - 1) ∧ State.reset.barAddress true 5 = some (shelfBase + 5) ∧
    State.reset.barAddress false (2 ^ 31) = none ∧
    State.reset.mapped 0 = true := by decide +kernel

/-- A host write through BAR2 stores its bytes in order (R197, R205). -/
theorem test_host_write_stores : (after (exec (.barMemoryWrite false 16 [0xAB, 0xCD] []) State.reset) State.reset).byte 17 = 0xCD#8 := by
  decide +kernel

/-! Modes and budgets. -/

theorem witness_ModeAndBudgetChangesArePrepared :
    (State.reset.running = true ∧ State.reset.get GLB_PLAN_STATUS_LOAD_STATE ≠ 3) ∧
    (State.reset.set PWR_STATE_STATUS_STATE 2).asleep = true ∧
    (let s := (fields State.reset [(PWR_OPMODE_PENDING, 1), (PWR_OPMODE_CUR, 2), (PWR_OPMODE_REQ, 1), (PWR_OPMODE_STBY_LOCK, 1)])
     let s := { s with supply := 2 }
     s.running = true ∧ s.get PWR_OPMODE_PENDING = 1 ∧ s.get PWR_OPMODE_STBY_LOCK = 1 ∧ s.get PWR_OPMODE_REQ < s.supply) := by
  decide +kernel

/-- A state whose switch to mode 1 is ready, and whose budget set 2 waits. -/
def switching : State :=
  { fields State.reset [(PWR_OPMODE_PENDING, 1), (PWR_OPMODE_CUR, 2), (PWR_OPMODE_REQ, 1), (PWR_OPMODE_STBY_LOCK, 1),
      (GLB_BUDGET_SET_SEL, 2), (GLB_BUDGET_SET_PENDING, 1)] with supply := 1 }

theorem witness_PeriodBoundaryAppliesSwitchSetAndAllowances :
    switching.running = true ∧ switching.switchReady = true ∧ switching.selLate = false ∧
    switching.get GLB_BUDGET_SET_PENDING = 1 ∧ State.reset.running = true ∧ State.reset.switchReady = false ∧
    State.reset.get GLB_BUDGET_SET_PENDING = 0 ∧ { switching with selLate := true }.selLate = true ∧
    (0 : Int) ≤ 0 ∧ ((-5 : Int) < 0 ∧ -(-5 : Int) ≤ (5 : Nat)) ∧ ((-6 : Int) < 0 ∧ ((5 : Nat) : Int) < -(-6)) := by
  decide +kernel

/-- The boundary hands over to mode 1 and to budget set 2 together (R16, R368). -/
theorem test_boundary_switches :
    (after (exec .budgetPeriodBoundary switching) switching).get PWR_OPMODE_CUR = 1 ∧
    (after (exec .budgetPeriodBoundary switching) switching).get GLB_BUDGET_SET_CUR = 2 := by decide +kernel

/-- A share of 512 of 1,024 is half of CAP, and a debt within the limit is carried (R39). -/
theorem test_allowance_carries_debt : freshAllow 512 (20 * 1000) (-30) 100 = 470 ∧ freshAllow 512 (20 * 1000) 7 100 = 500 := by decide +kernel

/-- In mode E, at 5/8 of the rate, the CAP of a 12,800 shelf, 65,536 units, gives a share of 5 the 512 that one rounding leaves (R39). -/
theorem test_allowance_rounds_once : freshAllow 5 (perMode 2 65536) 0 0 = 512 := by decide +kernel

/-! Streams. -/

/-- A program of station 4 that takes the next tile of stream 5. -/
def takes5 : Prog := ⟨4, 0, [⟨0, [⟨0, [some 5], []⟩]⟩]⟩

/-- Stream 5 of graph 1 between stations 2 and 4; side 1 is the receiving side of a cross-chip stream. -/
def stream5 (remote side : Nat) : State :=
  fields State.reset [(STR_VALID 5, 1), (STR_REMOTE 5, remote), (STR_SIDE 5, side), (STR_GRAPH 5, 1), (STR_SRC_ENDPT 5, 2),
    (STR_DST_ENDPT 5, 4), (STR_CREDIT_MAX 5, 4), (STR_CREDITS 5, 4), (STR_WD_LIMIT 5, 100), (STR_NEXT_SEQ 5, 10), (GLB_SET_BENCH 0 1, 512)]

/-- The same with station 4 at a step that takes its next tile, which is not there. -/
def waits5 : State :=
  { fields (stream5 0 0) [(STN_CTRL_ENABLE 4, 1)] with progs := [takes5], allow := [(allowKey 4 0 1, 100)] }

theorem witness_ContextWriteNeedsQuiescedStations :
    (let s := (stream5 0 0).set (STN_STATUS_QUIESCED 2) 0
     s.running = true ∧ strRwWord 0 = true ∧ s.ctxQuiet 5 = false) ∧
    ((stream5 0 0).ctxQuiet 5 = true ∧ strRwWord 7 = true ∧ (7 : Fin 16) ≠ 3 ∧ (7 : Fin 16) ≠ 10) ∧
    (strRwWord 13 = false ∧ strRwWord 9 = false) ∧
    (regAt (strWord 5 7)).any (fun p => p.2.fields.any fun f => f.part ((strWord 5 7 - p.1) * 8) = some (0, f.width, 0)) = true := by
  decide +kernel

theorem witness_StreamRewritesFaultClearsAndWatchdog :
    ((stream5 1 0).running = true ∧ (stream5 1 0).ctxQuiet 5 = true ∧ (stream5 1 0).get (STR_REMOTE 5) = 1 ∧
      (stream5 1 0).get (STR_SIDE 5) = 0) ∧
    (((stream5 1 0).set (STN_STATUS_QUIESCED 2) 0).ctxQuiet 5 = false ∧ (stream5 1 0).receives 5 = false) ∧
    (∀ s ∈ [stream5 1 1, (stream5 0 0).wr .rxSeq 5 10], s.ctxQuiet 5 = true ∧ s.receives 5 = true ∧ seqDiff 11 (s.nextIn 5) > 0 ∧
      ¬ seqDiff 10 (s.nextIn 5) > 0 ∧ ¬ seqDiff 9 (s.nextIn 5) > 0) ∧
    ((stream5 1 1).set (STR_LOST 5) 1).stopped 5 = true ∧ (stream5 0 0).wdRuns 5 = false ∧
    (∀ x ∈ [([] : List Slot), [⟨5, 0, 1, none, false, false, ⟨0⟩⟩]], let s := { waits5 with slots := x }
      s.running = true ∧ s.wdRuns 5 = true ∧ s.partly 5 = !x.isEmpty ∧ s.get (MLS_STATUS_CODE (s.get (STR_MLS_DONE 5))) = 0) := by
  decide +kernel

/-- A firing watchdog with no tile partly received stops the stream as STALLED (R56). -/
theorem test_watchdog_stalls :
    (after (exec (.streamWatchdogFire 5) waits5) waits5).get (STR_STALLED 5) = 1 := by decide +kernel

theorem witness_MilestonesCountAndReach : State.reset.running = true ∧ (1 : BitVec 32) ≠ 0 := by decide +kernel

/-- COUNT saturates with OVF set (R48). -/
theorem test_milestone_saturates :
    let s := State.reset.set (MLS_ENTRY_COUNT 7) 0xFFFFFFFE
    (after (exec (.mlsIncWrite 7 3) s) s).get (MLS_ENTRY_COUNT 7) = 0xFFFFFFFF ∧
    (after (exec (.mlsIncWrite 7 3) s) s).get (MLS_STATUS_OVF 7) = 1 := by decide +kernel

/-- A chip whose VEC of cluster 0 has a firing in progress, and one whose VEC holds a tile of stream 10. -/
def vecBusy : State := { State.reset with vecs := [vf ⟨0, [], []⟩] }
def vecHolds : State := station State.reset 4 0 0 [x32] 0

theorem witness_StationControlsStopResumeAndEmpty :
    (State.reset.running = true ∧ isStation 4 = true ∧ isLink 4 = false ∧ State.reset.vecs = [] ∧ State.reset.busy 4 = false) ∧
    (∃ v ∈ vecBusy.vecs, v.cluster.val * 8 + 4 = 4) ∧ (10 ∈ vecHolds.heldStreams 4) ∧ isStation 0x1FF = false ∧
    (isStation 0x140 = true ∧ isLink 0x140 = true ∧ isVusyn 4 = false) := by
  decide +kernel

/-! Firings. -/

/-- CONV of cluster 0 with one tile: FP32 to BF16, a stash encoding and decoding, and a copy. -/
def conv1 (op : Nat) : State := station State.reset (convEp 0) 0 op [x32] 1

/-- CONV of cluster 0 with parameter, compensation and update tiles. -/
def conv3 : State := station State.reset (convEp 0) 0 4 [x16, x16, x32] 2

def convReady (s : State) (a : Alt) : Bool := s.altReady a && s.altFunded .vector (convEp 0) 0 a

theorem witness_FiringMovesTiles :
    isStation (convEp 0) = true ∧ (alt 0x90 1 1).streams.Nodup ∧ ([(20, x16)].map (·.1) : List Nat).Nodup ∧
    ∀ o ∈ [(20, x16)], o.1 ∈ (alt 0x90 1 1).outputs := by decide +kernel

/-- A CONVERT to FP32 of a BF16 tile of one row and 8,193 columns: its result would be longer than 32,768 bytes. -/
def convLong : State := station State.reset (convEp 0) 0 0x0A0 [tile 9 1 8193 16388 []] 1

theorem witness_ConverterFiringsConvertCopyCompensate :
    (readies convLong (convEp 0) 0 (convReady convLong) (alt 0x0A0 1 1) = true ∧ 32768 < outLen 0x0A 1 8193 ∧
      headerValid (convLong.inputD 10).head = true ∧ convLong.get (STR_BAD_HEADER 10) = 0) ∧
    rawStash 0x0A1 0 0 = true ∧ rawStash 0x090 0 0 = false ∧
    (∀ op ∈ [0x090, 0x0B1, 0x0A1, 0x092, 3], (conv1 op).running = true ∧ (alt op 1 1).streams.Nodup ∧ cwAccepts op 0x0A = true ∧
      readies (conv1 op) (convEp 0) 0 (convReady (conv1 op)) (alt op 1 1) = true ∧
      (alt op 1 1).inputs = [10] ∧ (alt op 1 1).outputs = [20] ∧ headerValid ((conv1 op).inputD 10).head = true ∧
      hFmt ((conv1 op).inputD 10).head = 0x0A ∧ cwKind op = op % 16 ∧ outLen (cwDst op) 1 2 ≤ 32768) ∧
    (readies conv3 (convEp 0) 0 (convReady conv3) (alt 4 3 2) = true ∧ (alt 4 3 2).streams.Nodup ∧
      (alt 4 3 2).inputs = [10, 11, 12] ∧ (alt 4 3 2).outputs = [20, 21] ∧ conv3.compensateBad 10 11 12 = [] ∧
      outLen 0x09 1 2 ≤ 32768 ∧
      ∀ n ∈ [10, 11, 12], headerValid (conv3.inputD n).head = true ∧ cwAccepts 4 (hFmt (conv3.inputD n).head) = true) := by
  decide +kernel

/-- FP32 1 and −2 become BF16 1 and −2 (R79, R83). -/
theorem test_convert_to_bf16 :
    (slotTile (after (exec (.convert 0) (conv1 0x090)) State.reset) 20).payload % 2 ^ 32 = 0xC0003F80 := by decide +kernel

/-- A copy keeps the payload (R83). -/
theorem test_copy_keeps_payload :
    (slotTile (after (exec (.copy 0) (conv1 3)) State.reset) 20).payload = x32.payload := by decide +kernel

/-- CONV of cluster 0 whose one tile has a header of zeros, and one whose tile has not come. -/
def convBad : State := { conv1 0x090 with slots := [wholeSlot 10 0 ⟨0⟩] }
def convEmpty : State := { conv1 0x090 with slots := [] }

theorem witness_StationsWaitAndRejectBadInput :
    (convEmpty.running = true ∧ convEmpty.firstReady (convEp 0) 0 (convReady convEmpty) = none ∧
      convEmpty.get (STN_CTRL_ENABLE (convEp 0)) = 1 ∧ (convEmpty.curStep (convEp 0) 0).isSome = true) ∧
    State.reset.get (STN_CTRL_ENABLE 0x180) = 0 ∧
    (readies convBad (convEp 0) 0 (convReady convBad) (alt 0x090 1 1) = true ∧ (alt 0x090 1 1).inputs = [10] ∧
      cwKind 0x090 = 0 ∧ headerValid (convBad.inputD 10).head = false) ∧
    cwAccepts 0x092 0x00 = false ∧ convBad.get (STR_BAD_HEADER 10) = 0 ∧ convEmpty.waiting (convEp 0) 0 = true := by decide +kernel

/-- A raw stash keeps the codes, a signalling NaN's too (R94). -/
theorem test_raw_stash_keeps_nan :
    let s := station State.reset (convEp 0) 0 0x0A1 [tile 0x0A 1 1 4 [1, 0, 0x80, 0x7F]] 1
    (slotTile (after (exec (.stashEnc 0) s) s) 20).payload % 2 ^ 32 = 0x7F800001 := by decide +kernel

theorem witness_CounterClearsZeroTheirCounters :
    (State.reset.set (CLU_CONV_LOST_NONZERO_COUNT 0) 3).running = true := by decide +kernel

/-- A clear of the router's counters acts on the named one alone (R242). -/
theorem test_router_clear_is_masked :
    let s := fields State.reset [(LNK_RT_COUNTER_COUNT 2, 5), (LNK_RT_COUNTER_COUNT 3, 6)]
    (after (exec (.routerCounterClear 4#9) s) s).get (LNK_RT_COUNTER_COUNT 2) = 0 ∧
    (after (exec (.routerCounterClear 4#9) s) s).get (LNK_RT_COUNTER_COUNT 3) = 6 := by decide +kernel

/-! Benches. -/

/-- Bench 1 of cluster 0 before a LOAD of a 1 × 2 stationary tile, and the word of that LOAD. -/
def loadOp : Nat := 1 + 9 <<< 6 + 2 <<< 14 + 1 <<< 23
def bench1 : State := station State.reset (benchEp 0 1) 0 loadOp [tile 9 1 2 4 [0x80, 0x3F, 0, 0x40]] 0

/-- The bench with the stationary loaded, before a STREAM of a 1 × 2 tile that drains. -/
def streamOp : Nat := 2 + 9 <<< 6 + 1 <<< 27 + 1 <<< 32
def bench2 : State :=
  station (after (exec (.benchLoad 0 1 false 0) bench1) bench1) (benchEp 0 1) 0 streamOp [tile 9 1 2 4 [0x80, 0x40, 0, 0xC0]] 1

/-- The bench before a LOAD whose tile is FP32, and before one with K = 0, which takes no tile. -/
def bench3 : State := station State.reset (benchEp 0 1) 0 loadOp [x32] 0
def loadOp0 : Nat := 1 + 9 <<< 6 + 1 <<< 23
def bench4 : State := station State.reset (benchEp 0 1) 0 loadOp0 [] 0

/-- With K = 0 loaded: a STREAM that keeps a bias and drains it. With K = 2: one that keeps its sums and one whose tile is FP32. -/
def biasOp : Nat := 2 + 9 <<< 6 + 2 <<< 24 + 1 <<< 26 + 1 <<< 27 + 1 <<< 32
def bench5 : State :=
  station (after (exec (.benchLoad 0 1 false 0) bench4) bench4) (benchEp 0 1) 0 biasOp [tile 0x0A 1 1 4 [0, 0, 0x40, 0x40]] 1
def keepOp : Nat := 2 + 9 <<< 6 + 1 <<< 26 + 1 <<< 32
def bench6 : State :=
  station (after (exec (.benchLoad 0 1 false 0) bench1) bench1) (benchEp 0 1) 0 keepOp [tile 9 1 2 4 [0x80, 0x40, 0, 0xC0]] 0
def bench7 : State := station (after (exec (.benchLoad 0 1 false 0) bench1) bench1) (benchEp 0 1) 0 streamOp [x32] 1

/-- A bench state is before the firing of an alternative with `k` inputs and `o` outputs. -/
def benchFires (s : State) (op k o : Nat) : Bool :=
  s.running && s.benchPart 0 1 false = some 0 && readies s (benchEp 0 1) 0 (s.benchReady 0 1 0) (alt op k o)

theorem witness_BenchFormsWithoutTilesOrWithOthers :
    (benchFires bench3 loadOp 1 0 = true ∧ hFmt (bench3.inputD 10).head ≠ bwFmt loadOp ∧ bench3.get (STR_BAD_HEADER 10) = 0) ∧
    (benchFires bench4 loadOp0 0 0 = true ∧ bwKind loadOp0 = 1 ∧ bwLoadK loadOp0 = 0) ∧
    (benchFires bench5 biasOp 1 1 = true ∧ streamBinds (bench5.loadedK 0 1 0) (alt biasOp 1 1) = (none, some 10) ∧
      bench5.streamBlocked 0 1 0 (alt biasOp 1 1) none = false ∧ headerValid (bench5.inputD 10).head = true ∧
      hRows (bench5.inputD 10).head = 1 ∧ hCols (bench5.inputD 10).head = bench5.loadedN 0 1 0 ∧
      hFmt (bench5.inputD 10).head = outFmtOf (bwFmt biasOp) false ∧ bwKeep biasOp = true ∧ bwDrain biasOp = true) ∧
    (benchFires bench6 keepOp 1 0 = true ∧ bench6.streamBlocked 0 1 0 (alt keepOp 1 0) (some 10) = false ∧ bwDrain keepOp = false) ∧
    (benchFires bench7 streamOp 1 1 = true ∧ bench7.streamBlocked 0 1 0 (alt streamOp 1 1) (some 10) = true ∧
      streamReport (alt streamOp 1 1) = some 10 ∧ bench7.get (STR_BAD_HEADER 10) = 0) := by decide +kernel

/-- A bias of 3.0 leaves on the output and stands in the accumulator (R101, R104). -/
theorem test_bench_bias :
    let t := after (exec (.benchStream 0 1 false 0 0) bench5) bench5
    (slotTile t 20).payload % 2 ^ 32 = 0x40400000 ∧ t.rd .accRow 1024 % 2 ^ 32 = 0x40400000 := by decide +kernel

theorem witness_BenchLoadsStreamsAndClears :
    (bench1.running = true ∧ bench1.benchPart 0 1 false = some 0 ∧ (alt loadOp 1 0).streams.Nodup ∧ (alt loadOp 1 0).inputs = [10] ∧
      (alt loadOp 1 0).outputs = [] ∧ readies bench1 (benchEp 0 1) 0 (bench1.benchReady 0 1 0) (alt loadOp 1 0) = true ∧
      bwKind loadOp = 1 ∧ bwLoadK loadOp = 2 ∧ headerValid (bench1.inputD 10).head = true ∧
      hFmt (bench1.inputD 10).head = bwFmt loadOp ∧ hRows (bench1.inputD 10).head = bwLoadN loadOp ∧
      hCols (bench1.inputD 10).head = bwLoadK loadOp) ∧
    (bench2.running = true ∧ bench2.benchPart 0 1 false = some 0 ∧ (alt streamOp 1 1).streams.Nodup ∧
      (alt streamOp 1 1).ins.head? = some (some 10) ∧ (alt streamOp 1 1).inputs = [10] ∧ (alt streamOp 1 1).outputs = [20] ∧
      readies bench2 (benchEp 0 1) 0 (bench2.benchReady 0 1 0) (alt streamOp 1 1) = true ∧ bwKind streamOp = 2 ∧
      streamBinds (bench2.loadedK 0 1 0) (alt streamOp 1 1) = (some 10, none) ∧ bwDrain streamOp = true ∧ bench2.get (CLU_BENCH_LEFT_L_ROWS 0 1) = 0 ∧ bench2.benchLeft 0 1 0 (bwM streamOp) = 1 ∧
      bench2.streamBlocked 0 1 0 (alt streamOp 1 1) (some 10) = false) ∧
    State.reset.get (STN_STATUS_QUIESCED (benchEp 0 1)) = 1 := by decide +kernel

/-- (1, 2) · (4, −2) = 0 in FP32, and BF16 stationary elements stand where they were loaded (R99, R103). -/
theorem test_bench_dot_product :
    (slotTile (after (exec (.benchStream 0 1 false 0 0) bench2) bench2) 20).payload % 2 ^ 32 = 0 ∧
    (after (exec (.benchLoad 0 1 false 0) bench1) bench1).loadedK 0 1 0 = 2 := by decide +kernel

/-! Memory. -/

/-- Drawer 0 with region 3 at byte 4,096, two units a record: a write and a read of a record, one left of two (word `memOp`). -/
def memOp (kind left : Nat) : Nat := kind + 3 <<< 6 + 1 <<< 20 + left <<< 44
def region3 : Region := ⟨3, 0, 4096, 2, 10, false, 1⟩
def memW (left : Nat) : State := { station State.reset 6 0 (memOp 1 left) [x32] 0 with regions := [region3] }
def memR : State :=
  { station State.reset 6 0 (memOp 2 2) [] 1 with regions := [region3], mem := (after (exec (.memWrite 6) (memW 2)) State.reset).mem }

/-- A tile longer than the record, and a write through a view that keeps the step's commit bit. -/
def memWide : State := { station State.reset 6 0 (memOp 1 2) [tile 0x0A 1 32 128 []] 0 with regions := [region3] }
def memView : State := { station State.reset 6 0 (memOp 1 1 + 2 <<< 4) [x32] 0 with regions := [region3] }

theorem witness_MemoryFiringsStoreAndEmitRecords :
    isMemory 6 = true ∧
    (∀ l ∈ [1, 2], (memW l).running = true ∧ (alt (memOp 1 l) 1 0).streams.Nodup ∧
      readies (memW l) 6 0 ((memW l).memReady 6) (alt (memOp 1 l) 1 0) = true ∧
      (memW l).recordAt 6 (alt (memOp 1 l) 1 0) = some (4224, 128) ∧ mwKind (memOp 1 l) = 1 ∧
      (alt (memOp 1 l) 1 0).inputs = [10] ∧ (alt (memOp 1 l) 1 0).outputs = [] ∧ headerValid ((memW l).inputD 10).head = true ∧
      ((memW l).inputD 10).recordLen ≤ 128 ∧ (memW l).recordsLeft 6 (alt (memOp 1 l) 1 0) = l) ∧
    (readies memR 6 0 (memR.memReady 6) (alt (memOp 2 2) 0 1) = true ∧ memR.recordAt 6 (alt (memOp 2 2) 0 1) = some (4224, 128) ∧
      mwKind (memOp 2 2) = 2 ∧ (alt (memOp 2 2) 0 1).inputs = [] ∧ (alt (memOp 2 2) 0 1).outputs = [20] ∧
      memR.rangeBad 0 4224 64 = false ∧ headerValid (Mem.nat memR.mem (memBase 0 + 4224) 32) = true ∧
      32 + hPayloadLen (Mem.nat memR.mem (memBase 0 + 4224) 32) ≤ 128) ∧
    (memWide.recordAt 6 (alt (memOp 1 2) 1 0) = some (4224, 128) ∧ 128 < (memWide.inputD 10).recordLen ∧
      readies memWide 6 0 (memWide.memReady 6) (alt (memOp 1 2) 1 0) = true ∧ memWide.get (STR_BAD_HEADER 10) = 0) ∧
    (readies memView 6 0 (memView.memReady 6) (alt (memOp 1 1 + 2 <<< 4) 1 0) = true ∧ mwView (memOp 1 1 + 2 <<< 4) = 2 ∧
      memView.recordAt 6 (alt (memOp 1 1 + 2 <<< 4) 1 0) = some (5504, 128) ∧ (memView.inputD 10).recordLen ≤ 128 ∧
      headerValid (memView.inputD 10).head = true) ∧
    (let s := { memR with mem := [] }
     readies s 6 0 (s.memReady 6) (alt (memOp 2 2) 0 1) = true ∧ s.recordAt 6 (alt (memOp 2 2) 0 1) = some (4224, 128) ∧
      headerValid (Mem.nat s.mem (memBase 0 + 4224) 32) = false) ∧
    (let u := (strike 0 264 2).run memR
     readies u 6 0 (u.memReady 6) (alt (memOp 2 2) 0 1) = true ∧ u.recordAt 6 (alt (memOp 2 2) 0 1) = some (4224, 128) ∧
      u.rangeBad 0 4224 64 = true) := by decide +kernel

/-- A record written is read back whole (R200, R203). -/
theorem test_record_reads_back :
    (slotTile (after (exec (.memRead 6 []) memR) memR) 20).payload = x32.payload := by decide +kernel

theorem witness_ScrubsCorrectAndCount : (State.reset.wr .drwErr 77 1).running = true := by decide +kernel

/-- A scrub corrects a single-bit error and counts it, and keeps a double-bit one (R188, R189). -/
theorem test_scrub_corrects :
    let s := State.reset.wr .drwErr 77 1
    (after (exec (.drawerScrub 0 77 0) s) s).rd .drwErr 77 = 0 ∧
    (after (exec (.drawerScrub 0 77 0) s) s).get (CLU_DRW_ECC_CE_COUNT 0) = 1 ∧
    (after (exec (.drawerScrub 0 77 2) s) s).rd .drwErr 77 = 2 := by decide +kernel

/-! Check-value units. -/

/-- CHECK unit 0 with one tile: kind 1 folds, 2 seals, 3 verifies. -/
def check1 (kind : Nat) (x : Tile) : State := station State.reset 0x180 0 kind [x] 1
def sealed : Tile := slotTile (after (execCheckSeal 0 (check1 2 x32)) State.reset) 20

/-- A tile of 32,768 bytes, one of 1 byte, and (`x32`) one whose elements fill its payload. -/
def long : Tile := tile 1 1 32768 32768 []
def tiny : Tile := tile 1 1 1 1 []

theorem witness_CheckUnitsFoldSealVerifyAndTakeWrites :
    (∀ k ∈ [1, 2], (check1 k x32).running = true ∧ (alt k 1 1).streams.Nodup ∧ (alt k 1 1).inputs = [10] ∧
      readies (check1 k x32) 0x180 0 (check1 k x32).altReady (alt k 1 1) = true ∧
      headerValid ((check1 k x32).inputD 10).head = true ∧ ckKind k = k) ∧
    hPayloadLen x32.head + ((check1 2 x32).chkCfg 0).bytes ≤ 32768 ∧
    (∀ x ∈ [sealed, ⟨sealed.raw + 2 ^ 256⟩], readies (check1 3 x) 0x180 0 (check1 3 x).altReady (alt 3 1 1) = true ∧ ckKind 3 = 3 ∧
      headerValid ((check1 3 x).inputD 10).head = true ∧ ((check1 3 x).chkCfg 0).bytes ≤ hPayloadLen x.head ∧
      headerValid (withLen x.head (hPayloadLen x.head - ((check1 3 x).chkCfg 0).bytes)) = true) ∧
    ((check1 2 long).chkCfg 0).bytes + hPayloadLen long.head > 32768 ∧ headerValid ((check1 2 long).inputD 10).head = true ∧
    readies (check1 2 long) 0x180 0 (check1 2 long).altReady (alt 2 1 1) = true ∧
    (∀ x ∈ [tiny, x32], readies (check1 3 x) 0x180 0 (check1 3 x).altReady (alt 3 1 1) = true ∧
      headerValid ((check1 3 x).inputD 10).head = true ∧ (check1 3 x).get (STR_BAD_HEADER 10) = 0 ∧
      (hPayloadLen x.head < ((check1 3 x).chkCfg 0).bytes ∨
        headerValid (withLen x.head (hPayloadLen x.head - ((check1 3 x).chkCfg 0).bytes)) = false)) ∧
    (State.reset.set (CHK_STATUS_QBUSY 3) 1).get (CHK_STATUS_QBUSY 3) = 1 ∧
    CrcCfg.valid { State.reset.chkCfg 3 with width := 3 } = false ∧
    (State.reset.chkOpen 3 = true ∧ CrcCfg.valid { State.reset.chkCfg 3 with poly := 0x04C11DB7 } = true ∧
      CrcCfg.valid { State.reset.chkCfg 3 with width := 32 } = true ∧
      (State.reset.set (STN_STATUS_QUIESCED 0x183) 0).chkOpen 3 = false) := by decide +kernel

/-- What SEAL appends VERIFY finds right, and a changed payload byte is counted and poisons the tile (R445, R446). -/
theorem test_verify_finds_a_change :
    (after (execVerify 0 (check1 3 sealed)) State.reset).get (CHK_MISMATCH_COUNT 0) = 0 ∧
    (after (execVerify 0 (check1 3 ⟨sealed.raw + 2 ^ 256⟩)) State.reset).get (CHK_MISMATCH_COUNT 0) = 1 := by decide +kernel

/-- CRC-32C of “123456789” is 0xE3069283 (R440). -/
theorem test_crc32c : (let c := State.reset.chkCfg 0
    c.check (c.fold (State.reset.get (CHK_INIT_VALUE 0)) ([0x31, 0x32, 0x33, 0x34, 0x35, 0x36, 0x37, 0x38, 0x39] : List Byte))) = 0xE3069283 := by
  decide +kernel

/-! The vector engine. -/

/-- The state after the vector instruction of cluster 0 that stands at PC. -/
def vrun (op : Nat) (cmd : Cluster → VInsn → Instr) (i : VInsn) (s : State) : State := after (exec (cmd 0 i) (vat (vword op i) s)) s

/-- The state after the script word of cluster 0's desk that stands at PC. -/
def drun (w : Nat) (s : State) : State :=
  match deskDecode 0 w with
  | some cmd => after (exec cmd (dat w s)) s
  | none => s

/-- VEC of cluster 0 before a firing of two FP32 tiles that starts at instruction 5, and with it in progress. -/
def vecOp : Nat := 1 + 5 <<< 4
def vecStart : State := station State.reset (vecEp 0) 0 vecOp [x32, x32] 1
def firing0 : VecFiring := { vf (alt vecOp 2 1) with tiles := [x32, x32], exps := [0, 0], heads := [x32.head, x32.head], bufs := [0, 0] }
def vecRuns : State :=
  { fields vecStart [(CLU_VEC_STATE_PC 0, 5), (STN_STATUS_BUSY (vecEp 0), 1)] with vecs := [firing0] }

/-- The firing with a valid output tile, and one whose output took a store past its end. -/
def vecDone (failed : Nat) : VecFiring := { firing0 with bufs := [x32.payload, 0], failed := failed }

/-- VEC with a second input whose header is all zeros; the end of its firing, with an output that has no header, and with an abort due. -/
def vecBad : State := station State.reset (vecEp 0) 0 vecOp [x32, ⟨0⟩] 1
def vecEnds (v : VecFiring) (abort : Nat) : State := (vat 0x5F { vecRuns with vecs := [v] }).wr .abortDue (vecEp 0) abort

/-- Words of R127 and R142, written field by field, spell their commands. -/
theorem test_words_spell_commands :
    vecDecode 0 0b0000000000000000_0000_0_0_000000_0_0_000_00000_00010_00001_00101_100_00000001 = some (.vadd 0 (vi 4 5 1 2 0)) ∧
    vecDecode 0 0b0000001100000101_0000_0_1_001100_0_0_000_00000_00000_00000_00000_000_01011010 =
      some (.vloop 0 { vi 0 0 0 0 0x0305 with sa := 12, sb := true }) ∧
    vecDecode 0 0b0000000000000000_0001_0_0_000000_0_0_000_00000_00010_00001_00101_100_00000001 = none ∧
    deskDecode 0 0b000010_001001_000010_000011_00000000 = some (.deskSub 0 9 2 3) ∧
    deskDecode 0 0b100001_000010_000011_11111111111011 = some (.deskBne 0 2 3 (-5)) ∧
    deskDecode 0 0b110001_000001_000010_000011_00000000 = none ∧ deskDecode 0 0b001110_00000000000000000000000000 = none := by
  decide +kernel

/-- Every vector command, and every script command, with all other fields 0, can be the next one. -/
theorem witness_every_word_can_be_next :
    (∀ x ∈ vecTable, (vat x.1 vecRuns).vecNext 0 = some (x.2 0 (VInsn.ofWord x.1))) ∧
    (∀ x ∈ vecTable, x.1 ≠ 1 → (vat 1 vecRuns).vecNext 0 ≠ some (x.2 0 (VInsn.ofWord 1))) := by decide +kernel

theorem witness_VecFiringStartsAndEnds :
    (readies vecBad (vecEp 0) 0 (fun a => vecBad.altReady a && vecBad.altFunded .vector (vecEp 0) 0 a) (alt vecOp 2 1) = true ∧
      vecBad.badInputs (alt vecOp 2 1) = [11] ∧ vecBad.get (STR_BAD_HEADER 11) = 0) ∧
    (∀ v ∈ [vecDone 0, vecDone 1, { vecDone 0 with heads := [0, 0] }], ∀ k < 2,
      (vecEnds v k).vecNext 0 = some (.vend 0) ∧ (vecEnds v k).vec 0 = some v ∧ (vecEnds v k).rd .abortDue (vecEp 0) = k ∧
      (vecEnds v k).desk 0 = none ∧ v.alt.streams.Nodup) ∧
    (5#6, 9) ∈ ({ vecDone 0 with vouts := [(5#6, 9)] }).vouts ∧
    headerValid (({ vecDone 0 with heads := [0, 0] }).outTile 0).head = false ∧
    (vecStart.running = true ∧ vecStart.vec 0 = none ∧
      readies vecStart (vecEp 0) 0 (fun a => vecStart.altReady a && vecStart.altFunded .vector (vecEp 0) 0 a) (alt vecOp 2 1) = true ∧
      bits vecOp 0 4 = 1 ∧ vecStart.badInputs (alt vecOp 2 1) = []) ∧
    (∀ k < 2, let s := { vecRuns with vecs := [vecDone k] }
      s.running = true ∧ s.vec 0 = some (vecDone k) ∧ (vecDone k).alt.streams.Nodup ∧ s.rd .abortDue (vecEp 0) ≠ 1 ∧
      (vecDone k).alt.outs[0]? = some (some 20) ∧ headerValid ((vecDone k).outTile 0).head = true ∧
      bitAt (vecDone k).failed 0 = decide (k = 1)) := by decide +kernel

/-- VEND sends the output tile, and frees the engine (R124). -/
theorem test_vend_sends :
    let s := vecEnds (vecDone 0) 0
    (slotTile (after (exec (.vend 0) s) s) 20).payload = x32.payload ∧ ((after (exec (.vend 0) s) s).vec 0).isNone = true := by
  decide +kernel

theorem witness_VecIntegerElements :
    vecRuns.running = true ∧ vecRuns.vec 0 = some firing0 ∧ (vi 1 5 1 2 0).et.toNat ≤ 1 ∧ (vi 0 5 1 2 0).et = 0 := by decide +kernel

/-- The state with v1 and v2 holding these numbers. -/
def withV (a b : Nat) : State := (vecRuns.wr .vreg 1 a).wr .vreg 2 b

/-- INT8 addition saturates at 127 (R130). -/
theorem test_vadd_saturates :
    bits ((vrun 0x01 .vadd (vi 0 5 1 2 0) (withV 100 100)).vreg1 0 5) 0 8 = 127 := by decide +kernel

/-- INT32 subtraction is A − B (R130). -/
theorem test_vsub_order :
    bits ((vrun 0x02 .vsub (vi 1 5 1 2 0) (withV 100 30)).vreg1 0 5) 0 32 = 70 := by decide +kernel

/-- An arithmetic shift keeps the sign, a logical one does not (R130). -/
theorem test_shifts :
    bits ((vrun 0x2D .vsar (vi 0 5 1 2 0) (withV 0x80 1)).vreg1 0 5) 0 8 = 0xC0 ∧
    bits ((vrun 0x2C .vshr (vi 0 5 1 2 0) (withV 0x80 1)).vreg1 0 5) 0 8 = 0x40 := by decide +kernel

theorem witness_VecFloatElements :
    vecRuns.running = true ∧ vecRuns.vec 0 = some firing0 ∧ (2 ≤ (vi 4 5 1 2 0).et.toNat ∧ (vi 4 5 1 2 0).et.toNat ≤ 4) ∧
    (2 ≤ (vi 6 5 1 2 0).et.toNat ∧ (vi 6 5 1 2 0).et.toNat ≤ 6) ∧ (vi 2 5 1 2 0).et.toNat = 2 ∧
    ([0x7F800000, fp32.nanCode].map fun k => (vecRead firing0 4 k).1.isNan) = [false, true] ∧
    ((vecRead firing0 4 0x3F800000).1.mul (vecRead firing0 4 0x40000000).1).1.isNan = false := by decide +kernel

/-- 1.5 + 2.25 = 3.75, 1 ÷ 4 = 0.25 and √9 = 3 in FP32 (R130). -/
theorem test_fp32_operations :
    bits ((vrun 0x01 .vadd (vi 4 5 1 2 0) (withV 0x3FC00000 0x40100000)).vreg1 0 5) 0 32 = 0x40700000 ∧
    bits ((vrun 0x14 .vdiv (vi 4 5 1 2 0) (withV 0x3F800000 0x40800000)).vreg1 0 5) 0 32 = 0x3E800000 ∧
    bits ((vrun 0x15 .vsqrt (vi 4 5 1 2 0) (withV 0x41100000 0)).vreg1 0 5) 0 32 = 0x40400000 := by decide +kernel

/-- 2^3 = 8 and log2 8 = 3 in FP32 (R130). -/
theorem test_fp32_powers :
    bits ((vrun 0x12 .vexp2 (vi 4 5 1 2 0) (withV 0x40400000 0)).vreg1 0 5) 0 32 = 0x41000000 ∧
    bits ((vrun 0x13 .vlog2 (vi 4 5 1 2 0) (withV 0x41000000 0)).vreg1 0 5) 0 32 = 0x40400000 := by decide +kernel

theorem witness_VecMasksMovesAndConversion :
    vecRuns.running = true ∧ vecRuns.vec 0 = some firing0 ∧
    ((vi 1 5 1 2 7).et.toNat ≤ 6 ∧ (vi 1 5 1 2 7).imm.toNat % 8 ≠ 6 ∧ (vi 4 5 1 2 6).imm.toNat % 8 ≠ 7) ∧
    ({ vi 4 5 1 2 0 with men := true }.men = true ∧ (vi 4 5 1 2 0).mz = false) ∧ vecRuns.vmask1 0 1 < 2 ^ 1024 ∧
    (vi 1 5 1 2 0).et.toNat = 1 ∧
    (etWidth 4 ≠ etWidth 0 ∧ bits 4 3 2 = 0 ∧ bitAt 0x20 5 = true ∧ vecRuns.inBound 0 (bits 0x60 6 2) = true ∧ bitAt 4 5 = false) := by
  decide +kernel

/-- VCVT of FP32 −2 to INT32 (R132). -/
theorem test_vcvt_to_integer :
    bits ((vrun 0x30 .vcvt (vi 4 5 1 0 1) (withV 0xC0000000 0)).vreg1 0 5) 0 32 = 0xFFFFFFFE := by decide +kernel

/-- VCMP with condition 2 sets the mask where A < B (R130). -/
theorem test_vcmp_less :
    bitAt ((vrun 0x20 .vcmp (vi 1 5 1 2 2) (withV 3 4)).vmask1 0 5) 0 = true ∧
    bitAt ((vrun 0x20 .vcmp (vi 1 5 1 2 2) (withV 4 3)).vmask1 0 5) 0 = false := by decide +kernel

theorem witness_VecReductionsOverActiveElements :
    vecRuns.running = true ∧ vecRuns.vec 0 = some firing0 ∧ (decide ((vi 1 5 1 0 0).et.toNat ≤ 4) = true) ∧
    vecRuns.activeBits 0 { vi 1 5 1 0 0 with men := true } 256 = 0 ∧
    (let live := (List.range 256).filter fun e => bitAt ((withV 7 0).activeBits 0 (vi 1 5 1 0 0) 256) e
     (live.map fun e => (signed 32 ((withV 7 0).elemA 0 (vi 1 5 1 0 0) 32 e)).natAbs).sum < 2 ^ 31 ∧ live ≠ []) := by decide +kernel

/-- The sum of 7 and 255 zeros stands in every element, the last too (R136). -/
theorem test_vrsum :
    bits ((vrun 0x40 .vrsum (vi 1 5 1 0 0) (withV 7 0)).vreg1 0 5) (255 * 32) 32 = 7 := by decide +kernel

theorem witness_VecMemoryAddressesAndLoops :
    vecRuns.running = true ∧ vecRuns.vec 0 = some firing0 ∧ (firing0.tiles[1]? = some x32 ∧ vecRuns.inBound 0 1 = true) ∧
    (firing0.bufs[0]? = some 0 ∧ firing0.heads[0]? = some x32.head ∧ vecRuns.outBound 0 0 = true) ∧
    x32.head ≠ 0 ∧ { firing0 with loops := [(6, 9)] }.loops.length = 1 ∧ vecRuns.loopForm 0 (0x0305 % 256) = true ∧
    (vi 6 0 0 0 0).et.toNat ≤ 6 ∧ (vi 0 0 0 0 8).imm.toNat % 16 < 9 ∧ { vi 0 0 0 0 0 with sa := 61 }.sa.toNat ≤ 61 ∧
    (vi 1 0 0 0 0).et = 1 ∧ firing0.loops = [] := by decide +kernel

/-- VLD at offset 4 reads the second element of x32, and 0 past the payload (R133). -/
theorem test_vld_zero_past_payload :
    (vrun 0x50 .vld (vi 4 5 0 0 4) vecRuns).vreg1 0 5 = 0xC0000000 := by decide +kernel

/-- A vector form that the table reserves, at PC, is refused by name. -/
theorem test_reserved_form_is_refused :
    (match exec (.vadd 0 (vi 5 0 0 0 0)) (vat (vword 1 (vi 5 0 0 0 0)) vecRuns) with
      | .refused .reservedVectorForm => true
      | _ => false) = true := by decide +kernel

theorem witness_ReservedVectorFormsAreRefused :
    (vat (vword 1 (vi 5 0 0 0 0)) vecRuns).vecNext 0 = some (.vadd 0 (vi 5 0 0 0 0)) ∧ vecRuns.running = true ∧
    vecRuns.inBound 0 3 = false ∧ vecRuns.outBound 0 1 = false ∧ vecRuns.loopForm 0 0 = false ∧
    5 ≤ (vi 5 0 0 0 0).et.toNat ∧ (vi 1 0 0 0 0).et.toNat < 2 ∧ (vi 1 0 0 0 0).et ≠ 0 ∧ (vi 3 0 0 0 0).et ≠ 4 ∧
    (vi 4 0 0 0 0).men = false ∧ 9 ≤ (vi 0 0 0 0 9).imm.toNat % 16 ∧ 62 ≤ { vi 0 0 0 0 0 with sa := 62 }.sa.toNat := by decide +kernel

/-- Word 0x4008 of the desk memories, instruction memory (space 1) or data memory (space 0), before an access. -/
def deskWin (space addr quiet : Nat) : State :=
  fields State.reset [(CLU_DESK_MEM_ADDR_ADDR 0, addr), (CLU_DESK_MEM_ADDR_SPACE 0, space), (STN_STATUS_QUIESCED (deskEp 0), quiet)]

theorem witness_InstructionMemoryWindows :
    (∀ sp < 2, (deskWin sp 0x4008 1).running = true ∧ (deskWin sp 0x4008 1).get (STN_STATUS_QUIESCED (deskEp 0)) = 1 ∧
      0x4000 ≤ (deskWin sp 0x4008 1).get (CLU_DESK_MEM_ADDR_ADDR 0) / 4 * 4 ∧
      (deskWin sp 0x4008 1).get (CLU_DESK_MEM_ADDR_SPACE 0) = sp) ∧
    (deskWin 0 0x4008 0).get (STN_STATUS_QUIESCED (deskEp 0)) = 0 ∧
    (deskWin 0 0x3FFC 1).get (CLU_DESK_MEM_ADDR_ADDR 0) / 4 * 4 < 0x4000 := by decide +kernel

/-! The cluster desk. -/

/-- DESK of cluster 0 before a firing whose script is at word 0x1000, and in it at word 0x1005. -/
def deskOp : Nat := 1 + 1 <<< 4 + 0x1000 <<< 8
def deskStart : State := station State.reset (deskEp 0) 0 deskOp [x32] 1
def desk0 : DeskFiring := ⟨0, alt deskOp 1 1, [0, 0], none⟩
def dword (op hi mid low : Nat) : Nat := op <<< 26 + hi <<< 20 + mid <<< 14 + low
def deskOn (l : List (Nat × Nat)) : State :=
  { fields deskStart ((CLU_DESK_STATE_PC 0, 0x1005) :: (CLU_DESK_STATE_RUN 0, 1) :: l.map fun p => (CLU_DESK_SREG_VALUE 0 p.1, p.2)) with
    desks := [desk0] }

/-- s1 = 0x4010, s2 = 7, s3 = −3. -/
def deskRegs : State := deskOn [(1, 0x4010), (2, 7), (3, 0xFFFFFFFD)]

theorem witness_DeskArithmeticWritesRd : DeskRuns 0 desk0 0x1005 deskRegs :=
  ⟨by decide +kernel, by decide +kernel, by decide +kernel, by decide +kernel, by decide +kernel, by decide +kernel, by decide +kernel⟩

/-- 7 − (−3) = 10, −3 >> 1 = −2 arithmetically, and division by s0 gives all ones (R142, R143). -/
theorem test_desk_arithmetic :
    (drun (dword 0x02 9 2 (3 <<< 8)) deskRegs).sreg 0 9 = 10 ∧ (drun (dword 0x15 9 3 1) deskRegs).sreg 0 9 = 0xFFFFFFFE ∧
    (drun (dword 0x0D 9 2 0) deskRegs).sreg 0 9 = 0xFFFFFFFF := by decide +kernel

/-- A write to s0 is discarded (R142). -/
theorem test_desk_s0 : (drun (dword 0x01 0 2 (2 <<< 8)) deskRegs).sreg 0 0 = 0 := by decide +kernel

theorem witness_DeskMemoryAndJumps :
    (let s := deskRegs.set (CLU_DESK_STATE_PC 0) 0
     s.running = true ∧ s.desk 0 = some desk0 ∧ s.get (STN_CTRL_ENABLE (deskEp 0)) = 1 ∧ s.get PWR_STATE_STATUS_STATE = 0 ∧
      s.get (CLU_DESK_STATE_PC 0) < 0x1000) ∧
    (∀ x ∈ deskInts ++ deskMids ++ deskTails, (dat (x.1 <<< 26) deskRegs).deskIssues 0 (some (x.2 0 (x.1 <<< 26))) = true) ∧
    (∀ x ∈ deskInts ++ deskMids ++ deskTails, x.1 ≠ 0x3F →
      deskDecode 0 ((dat (0x3F <<< 26) deskRegs).deskWord 0) ≠ some (x.2 0 (0x3F <<< 26))) ∧
    deskDecode 0 ((dat (0x0E <<< 26) deskRegs).deskWord 0) = none ∧
    DeskRuns 0 desk0 0x1005 deskRegs ∧
    (0x4000 ≤ (deskRegs.sreg 0 1 + unsigned 32 (4 : BitVec 14).toInt) % 2 ^ 32 ∧
      (deskRegs.sreg 0 1 + unsigned 32 (4 : BitVec 14).toInt) % 2 ^ 32 ≤ 0xFFFF ∧
      (deskRegs.sreg 0 1 + unsigned 32 (4 : BitVec 14).toInt) % 2 ^ 32 % 4 = 0 ∧
      (deskRegs.sreg 0 1 + unsigned 32 (-1 : BitVec 14).toInt) % 2 ^ 32 % 4 ≠ 0) ∧
    (deskRegs.sreg 0 2 + unsigned 32 (0 : BitVec 14).toInt) % 2 ^ 32 < 0x4000 ∧
    (decide (deskRegs.sreg 0 2 = deskRegs.sreg 0 3) = false ∧ decide (deskRegs.sreg 0 2 = deskRegs.sreg 0 2) = true) ∧
    ((0x1000 : Int) ≤ 0x1005 + (-5 : BitVec 14).toInt ∧ (0x1005 : Int) + (-6 : BitVec 14).toInt < 0x1000) ∧
    ((0x1005 : Int) + (0x2FFA : BitVec 20).toInt ≤ 0x3FFF ∧ 0x3FFF < (0x1005 : Int) + (0x2FFB : BitVec 20).toInt) :=
  ⟨by decide +kernel, by decide +kernel, by decide +kernel, by decide +kernel, witness_DeskArithmeticWritesRd, by decide +kernel⟩

/-- A word is stored little-endian, and a taken branch counts from itself (R139, R142). -/
theorem test_desk_store_and_branch :
    (drun (dword 0x19 3 1 4) deskRegs).rd .ddmem 0x4014 = 0xFD ∧
    (drun (dword 0x21 2 3 0x3FFB) deskRegs).get (CLU_DESK_STATE_PC 0) = 0x1000 := by decide +kernel

/-- The desk waits on milestone 7 for s5, with a limit. -/
def deskWaits : State :=
  { (deskRegs.wr .dcsr 0x100 50) with desks := [{ desk0 with wait := some (5, 7) }] }

theorem witness_DeskMilestonesControlAndWindow :
    DeskRuns 0 desk0 0x1005 deskRegs ∧ deskRegs.reached 7 = false ∧ (deskRegs.set (MLS_STATUS_CODE 7) 3).reached 7 = true ∧
    ((deskRegs.sreg 0 1 + unsigned 32 (0 : BitVec 14).toInt) % 2 ^ 32 ≤ 0xFFFF ∧
      (deskRegs.sreg 0 1 + unsigned 32 (0 : BitVec 14).toInt) % 2 ^ 32 % 4 = 0 ∧
      (deskRegs.sreg 0 2 + unsigned 32 (0 : BitVec 14).toInt) % 2 ^ 32 % 4 ≠ 0 ∧
      0xFFFF < (deskRegs.sreg 0 3 + unsigned 32 (0 : BitVec 14).toInt) % 2 ^ 32) ∧
    (deskWaits.running = true ∧ deskWaits.desk 0 = some { desk0 with wait := some (5, 7) } ∧ deskWaits.rd .dcsr (4096 * 0 + 0x100) ≠ 0) :=
  ⟨witness_DeskArithmeticWritesRd, by decide +kernel⟩

/-- A wait past its limit gives 0xFF (R145). -/
theorem test_mwait_timeout : (after (exec (.mwaitTimeout 0) deskWaits) deskWaits).sreg 0 5 = 0xFF := by decide +kernel

/-- DESK before a firing whose input has no header. -/
def deskBad : State := station State.reset (deskEp 0) 0 deskOp [⟨0⟩] 1

theorem witness_DeskFiringRunsTilesAndHalts :
    (deskStart.running = true ∧ deskStart.desk 0 = none ∧
      readies deskStart (deskEp 0) 0 (fun a => deskStart.altReady a && !deskStart.held (deskGraph a.op)) (alt deskOp 1 1) = true ∧
      bits deskOp 0 4 = 1 ∧ deskStart.badInputs (alt deskOp 1 1) = []) ∧
    DeskRuns 0 desk0 0x1005 deskRegs ∧
    (desk0.alt.ins[0]? = some (some 10) ∧ 0x4000 ≤ deskRegs.sreg 0 1 ∧ deskRegs.sreg 0 1 + (deskRegs.inputD 10).recordLen ≤ 0x10000) ∧
    (let s := drun (dword 0x38 5 1 0) deskRegs
     desk0.alt.outs[0]? = some (some 20) ∧ headerValid (s.dtile 0 (s.sreg 0 1)).head = true ∧
      s.sreg 0 1 + (s.dtile 0 (s.sreg 0 1)).recordLen ≤ 0x10000 ∧ desk0.touts[0]? = some 0) ∧
    (desk0.alt.streams.Nodup ∧ deskRegs.rd .abortDue (deskEp 0) ≠ 1 ∧ (deskRegs.wr .abortDue (deskEp 0) 1).rd .abortDue (deskEp 0) = 1) ∧
    (deskBad.badInputs (alt deskOp 1 1) = [10] ∧ deskBad.get (STR_BAD_HEADER 10) = 0 ∧
      readies deskBad (deskEp 0) 0 (fun a => deskBad.altReady a && !deskBad.held (deskGraph a.op)) (alt deskOp 1 1) = true) ∧
    ((desk0.alt.ins[1]?).join = none ∧ (desk0.alt.outs[1]?).join = none ∧ deskRegs.sreg 0 2 < 0x4000 ∧
      0x10000 < (deskOn [(1, 0xFFF0)]).sreg 0 1 + (deskRegs.inputD 10).recordLen ∧ (deskOn [(1, 0xFFF0)]).sreg 0 1 ≤ 0xFFFF ∧
      headerValid (deskRegs.dtile 0 0x4010).head = false ∧ ({ desk0 with touts := [1, 0] } : DeskFiring).touts[0]? = some 1) :=
  ⟨by decide +kernel, witness_DeskArithmeticWritesRd, by decide +kernel⟩

/-- What TIN brings, TOUT sends on (R143, R144). -/
theorem test_tin_tout :
    let s := drun (dword 0x38 5 1 0) deskRegs
    s.sreg 0 5 = 8 ∧ (slotTile (drun (dword 0x39 0 1 0) s) 20).payload = x32.payload := by decide +kernel

/-! Cells at their destination. -/

/-- The receiving side of stream 30, whose next tile is 7 and which has 4 slots; a tile of two cells for it, and a cell of tile `q`. -/
def rx30 : State :=
  fields State.reset [(STR_VALID 30, 1), (STR_REMOTE 30, 1), (STR_SIDE 30, 1), (STR_DST_ENDPT 30, 5), (STR_SRC_ENDPT 30, 9),
    (STR_CREDIT_MAX 30, 4), (STR_NEXT_SEQ 30, 7), (STR_WD_COUNT 30, 5), (STR_PEER_CHIP 30, 0x123), (STR_PEER_STREAM 30, 44), (STR_GRAPH 30, 2)]
def big : Tile := tile 0x0A 1 16 64 ((List.range 64).map (· + 1))
def tc (q j : Nat) (last : Bool) : Cell :=
  { cellTo 1 1 5 30 (bits big.raw (512 * j) 512) with seq := .ofNat 24 (q <<< 10 + j), last := last, hops := 63 }
def half30 : State := after (exec (.tileCellRx (some 3) (tc 8 0 false) false) rx30) rx30

/-- The distance of a cell's SEQ from stream 30's NEXT_SEQ, as the statement takes it. -/
def dist30 (c : Cell) : Nat := (bits c.seq.toNat 10 14 + 2 ^ 32 - 7) % 16384

/-- Stream 30 on a link that is member of port 2, while its graph drains, and while a plan activates. -/
def port30 : State := (fields rx30 [(LNK_ROLE_IN_PORT 3, 1), (LNK_ROLE_PORT 3, 2)]).wr .recvPort 30 0
def drains30 : State := rx30.wr .draining 2 1
def loads30 : State := rx30.set GLB_PLAN_STATUS_LOAD_STATE 3

theorem witness_TileCellsReassembleBySequence :
    (drains30.drainedBy (tc 8 0 false) ≠ none ∧ loads30.get GLB_PLAN_STATUS_LOAD_STATE = 3 ∧ loads30.running = true ∧
      port30.get (LNK_ROLE_IN_PORT 3) = 1 ∧ port30.acceptsTile 30 5 = true ∧ rx30.get (LNK_ROLE_IN_PORT 3) = 0 ∧
      rx30.get GLB_PLAN_STATUS_LOAD_STATE ≠ 3) ∧
    (512 < bits (tc 8 513 false).seq.toNat 0 10 ∧ ceilDiv big.recordLen 64 = 1 + 1 ∧
      ceilDiv (⟨setBits 0 0 512 (tc 8 0 true).payload.toNat⟩ : Tile).recordLen 64 ≠ 0 + 1) ∧
    (rx30.running = true ∧ half30.running = true ∧ ∀ q ∈ [6, 7, 10, 11], (tc q 0 false).kind = 1#5 ∧ rx30.drainedBy (tc q 0 false) = none ∧
      rx30.acceptsTile 30 5 = true) ∧
    State.reset.acceptsTile 30 5 = false ∧
    (dist30 (tc 7 0 false) = 0 ∧ dist30 (tc 10 0 false) < 4 ∧ dist30 (tc 10 0 false) + 4 < 16384) ∧
    16384 ≤ dist30 (tc 6 0 false) + 4 ∧ (dist30 (tc 11 0 false) + 4 < 16384 ∧ 4 ≤ dist30 (tc 11 0 false)) ∧
    (half30.slots.any fun x => x.stream = 30 && x.seq = 8 && !bitAt x.seen 1 && bitAt x.seen 0 && x.last = none && maxSeen x.seen ≤ 1) = true := by
  decide +kernel

/-- The second of two cells makes the tile present (R220). -/
theorem test_tile_reassembles :
    ((after (exec (.tileCellRx (some 3) (tc 8 1 true) false) half30) rx30).slots.any fun x => x.present && x.tile = big) = true := by
  decide +kernel

/-- A cell past the credit is counted and loses the stream (R221). -/
theorem test_credit_violation :
    (after (exec (.tileCellRx (some 3) (tc 11 0 false) false) rx30) rx30).get (STR_LOST 30) = 1 := by decide +kernel

/-- The sending side of stream 30 with 3 tiles done of 6 begun. -/
def tx30 : State := (fields rx30 [(STR_SIDE 30, 0), (STR_TILES_DONE 30, 3)]).wr .begun 30 6
def credit30 (v : Nat) : Cell := cellTo 2 0 9 30 v

theorem witness_CreditMilestoneAndNoticeCells :
    (let s := rx30.set (STR_TILES_DONE 30) 3
     s.running = true ∧ s.get (STR_VALID 30) = 1 ∧ s.get (STR_REMOTE 30) = 1 ∧ s.get (STR_SIDE 30) = 1 ∧
      s.get (STR_TILES_DONE 30) ≠ s.rd .consumedSince 30 ∧ s.rd .recvPort 30 = 0) ∧
    rx30.get (STR_TILES_DONE 30) = rx30.rd .consumedSince 30 ∧
    ((credit30 5).kind = 2#5 ∧ tx30.drainedBy (credit30 5) = none ∧ isVusyn 9 = false ∧ tx30.get (STR_SIDE 30) = 0 ∧
      tx30.get (STR_SRC_ENDPT 30) = 9 ∧ 0 < seqDiff 5 (tx30.get (STR_TILES_DONE 30)) ∧ seqDiff 3 (tx30.get (STR_TILES_DONE 30)) ≤ 0) ∧
    (tx30.set (STR_VALID 30) 0).get (STR_VALID 30) ≠ 1 ∧
    ((cellTo 3 1 0 0 (7 + 1 <<< 32)).kind = 3#5 ∧ State.reset.drainedBy (cellTo 3 1 0 0 (7 + 1 <<< 32)) = none) ∧
    (∀ n ∈ [1, 2, 3, 4], (cellTo 9 0 0x1F0 0 n).kind = 9#5 ∧ State.reset.drainedBy (cellTo 9 0 0x1F0 0 n) = none ∧
      bits (cellTo 9 0 0x1F0 0 n).payload.toNat 0 8 = n) ∧
    (let s := (fields rx30 [(STR_TILES_DONE 30, 3)]).wr .recvPort 30 3
     s.allowance (portKey 2 1 2) ≤ 0) ∧
    ((tx30.wr .draining 2 1).drainedBy (credit30 5) ≠ none ∧ State.reset.running = true ∧
      (let s := State.reset.set (MLS_ENTRY_COUNT 7) 0xFFFFFFFF
       0xFFFFFFFF < s.get (MLS_ENTRY_COUNT 7) + bits (cellTo 3 1 0 0 (7 + 1 <<< 32 + 1 <<< 64)).payload.toNat 32 32 ∧
        bitAt (cellTo 3 1 0 0 (7 + 1 <<< 32 + 1 <<< 64)).payload.toNat 64 = true)) := by decide +kernel

/-- Five of six begun tiles are done: of four credits one is out (R216). -/
theorem test_credit_cell :
    (after (exec (.creditCellRx (some 3) (credit30 5) false) tx30) tx30).get (STR_CREDITS 30) = 3 := by decide +kernel

/-! The router. -/

/-- A cell from link 3 waits for the chip 0x100000; level W leads there by port 2, whose member is link 4, up and with credit. -/
def away : Cell := { tc 8 0 false with dest := 0x100000 }
def wired (s : State) : State :=
  let s := fields s [(LNK_ROUTE_W_VALID 1, 1), (LNK_ROUTE_W_EN0 1, 1), (LNK_ROUTE_W_PORT0 1, 2), (LNK_PORT_MEMBERS_MEMBERS 2, 0x10),
    (LNK_PORT_CFG_VALID 2, 1), (LNK_PORT_CFG_ROLE 2, 2), (LNK_STATE_STATE 4, 6), (LNK_PORT_CFG_UP 2, 1), (STN_CTRL_ENABLE 0x144, 1)]
  (List.range 8).foldl (fun s v => s.wr .txCred (8 * 4 + v) 3) s
def routed (c : Cell) : State := { wired State.reset with rxBuf := [⟨5, 3, c⟩] }
def routeOwn : State :=
  { wired State.reset with egress := [⟨some 2, false, [away, away]⟩], allow := [(portKey 2 0 2, 10)] }
def altsOf (s : State) (d : Nat) : List (Nat × Bool) :=
  match s.lookup d with
  | .alts l => l
  | _ => []

theorem witness_RouterForwardsWaitsOrDrops :
    (routed away).running = true ∧ State.reset.headCell (some 3) 1 false = none ∧ (routed away).headCell (some 3) 1 false = some (5, away) ∧
    badKind { away with kind := 0x0B } = true ∧ (routed { away with kind := 0x0B }).headCell (some 3) 1 false ≠ none ∧ badKind away = false ∧
    (fields (routed away) [(LNK_FENCE_VALID 3, 1), (LNK_FENCE_CHIP 3, 0x100000)]).fenced 0x100000 = true ∧
    (routed away).fenced 0x100000 = false ∧ ((routed away).set (LNK_ROUTE_W_VALID 1) 0).lookup 0x100000 = .noRoute ∧
    ((routed away).lookup 0x100000 = .alts (altsOf (routed away) 0x100000) ∧ away.hops ≠ 0#6 ∧
      (routed away).pickRoute away (altsOf (routed away) 0x100000) = some (2, false, 4)) ∧
    ((routed away).wr .txCred 33 0).pickRoute away (altsOf (routed away) 0x100000) = none ∧
    ((routed (tc 8 0 false)).lookup 0 = .here ∧ (routed (tc 8 0 false)).get GLB_PLAN_STATUS_LOAD_STATE ≠ 3 ∧ (tc 8 0 false).kind = 1#5) ∧
    (∀ s ∈ [routed away, routeOwn, routed (tc 8 0 false)], retryCopies.run s = s) ∧
    ((routed (tc 8 0 false)).set GLB_PLAN_STATUS_LOAD_STATE 3).lookup 0 = .here ∧
    (let s := { routeOwn with egress := [⟨some 2, false, [{ away with dest := 0 }]⟩] }
     s.headCell none 1 false = some (0, { away with dest := 0 }) ∧ s.lookup 0 = .here) ∧
    { away with hops := 0 }.hops = 0#6 ∧ State.reset.headCell none 1 false = none ∧
    (routeOwn.running = true ∧ routeOwn.headCell none 1 false = some (0, away) ∧
      routeOwn.egress[0]? = some ⟨some 2, false, [away, away]⟩ ∧ routeOwn.chargePort away = some 2 ∧
      routeOwn.lookup 0x100000 = .alts (altsOf routeOwn 0x100000) ∧
      routeOwn.pickRoute away (altsOf routeOwn 0x100000) = some (2, false, 4)) := by decide +kernel

/-- A forwarded cell leaves on link 4 with one hop less (R213, R231). -/
theorem test_route_forwards :
    ((after (exec (.cellRoute (some 3) 1 none) (routed away)) rx30).txq.map fun x => (x.link, x.cell.hops)) = [(4, 62)] := by
  decide +kernel

/-- Each of a message's two cells is charged as it is sent (R40). -/
theorem test_cells_charged_one_by_one :
    let s := after (exec (.cellRoute none 1 none) routeOwn) routeOwn
    s.allowance (portKey 2 0 2) = 9 ∧ s.egress = [⟨some 2, true, [away]⟩] ∧
    (after (exec (.cellRoute none 1 none) s) s).allowance (portKey 2 0 2) = 8 := by decide +kernel

/-- A cell for a chip without a route is dropped and counted (R242). -/
theorem test_route_drops :
    let s := (routed away).set (LNK_ROUTE_W_VALID 1) 0
    (after (exec (.cellRoute (some 3) 1 none) s) s).get (LNK_RT_COUNTER_COUNT cntNoRoute) = 1 ∧
    (after (exec (.cellRoute (some 3) 1 none) s) s).rxBuf = [] := by decide +kernel

/-- A multicast cell of group 9, which has ports 2 and 3, and port 4 fenced. -/
def mcell : Cell := { cellTo 4 1 0x120 31 5 with dest := 9, mcast := true, hops := 63 }
def multi : State := fields (routed mcell) [(LNK_MCAST_VALID 9, 1), (LNK_MCAST_PORTS 9, 0x1C), (LNK_MCAST_FENCED 9, 0x10)]

theorem witness_MulticastCopiesAndFences :
    (multi.running = true ∧ multi.headCell (some 3) 1 true = some (5, mcell) ∧ badKind mcell = false ∧ multi.get (LNK_MCAST_VALID 9) = 1 ∧
      multi.get (LNK_MCAST_LOCAL 9) = 0 ∧ mcell.hops ≠ 0#6) ∧
    (retryCopies.run multi = multi ∧ (retryCopies.run (multi.set (LNK_MCAST_LOCAL 9) 1)) = multi.set (LNK_MCAST_LOCAL 9) 1 ∧
      multi.get GLB_PLAN_STATUS_LOAD_STATE ≠ 3 ∧ State.reset.headCell (some 3) 1 true = none ∧ { mcell with hops := 0 }.hops = 0#6 ∧
      badKind { mcell with kind := 0x0B } = true) ∧
    (let c := { mcell with kind := 3 }
     let s := (fields (routed c) [(LNK_MCAST_VALID 9, 1), (LNK_MCAST_LOCAL 9, 1), (LNK_MCAST_PORTS 9, 4)])
     s.headCell (some 3) 1 true = some (5, c) ∧ badKind c = false ∧ s.drainedBy c = none ∧ s.get (LNK_MCAST_LOCAL 9) = 1 ∧
      (s.set GLB_PLAN_STATUS_LOAD_STATE 3).get GLB_PLAN_STATUS_LOAD_STATE = 3) ∧
    (multi.set (LNK_MCAST_VALID 9) 0).get (LNK_MCAST_VALID 9) = 0 ∧
    (∀ p ∈ [2, 3], bitAt (multi.get (LNK_MCAST_PORTS 9)) p = true ∧ bitAt (multi.get (LNK_MCAST_FENCED 9)) p = false ∧
      multi.get (LNK_PORT_CFG_ROLE p) ≠ 1) ∧
    (bitAt (multi.get (LNK_MCAST_PORTS 9)) 4 = true ∧ bitAt (multi.get (LNK_MCAST_FENCED 9)) 4 = true) := by decide +kernel

/-- The fence's entries in use are counted (R239). -/
theorem test_fence_used :
    (after (exec (.fenceEntryWrite 4 0x55 true) State.reset) State.reset).get LNK_FENCE_STATUS_USED = 1 := by decide +kernel

/-! Links. -/

/-- Link 4, lit, in state `st`, with credit and FSEQ 9. -/
def link4 (st : Nat) : State :=
  let s := fields State.reset [(PWR_LASER_LIT, 7), (LNK_STATE_STATE 4, st), (LNK_STATE_LIT 4, 0xFF), (LNK_PEER_INFO_VALID 4, 1), (STN_CTRL_ENABLE 0x144, 1)]
  (List.range 8).foldl (fun s v => s.wr .txCred (8 * 4 + v) 3) (s.wr .fseqNext 4 9)
def sending : State := { link4 6 with txq := [⟨7, 4, none, none, away, away⟩, ⟨8, 5, none, none, away, away⟩] }
def frame9 : List Byte := ((after (exec (.frameTx 4 []) sending) sending).wire.head?.map (·.2)).getD []
def holding (n fails : Nat) : State :=
  ({ link4 6 with heldFrames := (List.range n).map fun i => ⟨4, i, [away]⟩ }).wr .replayFails 4 fails

theorem witness_FramesCarryCellsInOrder_sending :
    (State.reset.running = true ∧ State.reset.txLit 4 = false) ∧ ((link4 3).txLit 4 = true ∧ (link4 3).get (LNK_STATE_STATE 4) < 4) ∧
    ((link4 5).txLit 4 = true ∧ 5 ≤ (link4 5).get (LNK_STATE_STATE 4) ∧ (link4 5).rd .replayLeft 4 = 0 ∧ (link4 5).pickTx 4 = none) ∧
    (let s := (holding 2 0).wr .replayLeft 4 2
     0 < s.rd .replayLeft 4 ∧ (s.heldOf 4)[(s.heldOf 4).length - s.rd .replayLeft 4]? = some ⟨4, 0, [away]⟩) ∧
    ((holding 32 0).rd .replayLeft 4 = 0 ∧ 32 ≤ ((holding 32 0).heldOf 4).length) ∧
    (let s := (link4 4).wr .crSteps 4 1
     s.txLit 4 = true ∧ s.get (LNK_STATE_STATE 4) = 4 ∧ s.rd .crSteps 4 ≠ 0 ∧ s.rd .crinitLeft 4 = 0 ∧
      0 < (s.wr .crinitLeft 4 4).rd .crinitLeft 4 ∧ (link4 4).rd .crSteps 4 = 0) ∧
    (sending.rd .replayLeft 4 = 0 ∧ (sending.heldOf 4).length < 32 ∧ (sending.pickTx 4).isSome = true) := by decide +kernel

/-- A CRINIT frame, and an idle frame that asks for a replay. -/
def frameOf (s : State) : List Byte := ((after (exec (.frameTx 4 []) s) s).wire.head?.map (·.2)).getD []
def crinitFrame : List Byte := frameOf (link4 3)
def nakFrame : List Byte := frameOf (((link4 6).wr .nakDue 4 1).wr .fexpect 4 0)

/-- The frame from the other end is next in order, already taken, or in order while a replay is awaited. -/
theorem witness_FramesCarryCellsInOrder_receiving :
    (let s := (link4 6).wr .fexpect 4 9
     s.running = true ∧ s.get (LNK_STATE_STATE 4) = 6 ∧ (frameTrailer frame9).2 = true ∧ (frameTrailer frame9).1.crinit = false ∧
      (frameTrailer frame9).1.idle = false ∧ (frameTrailer frame9).1.nak = false ∧
      ((frameCells frame9).all fun x => isPad x.1 || x.2) = true ∧ (frameTrailer frame9).1.fseq = s.rd .fexpect 4 ∧ s.rd .nakHold 4 = 0) ∧
    (∀ n ∈ [10, 41], (frameTrailer frame9).1.fseq ≠ n ∧ 1 ≤ (n + 4096 - (frameTrailer frame9).1.fseq) % 4096 ∧
      (n + 4096 - (frameTrailer frame9).1.fseq) % 4096 ≤ 32) ∧
    ((holding 1 6).heldOf 4 = [⟨4, 0, [away]⟩] ∧ (holding 1 7).rd .replayFails 4 < 8 ∧ 8 ≤ (holding 1 8).rd .replayFails 4 ∧
      (holding 0 0).heldOf 4 = []) := by decide +kernel

/-- A CRINIT frame, a frame that asks for a replay, and one without a sound trailer. -/
theorem witness_FramesCarryCellsInOrder_others :
    ((frameTrailer crinitFrame).2 = true ∧ (frameTrailer crinitFrame).1.crinit = true ∧ (link4 4).holdsFrom 4 = false ∧
      ((link4 4).wr .crSteps 4 1).rd .crSteps 4 ≠ 0 ∧ (link4 3).get (LNK_STATE_STATE 4) < 4) ∧
    ((frameTrailer nakFrame).2 = true ∧ (frameTrailer nakFrame).1.nak = true ∧ (frameTrailer nakFrame).1.idle = true ∧
      (frameTrailer nakFrame).1.crinit = false ∧ (holding 1 0).acked 4 (frameTrailer nakFrame).1.aseq = 0 ∧ (holding 1 0).rd .replayLeft 4 = 0) ∧
    (frameTrailer (List.replicate 1296 1#8)).2 = false ∧ 32 < (8 + 4096 - 9) % 4096 := by decide +kernel

/-- What one end frames the other takes: the cell that came is the cell that was sent (R223, R252). -/
theorem test_frame_carries_cell :
    ((after (exec (.frameRx 4 frame9 false 0 0 false) ((link4 6).wr .fexpect 4 9)) rx30).rxBuf.map (·.cell)) = [away] := by decide +kernel

theorem witness_LinksComeUpAndFall :
    (∀ st ∈ [0, 1, 2, 3, 4, 6], (link4 st).running = true ∧ (link4 st).get (LNK_STATE_STATE 4) = st ∧ (link4 st).txLit 4 = true) ∧
    ((0x7F : BitVec 8) ≠ 0xFF) ∧ ((link4 4).wr .crSteps 4 7).rd .crSteps 4 = 7 ∧ (link4 4).rd .crSteps 4 ≠ 7 ∧
    (bitAt ((link4 0).get PWR_LASER_LIT) (unitOf 4) = true ∧ (link4 0).get (LNK_STATE_LIT 4) = 0xFF) := by decide +kernel

/-- Lost light takes a link down, with its reason (R250). -/
theorem test_light_lost :
    (after (exec (.linkLightLost 4 0x7F) (link4 6)) rx30).get (LNK_STATE_STATE 4) = 0 ∧
    (after (exec (.linkLightLost 4 0x7F) (link4 6)) rx30).get (LNK_STATE_DOWN_REASON 4) = downLight := by decide +kernel

/-- The waymark of a chip with serial 0x123, arrived on link 4. -/
def waymark : Cell :=
  (((after (exec (.waymarkSend 4) ((link4 6).set LNK_SERIAL_SERIAL 0x123)) rx30).txq.head?).map (·.cell)).getD away
def marked (c : Cell) : State := { link4 6 with rxBuf := [⟨3, 4, c⟩] }

theorem witness_WaymarksAndElection :
    (5 ≤ (link4 5).get (LNK_STATE_STATE 4) ∧ (link4 4).get (LNK_STATE_STATE 4) < 5 ∧ (link4 5).running = true) ∧
    (∀ c ∈ [waymark, cellTo 8 0 0 0 (2 ^ 132)],
      ((marked c).rxBuf.find? fun r => r.link = 4 && r.cell.kind = 8#5) = some ⟨3, 4, c⟩) ∧
    badKind waymark = false ∧ badKind (cellTo 8 0 0 0 (2 ^ 132)) = false ∧ badKind (cellTo 8 1 0 0 0) = true ∧
    (link4 6).rxBuf.isEmpty = true ∧ wmBad waymark.payload.toNat = false ∧ wmBad (2 ^ 132) = true ∧ State.reset.get LNK_COORD_VALID = 0 ∧
    (State.reset.set LNK_COORD_VALID 1).get LNK_COORD_VALID = 1 ∧ (State.reset.set GLB_BOOT_STATUS_STAGE 8).get GLB_BOOT_STATUS_STAGE = 8 := by
  decide +kernel

/-- The other end's serial is recorded (R263). -/
theorem test_waymark_serial :
    (after (exec (.waymarkRx 4) (marked waymark)) rx30).get (LNK_PEER_SERIAL_SERIAL 4) = 0x123 := by decide +kernel

/-! Collectives: two chips, of which this one has digit `me` on the one level of group 5. -/

/-- Four FP32 elements, and eight for a bucket, and four finished BF16 elements. -/
def x4 : Tile := tile 0x0A 1 4 16 [0, 0, 0x80, 0x3F, 0, 0, 0, 0xC0, 0, 0, 0x80, 0x40, 0, 0, 0, 0x40]
def x8 : Tile := tile 0x0A 2 4 16 ((List.range 8).flatMap fun k => [0, 0, 0x80, 0x3F + k % 3])
def y4 : Tile := tile 0x09 1 4 8 [0x80, 0x3F, 0, 0x40, 0x40, 0x40, 0x80, 0x40]

def grouped (s : State) (me : Nat) : State :=
  fields s [(VSY_GROUP_VALID 5, 1), (VSY_GROUP_GRAPH 5, 1), (VSY_GROUP_CTL_VC 5, 1), (VSY_GROUP_AXIS 5 0, 3), (VSY_GROUP_SIZE 5 0, 1),
    (VSY_GROUP_DIGIT 5 0, me), (VSY_GROUP_EPOCH 5, 3), (LNK_COORD_ACTIVE, me), (LNK_COORD_VALID, 1), (GLB_MODE_ROLE, 1),
    (GLB_STEP_CFG_GROUP 1, 5)]

/-- Descriptor 7: operation `op` over `count` elements. -/
def described (s : State) (op count : Nat) : State :=
  fields s [(VSY_DESC_VALID 7, 1), (VSY_DESC_OP 7, op), (VSY_DESC_ET 7, 4), (VSY_DESC_GROUP 7, 5), (VSY_DESC_VC 7, 2),
    (VSY_DESC_CHUNK_LOG2 7, 12), (VSY_DESC_COUNT 7, count), (VSY_DESC_SLOTS 7, 16), (VSY_DESC_MLS_DONE 7, 300),
    (VSY_DESC_OUT_COLS 7, 4), (VSY_DESC_WORK 7, 2), (VSY_DESC_SIG 7, 0x77), (VSY_DESC_INST 7, 9)]

/-- A chip before the firings of an all-reduce of four elements, and after it has entered and staged them. -/
def reduceOp : Nat := 1 + 7 <<< 4
def work2 : Region := ⟨2, 4, 8192, 64, 4, false, 1⟩
def reduce0 (me : Nat) : State :=
  { described (grouped (station State.reset 0x120 0 reduceOp [x4] 1) me) 1 4 with regions := [work2] }
def entered (me : Nat) : State := after (execColl 0 false (reduce0 me)) (reduce0 me)

def inst7 (s : State) : Inst := (s.inst 7).getD ⟨0, 0, false, [], [], 0, 0, [], [], [], [], 0, 0, false, false, 0, 0, [], 0⟩

/-- The messages of the instance, and the first that is ready. -/
def keysOf (s : State) : List MsgKey :=
  (s.stages (s.geo 7)).flatMap fun st => s.stageKeys (s.geo 7) (inst7 s) 0 (s.actorDigits 5 0) st 0 false
def noKey : MsgKey := ⟨0, false, 0, 0, 0, 0, 0, 0, 0, 0⟩
def readyKey (s : State) : MsgKey := ((keysOf s).find? fun k => s.sendReady (s.geo 7) (inst7 s) k).getD noKey
def msgFrom (s : State) : List Cell := ((after (execPieceSend 7 (readyKey s) [] s) s).egress.head?.map (·.cells)).getD []

/-- The other chip's first message at this chip. -/
def piece : List Cell := msgFrom (entered 1)
def arrived : State := { entered 0 with vsyCells := piece }
def arrivedMsg : PieceMsg := (wholeMsg piece).getD ⟨false, 0, 0, 0, 0, 0⟩
def keyTaken (s : State) (m : PieceMsg) : MsgKey :=
  match ({ s with vsyCells := [], waitMsgs := [m] } : State).verdict m with
  | .take k => k
  | _ => noKey

theorem witness_CollectiveFiringsEnterStageAndEmit_enter :
    (reduce0 0).running = true ∧ (reduce0 0).waitMsgs = [] ∧ readies (reduce0 0) 0x120 0 (reduce0 0).vsyReady (alt reduceOp 1 1) = true ∧
    vwKind reduceOp = 1 ∧ (reduce0 0).vsyNext (alt reduceOp 1 1) = some .enter := by decide +kernel

def key (phase dir digit : Nat) : MsgKey := ⟨0, false, phase, 0, dir, 0, 0, digit, 0, 1⟩

/-- The instance before it stages, and after every message has gone and come. -/
def unstaged : State := { reduce0 0 with insts := [{ inst7 (entered 0) with staged := 0 }] }
def complete : Inst :=
  { inst7 (entered 0) with
    sent := [key 0 0 1, key 0 1 1, key 1 0 0, key 1 1 0], got := [key 0 0 0, key 0 1 0, key 1 0 1, key 1 1 1] }
def emitting : State := { entered 0 with insts := [complete] }

theorem witness_CollectiveFiringsEnterStageAndEmit :
    ((reduce0 0).running = true ∧ (reduce0 0).waitMsgs = [] ∧ readies (reduce0 0) 0x120 0 (reduce0 0).vsyReady (alt reduceOp 1 1) = true ∧
      vwKind reduceOp = 1 ∧ (reduce0 0).vsyNext (alt reduceOp 1 1) = some .enter) ∧
    (readies unstaged 0x120 0 unstaged.vsyReady (alt reduceOp 1 1) = true ∧ (unstaged.inst 7).isSome = true ∧
      unstaged.vsyNext (alt reduceOp 1 1) = some (.stage 10) ∧
      unstaged.badContribution (unstaged.geo 7) (inst7 unstaged) (unstaged.inputD 10) = false ∧
      unstaged.badContribution (unstaged.geo 7) (inst7 unstaged) x16 = true ∧ unstaged.region (unstaged.get (VSY_DESC_WORK 7)) = some work2) ∧
    (readies emitting 0x120 0 emitting.vsyReady (alt reduceOp 1 1) = true ∧ emitting.inst 7 = some complete ∧
      emitting.vsyNext (alt reduceOp 1 1) = some (.emit 0 20 0 4) ∧ work2.mem < 80) := by decide +kernel

/-- The chip with an abort of the instance to come, with a tile of another format before and after the entry. -/
def aborted0 : State := { reduce0 0 with earlyAborts := [(7, 9, 5)] }
def misfit0 : State := { reduce0 0 with slots := [wholeSlot 10 0 x16] }
def misfit1 : State := { unstaged with slots := [wholeSlot 10 0 x16] }

theorem witness_CollectiveFiringsEnterStageAndEmit_others :
    State.reset.firstReady 0x120 0 State.reset.vsyReady = none ∧
    (readies aborted0 0x120 0 aborted0.vsyReady (alt reduceOp 1 1) = true ∧ aborted0.vsyNext (alt reduceOp 1 1) = some .enter ∧
      (aborted0.earlyAborts.find? fun y => y.1 = 7 && y.2.1 = aborted0.get (VSY_DESC_INST 7)) = some (7, 9, 5)) ∧
    (readies misfit0 0x120 0 misfit0.vsyReady (alt reduceOp 1 1) = true ∧ misfit0.vsyNext (alt reduceOp 1 1) = some .enter) ∧
    (readies misfit1 0x120 0 misfit1.vsyReady (alt reduceOp 1 1) = true ∧ misfit1.vsyNext (alt reduceOp 1 1) = some (.stage 10) ∧
      misfit1.badContribution (misfit1.geo 7) (inst7 misfit1) (misfit1.inputD 10) = true ∧ misfit1.get (STR_BAD_HEADER 10) = 0) := by
  decide +kernel

theorem witness_CollectiveFiringsEnterStageAndEmit_first_tile (x : Inst) (h : x.staged = 0) :
    (reduce0 0).badContribution ((reduce0 0).geo 7) x ((reduce0 0).inputD 10) = false ∧
    misfit0.badContribution (misfit0.geo 7) x (misfit0.inputD 10) = true := by
  rw [State.badContribution, State.badContribution, h]
  decide +kernel

/-- A staged FP32 contribution stands in WORK as it came (R296). -/
theorem test_staged_in_work : Mem.nat (entered 0).mem (memBase 4 + 8192) 16 = x4.payload := by decide +kernel

/-- The message's receiver is served here, or not; its epoch is the group's, or newer. -/
theorem witness_PieceMessagesAreSentAndCombined :
    ((entered 0).running = true ∧ (entered 0).waitMsgs = [] ∧ State.reset.inst 7 = none) ∧
    (let s := entered 0
     let k := readyKey s
     s.inst 7 = some (inst7 s) ∧ s.sendReady (s.geo 7) (inst7 s) k = true ∧ s.servingChip 5 (peerDigits (s.actorDigits 5 0) k) = 1 ∧
      s.chipId = 0 ∧ s.unreleased 7 1 < s.window (s.geo 7) ∧ s.withdrawn 5 (s.ownDigits 5) = false) ∧
    (takeOut arrived.vsyCells piece = some [] ∧ wholeMsg piece = some arrivedMsg ∧ isPieceMsg arrivedMsg = true ∧ arrivedMsg.poison = 0 ∧
      arrivedMsg.stream.toNat % 4096 = 7) ∧
    (arrived.serves arrivedMsg.endpt.toNat 7 = true ∧ (arrived.set (VSY_DESC_VALID 7) 0).serves arrivedMsg.endpt.toNat 7 = false ∧
      0 < epochDiff (phEpoch arrivedMsg.head.toNat) ((arrived.set (VSY_GROUP_EPOCH 5) 2).get (VSY_GROUP_EPOCH 5))) := by decide +kernel

theorem witness_PieceMessagesAreSentAndCombined_taken :
    let s1 : State := { arrived with vsyCells := [], waitMsgs := [arrivedMsg] }
    let k := keyTaken arrived arrivedMsg
    let l := arrived.keyElems (arrived.geo 7) (inst7 arrived) (arrived.actorDigits 5 k.actor) k
    s1.verdict arrivedMsg = .take k ∧ arrived.inst 7 = some (inst7 arrived) ∧ k.sample = false ∧
    arrived.clique (arrived.geo 7).group k.level = false ∧ k.actor = 0 ∧ arrived.region (arrived.get (VSY_DESC_WORK 7)) = some work2 ∧
    l.Nodup ∧ 0 < l.length ∧ 0 < (arrived.wireWords (arrived.geo 7) (inst7 arrived) k l arrivedMsg.data).length := by decide +kernel

/-- A chip that plays the withdrawn position of the other; the two chips on a clique, and the message of one at the other. -/
def detoured : State :=
  (fields (entered 0) [(VSY_GROUP_DLVL 5 0, 1), (VSY_GROUP_DETOURED 5, 1), (VSY_GROUP_WITHDRAWN 5, 1)]).wr .takeover 5 1
def cliqued (me : Nat) : State := fields (reduce0 me) [(VSY_GROUP_AXIS 5 0, 0), (LNK_COORD_ACTIVE, me <<< 20)]
def enteredClique (me : Nat) : State := after (execColl 0 false (cliqued me)) (reduce0 me)
def pieceClique : List Cell := msgFrom (enteredClique 1)
def msgClique : PieceMsg := (wholeMsg pieceClique).getD ⟨false, 0, 0, 0, 0, 0⟩
def cliqueWaits : State := { enteredClique 0 with waitMsgs := [msgClique] }

theorem witness_PieceMessagesAreSentAndCombined_others :
    ((entered 0).sendReady ((entered 0).geo 7) (inst7 (entered 0)) (key 1 0 0) = false ∧
      (detoured.sendReady (detoured.geo 7) (inst7 detoured) (readyKey detoured) = true ∧ detoured.takesPart (detoured.descGraph 7) = true ∧
        detoured.servingChip 5 (peerDigits (detoured.actorDigits 5 (readyKey detoured).actor) (readyKey detoured)) = detoured.chipId ∧
        detoured.withdrawn 5 (detoured.ownDigits 5) = false ∧ detoured.inst 7 = some (inst7 detoured))) ∧
    (takeOut (entered 0).vsyCells piece = none ∧ wholeMsg [] = none ∧ struckMask 2 [1] ≠ 0) ∧
    (let v (f : State → State) : Verdict := (f { arrived with vsyCells := [], waitMsgs := [arrivedMsg] }).verdict arrivedMsg
     v (fun s => s.set (VSY_GROUP_EPOCH 5) 2) = .wait ∧ v (fun s => s.set (VSY_GROUP_EPOCH 5) 4) = .stale ∧
      v (fun s => s.set (VSY_DESC_SIG 7) 0x78) = .abort 1) ∧
    (let k := { keyTaken (enteredClique 0) msgClique with peer := 0 }
     takeOut pieceClique pieceClique = some [] ∧ isPieceMsg msgClique = true ∧
      cliqueWaits.inst 7 = some (inst7 cliqueWaits) ∧ k.sample = false ∧ k.phase = 0 ∧ cliqueWaits.clique 5 k.level = true ∧
      (cliqueWaits.verdict msgClique = .take { k with peer := 1 }) ∧ msgClique.stream.toNat % 4096 = 7 ∧
      (cliqueWaits.waitMsgs.map fun w => cliqueWaits.keyOf (cliqueWaits.geo 7) (inst7 cliqueWaits) w).Nodup) := by decide +kernel

/-- A message for a descriptor that is not served is BAD_COLL (R293). -/
theorem test_unserved_message :
    let s := arrived.set (VSY_DESC_VALID 7) 0
    (after (execPieceMessage piece [] s) s).get (VSY_CNT_COUNT 2) = 1 := by decide +kernel

/-- Cells for descriptor 7: an ABORT of an instance, and an ENTER of an epoch and an instance. -/
def abortOf (inst reason : Nat) : Cell := cellTo 7 1 0x120 7 (0x77 + 3 <<< 32 + inst <<< 64 + reason <<< 112)
def enterOf (epoch inst : Nat) : Cell := cellTo 4 1 0x120 7 (0x77 + epoch <<< 32 + inst <<< 64 + 1 <<< 128 + 1 <<< 160)
def creditOf (st v : Nat) : Cell := cellTo 2 0 0x120 st v

/-- The chip with one message sent under STREAM 7 and not released. -/
def oneOut : State := { entered 0 with sentCounts := [⟨7, 1, 1, 1, 0⟩] }

/-- The chip with its COLL watchdog on. -/
def dogOn : State := (entered 0).set VSY_COLL_CFG_COLL_WD 5

theorem witness_CollectiveCreditsAbortsAndWatchdog :
    ((entered 0).running = true ∧ (State.reset.serves 0x120 7 = false) ∧ (entered 0).serves 0x120 7 = true ∧
      (abortOf 9 3).stream.toNat % 4096 = 7) ∧
    ((oneOut.sentCounts.filter fun x => x.stream = 7 && 0 < seqDiff 1 x.released && 0 ≤ seqDiff x.sent 1) = [⟨7, 1, 1, 1, 0⟩] ∧
      (oneOut.sentCounts.filter fun x => x.stream = 7 && 0 < seqDiff 2 x.released && 0 ≤ seqDiff x.sent 2) = []) ∧
    ((entered 0).inst 7 = some (inst7 (entered 0)) ∧ (inst7 (entered 0)).num = bits (abortOf 9 3).payload.toNat 64 32 ∧
      ((entered 0).earlyAborts.any fun a => a.1 = 7 && a.2.1 = 9) = false ∧
      (entered 0).get (MLS_STATUS_CODE ((entered 0).get (VSY_DESC_MLS_DONE 7))) = 0) ∧
    ((inst7 (entered 0)).num ≠ bits (abortOf 8 3).payload.toNat 64 32 ∧
      seqDiff (bits (abortOf 8 3).payload.toNat 64 32) (inst7 (entered 0)).num ≤ 0 ∧
      ((entered 0).earlyAborts.any fun a => a.1 = 7 && a.2.1 = 8) = false) ∧
    (let age (c : Cell) : Int := epochDiff (phEpoch c.payload.toNat) ((entered 0).get (VSY_GROUP_EPOCH 5))
     age (enterOf 2 10) < 0 ∧ 0 < age (enterOf 4 10) ∧ age (enterOf 3 10) = 0) ∧
    (0 ≤ seqDiff (phInst (enterOf 3 10).payload.toNat) ((entered 0).get (VSY_DESC_INST 7)) ∧
      phSig (enterOf 3 10).payload.toNat = (entered 0).get (VSY_DESC_SIG 7) ∧ (fields (entered 0) [(VSY_LAG_CFG_EN, 1), (VSY_LAG_CFG_GROUP, 5)]).traces 5 = true ∧
      phRank (enterOf 3 10).payload.toNat ≠ (entered 0).ownRank 5 ∧
      ((entered 0).enterRec 7 (phInst (enterOf 3 10).payload.toNat)).own = none) ∧
    (dogOn.inst 7 = some (inst7 (entered 0)) ∧ dogOn.get VSY_COLL_CFG_COLL_WD ≠ 0 ∧ dogOn.get GLB_MODE_ROLE = 1 ∧
      dogOn.collWdHeld 7 (inst7 (entered 0)) = false ∧ (dogOn.set VSY_COLL_CFG_COLL_WD 0).get VSY_COLL_CFG_COLL_WD = 0) := by
  decide +kernel

/-- The chip between instances; one to which the other member's ENTER comes last, while it traces; and one that does not take part. -/
def between : State := { entered 0 with insts := [] }
def tracing : State :=
  { fields (entered 0) [(VSY_LAG_CFG_EN, 1), (VSY_LAG_CFG_GROUP, 5)] with enters := [⟨7, 9, some 100, []⟩] }

theorem witness_CollectiveCreditsAbortsAndWatchdog_others :
    (between.inst 7 = none ∧ between.takesPart 1 = true ∧ 0 ≤ seqDiff 10 (between.get (VSY_DESC_INST 7)) ∧
      seqDiff 8 (between.get (VSY_DESC_INST 7)) < 0) ∧
    0 < seqDiff 10 (inst7 (entered 0)).num ∧
    (({ entered 0 with earlyAborts := [(7, 10, 5)] }).earlyAborts.any fun a => a.1 = 7 && a.2.1 = 10) = true ∧
    ((entered 0).wr .gone 1 1).takesPart ((entered 0).descGraph 7) = false ∧
    (let s := (entered 0).set (VSY_DESC_SIG 7) 0x78
     phSig (enterOf 3 9).payload.toNat ≠ s.get (VSY_DESC_SIG 7) ∧ (inst7 s).num = phInst (enterOf 3 9).payload.toNat ∧
      (inst7 s).num ≠ phInst (enterOf 3 10).payload.toNat) ∧
    ((entered 0).traces 5 = false ∧ (tracing.enterRec 7 9).own = some 100 ∧ tracing.traces 5 = true ∧
      phInst (enterOf 3 9).payload.toNat = 9 ∧ groupN (tracing.sizes 5) = 2 ∧ phRank (enterOf 3 9).payload.toNat = 1 ∧ tracing.ownRank 5 = 0) := by
  decide +kernel

/-- A credit of 1 releases the one message sent (R290). -/
theorem test_coll_credit : (after (execCollCredit (creditOf 7 1) oneOut) oneOut).sentCounts = [⟨7, 1, 1, 1, 1⟩] := by decide +kernel

/-- An abort with reason 3 marks the streams ABORTED (R293). -/
theorem test_abort_marks : (after (execAbortCell (abortOf 9 3) (entered 0)) State.reset).get (STR_ABORTED 20) = 1 := by decide +kernel

/-! The gradient path. -/

def bucketOp : Nat := 2 + 7 <<< 4
def publishOp : Nat := 3 + 7 <<< 4
def gatherOp : Nat := 4 + 7 <<< 4
def param3 : Region := ⟨3, 4, 16384, 4, 4, true, 1⟩

/-- A chip before the bucket of eight elements, its column ready, its published tile waiting, at step `k` of bucket, publish, gather. -/
def bucket0 (me k check : Nat) : State :=
  let s := described (grouped (station State.reset 0x120 0 bucketOp [x8, y4] 0) me) 6 8
  let s := fields s [(VSY_BUCKET_PREGION 7, 3), (VSY_BUCKET_PUB_MC 7, 33), (VSY_BUCKET_SCALE 7, 0x3F000000), (VSY_BUCKET_MLS_FIN 7, 301),
    (VSY_BUCKET_CHECK_EN 7, check), (STN_STATUS_STEP_IDX 0x120, k)]
  { s with
    regions := [work2, param3]
    progs := [⟨0x120, 0, [⟨1, [⟨bucketOp, [some 10], []⟩]⟩, ⟨2, [⟨publishOp, [some 11], []⟩]⟩, ⟨3, [⟨gatherOp, [], []⟩]⟩, ⟨0, []⟩]⟩] }
def staged (me k check : Nat) : State :=
  let s := bucket0 me 0 check
  (after (execBucket 0 false (if check = 0 then s else s.set VSY_GRAD_CFG_SAMPLE_L 0)) s).set (STN_STATUS_STEP_IDX 0x120) k

/-- The bucket with its column combined, finished, and its tile published. -/
def combined (me k : Nat) : State :=
  let s := staged me k 0
  { s with insts := [{ inst7 s with sent := [key 0 0 1, key 0 1 1], got := [key 0 0 0, key 0 1 0] }] }
def finished (me : Nat) : State := (after (execBucketFinish 7 0 false (combined me 1)) State.reset).set (STN_STATUS_STEP_IDX 0x120) 1
def published : State := after (execPublish 0 false (finished 0)) State.reset
def armed : State := after (execGather 0 published) State.reset

/-- The other chip's publication, and its sample message. -/
def publication : List Cell := ((after (execPublish 0 false (finished 1)) State.reset).egress.head?.map (·.cells)).getD []
def sampleKey : MsgKey :=
  ((keysOf (staged 1 1 1)).find? fun k => k.sample && (staged 1 1 1).sendReady ((staged 1 1 1).geo 7) (inst7 (staged 1 1 1)) k).getD noKey
def sampling : List Cell := ((after (execPieceSend 7 sampleKey [] (staged 1 1 1)) State.reset).egress.head?.map (·.cells)).getD []
def msgOf (l : List Cell) : PieceMsg := (wholeMsg l).getD ⟨false, 0, 0, 0, 0, 0⟩

theorem witness_GradientPathFinishesPublishesAndGathers_finish :
    let s := combined 0 1
    let g := s.geo 7
    let p := g.pieceAt (rankOf g.sizes (s.ownDigits g.group)) 0
    s.running = true ∧ s.waitMsgs = [] ∧ (∀ r ∈ s.regions, r.graph < 8) ∧ s.inst 7 = some (inst7 s) ∧ 0 < (s.actors g.group).length ∧
    (g.op = opBucket ∧ 0 < g.cols ∧ s.stagedCol g (inst7 s) 0 0 = true ∧
      (((s.stages g).take g.sizes.length).all fun st => s.stageDone g (inst7 s) 0 st 0) = true ∧ (0, 0) ∉ (inst7 s).finished) ∧
    s.region (s.get (VSY_DESC_WORK 7)) = some work2 ∧ 0 < p.2 := by decide +kernel

theorem witness_GradientPathFinishesPublishesAndGathers_publish :
    (let s := finished 0
     let tile := (s.inputD 11).stamp (inst7 s).published (s.stepNum (s.descGraph 7)) s.chipId
     s.running = true ∧ s.waitMsgs = [] ∧ (∀ r ∈ s.regions, r.graph < 8) ∧
     s.firstReady 0x120 0 s.vsyReady = some ⟨publishOp, [some 11], []⟩ ∧ s.inst 7 = some (inst7 s) ∧ vwTag publishOp = 7 ∧
     vwKind publishOp = 3 ∧ vwPlayed publishOp = false ∧ (⟨publishOp, [some 11], []⟩ : Alt).inputs = [11] ∧
     s.badPublication (s.geo 7) (s.inputD 11) (inst7 s).published = false ∧
     s.badPublication (s.geo 7) x4 (inst7 s).published = true ∧
     s.region (s.get (VSY_BUCKET_PREGION 7)) = some param3 ∧ s.get (VSY_BUCKET_MIRROR_EN 7) = 0 ∧ (tile.record[0]?).isSome = true) ∧
    (published.firstReady 0x120 0 published.vsyReady = some ⟨gatherOp, [], []⟩ ∧ vwKind gatherOp = 4 ∧
      published.inst 7 = some (inst7 published)) := by decide +kernel

theorem witness_GradientPathFinishesPublishesAndGathers_publication :
    let m := msgOf publication
    let s : State := { armed with vsyCells := publication }
    takeOut s.vsyCells publication = some [] ∧ wholeMsg publication = some m ∧ m.grad = true ∧ m.poison = 0 ∧
    m.stream.toNat % 4096 = 7 ∧ phType m.head.toNat = 3 ∧ (s.set (VSY_DESC_VALID 7) 0).serves m.endpt.toNat 7 = false ∧
    ({ published with vsyCells := [], waitMsgs := [m] } : State).verdict m = .wait ∧
    ({ s with vsyCells := [], waitMsgs := [m] } : State).verdict m = .publish 1 0 ∧
    s.region (s.get (VSY_BUCKET_PREGION 7)) = some param3 ∧ s.get (VSY_BUCKET_MIRROR_EN 7) = 0 ∧
    ((leBytes (phBytes m.head.toNat) m.data)[0]?).isSome = true := by decide +kernel

theorem witness_GradientPathFinishesPublishesAndGathers_sample :
    let m := msgOf sampling
    let s : State := { staged 0 0 1 with vsyCells := sampling }
    let k := keyTaken s m
    let l := s.keyElems (s.geo 7) (inst7 s) (s.actorDigits 5 k.actor) k
    takeOut s.vsyCells sampling = some [] ∧ wholeMsg sampling = some m ∧ m.grad = true ∧ m.poison = 0 ∧ m.stream.toNat % 4096 = 7 ∧
    phType m.head.toNat = 2 ∧ ({ s with vsyCells := [], waitMsgs := [m] } : State).verdict m = .take k ∧
    s.inst 7 = some (inst7 s) ∧ k.sample = true ∧ l.Nodup ∧ 0 < l.length := by decide +kernel

/-- What is not ready, has another kind, or another format; a gather that is whole; and a publication that came late, or for another step. -/
theorem witness_GradientPathFinishesPublishesAndGathers_others :
    (State.reset.inst 7 = none ∧ State.reset.waitMsgs = [] ∧ State.reset.regions = [] ∧
      State.reset.firstReady 0x120 0 State.reset.vsyReady = none ∧ vwKind publishOp ≠ 4) ∧
    ((combined 0 1).get (VSY_BUCKET_MLS_FIN 7) ≠ (combined 0 1).get (VSY_DESC_MLS_DONE 7) ∧ (inst7 (combined 0 1)).finDone = false ∧
      ((combined 0 1).geo 7).cols = 1 ∧ (combined 0 1).actors 5 = [[0]]) ∧
    (let s : State := { finished 0 with slots := [wholeSlot 11 0 x4] }
     s.firstReady 0x120 0 s.vsyReady = some ⟨publishOp, [some 11], []⟩ ∧ s.badPublication (s.geo 7) (s.inputD 11) (inst7 s).published = true ∧
      s.get (STR_BAD_HEADER 11) = 0) ∧
    (let s : State := { published with insts := [{ inst7 published with records := [(0, 0), (1, 0)] }] }
     s.firstReady 0x120 0 s.vsyReady = some ⟨gatherOp, [], []⟩ ∧ (s.geo 7).op = opBucket ∧
      (inst7 s).records.length = groupN (s.geo 7).sizes * s.tps (s.geo 7) ∧
      (inst7 published).records.length ≠ groupN (s.geo 7).sizes * s.tps (s.geo 7)) ∧
    (let m := msgOf publication
     let v (f : State → State) : Verdict := (f { armed with vsyCells := [], waitMsgs := [m] }).verdict m
     v (fun s => s.set (VSY_GROUP_EPOCH 5) 4) = .stale ∧ v (fun s => s.set (VSY_DESC_SIG 7) 0x78) = .abort 1 ∧
      (inst7 armed).records.length + 1 = groupN (armed.geo 7).sizes * armed.tps (armed.geo 7)) := by decide +kernel

/-- The published tile stands in the NEXT half of PREGION, record 0, behind its header (R198, R324). -/
theorem test_publish_stores : Mem.nat published.mem (memBase 4 + 16384 + 1024 + 32) 8 = y4.payload := by decide +kernel

/-- GATHER arms the gather (R324). -/
theorem test_gather_arms : (inst7 armed).armed = true := by decide +kernel

/-! Plans: a smallest unsigned image, of chip 5 at coordinate 3, in shelf 0, by runs of bytes: offset, length, value. -/

def imageRuns : List (Nat × Nat × Nat) :=
  [(0, 10, 0x196C000000014C505A4B), (16, 33, 0x5225EA610E1F125E2D1982A3BA140011B4C7D408DCBC5E0BA4996776586F83DC0),
   (56, 9, 0x800000000A00000003), (124, 29, 0x5000000F000000004000000E000000002000000D000000001FABB2DDF),
   (157, 48, 0x600000000E000017500000000D000017300000000C000013E00000000B000013C00000000A000009A000000008000001),
   (205, 15, 0x48674BC70000000400000001000018), (224, 12, 0x48674BC70000000400000002), (240, 12, 0x48674BC70000000400000004),
   (256, 12, 0x85BABDE20000088C00000005), (272, 3, 0xFAC688), (2464, 12, 0x1C8E98D400000A1000010008),
   (5056, 14, 0x1234158553F4000000100001000A), (5088, 12, 0x382146C000003400000000B),
   (5936, 17, 0x50000000164CA87FF000000140001000C), (5960, 1, 0x3), (5968, 1, 0xD), (5973, 7, 0x934B7372000001),
   (6076, 48, 0x10101010101010101010101010101010101010101010101010101010101010101010101010101010101010101010101),
   (6124, 48, 0x10101010101010101010101010101010101010101010101010101010101010101010101010101010101010101010101),
   (6172, 48, 0x10101010101010101010101010101010101010101010101010101010101010101010101010101010101010101010101), (6221, 1, 0x2),
   (6240, 1, 0xE), (6245, 7, 0xB872B190000001)]

def planBase : Nat := shelfBase + 0x10000
def planRaw : Nat := imageRuns.foldl (fun x p => x + p.2.2 <<< (8 * p.1)) 0
def planImage : Image := ⟨planBase, planRaw⟩
def planCells : List Host.Cell :=
  imageRuns.flatMap fun p => ((leBytes p.2.1 p.2.2).zipIdx.map fun q => (planBase + p.1 + q.2, q.1)).filter fun q => q.2 ≠ 0

/-- The chip with the image named by GLB_PLAN_ADDR and LOAD_STATE `st`. -/
def planState (st : Nat) : State :=
  { fields State.reset [(GLB_PLAN_ADDR_ADDR, planBase / 64), (LNK_SERIAL_SERIAL, 5), (LNK_DISC_STABLE, 1), (LNK_DISC_COORD, 3),
      (GLB_BOOT_STATUS_STAGE, 9), (SHF_DIMM_CAP 0, 3), (GLB_PLAN_STATUS_LOAD_STATE, st)] with mem := planCells }

theorem plan_image (st : Fin 4) : (planState st.val).image = planImage := by
  have h2 : Mem.nat planCells (planBase + 8) 8 = 6508 := by rw [memNatEval_eq]; decide +kernel
  have h3 : Mem.nat planCells planBase 6508 = planRaw := by rw [memNatEval_eq]; decide +kernel
  have h1 : (planState st.val).get GLB_PLAN_ADDR_ADDR * 64 = planBase := by revert st; decide +kernel
  have hm : (planState st.val).mem = planCells := rfl
  simp only [State.image, h1, hm, h2, show max 128 (min 6508 (2 ^ 31)) = 6508 by decide, h3, planImage]

theorem plan_header : checkHeader ((planState 1).roomAt planBase) planImage = none := by
  simp only [checkHeader, Image.bytes, crcEval_eq]
  decide +kernel

theorem plan_crcs : planImage.sections.find? planImage.badCrc = none := by
  rw [show planImage.badCrc = fun x => decide (crc32cCfg.check (crcEval x.len x.body crc32cCfg.init) ≠ planImage.u (x.off + 8) 4) from
    funext fun x => by simp only [Image.badCrc, crcEval_eq]]
  decide +kernel

theorem plan_hash : planImage.hash = planImage.planHash := by
  have h (x : Section) : planImage.bytes x.off 12 ++ leBytes x.len x.body =
      leBytes (12 + x.len) (planImage.u x.off 12 % 256 ^ 12 + 256 ^ 12 * x.body) := by rw [Image.bytes, leBytes_join]
  have hn : (joined (fun x : Section => 12 + x.len) (fun x => planImage.u x.off 12 % 256 ^ 12 + 256 ^ 12 * x.body)
      (planImage.sections.filter fun x => commonType x.type)).1 = 2648 := by decide +kernel
  simp only [Image.hash, h]
  rw [flatMap_leBytes, hn, shake256_eval 32 2648 20 _ (by decide) (by decide)]
  decide +kernel

theorem plan_items : checkSignature (planState 1) planImage = none ∧ checkTable planImage = none ∧
    checkIdentity (planState 1) planImage planImage.plan = none := by decide +kernel

theorem plan_totals : checkItems planImage planImage.plan = none ∧ checkTotals (planState 1) planImage planImage.plan = none := by
  decide +kernel

theorem plan_admitted : tollgate (planState 1) (planState 1).image = none := by
  rw [show (planState 1).image = planImage from plan_image 1]
  have hs : checkSections planImage = none := by
    rw [checkSections, plan_items.2.1, plan_crcs, plan_hash]
    simp [firstAt]
  rw [tollgate, show planImage.addr = planBase from rfl, plan_header, plan_items.1, hs, plan_items.2.2, plan_totals.1, plan_totals.2]
  simp

/-- The chip that activates what it admitted, `raw`. -/
def activating (raw : Nat) : State := { planState 3 with admitted := some raw }

theorem plan_unchanged : recheck (activating planRaw) (activating planRaw).image = none := by
  rw [show (activating planRaw).image = planImage from plan_image 3]
  have h1 : checkIdentity (activating planRaw) planImage planImage.plan = none := by decide +kernel
  have h2 : differs planImage planImage = none := by decide +kernel
  rw [recheck, show (⟨planImage.addr, (activating planRaw).admitted.getD planImage.raw⟩ : Image) = planImage from rfl, h1, h2,
    show planImage.addr = planBase from rfl, show (activating planRaw).roomAt planBase = (planState 1).roomAt planBase from rfl,
    plan_header, plan_crcs, plan_hash]
  simp [firstAt]

/-- A chip whose shelves hold no image. -/
def noImage (st : Nat) : State := { planState st with mem := [] }

theorem witness_PlansLoadCheckAndActivate :
    ((planState 0).running = true ∧ (planState 0).get GLB_PLAN_STATUS_LOAD_STATE = loadIdle ∧
      (planState 1).get GLB_PLAN_STATUS_LOAD_STATE = loadChecking ∧ (planState 2).get GLB_PLAN_STATUS_LOAD_STATE = loadArmed ∧
      (planState 3).get GLB_PLAN_STATUS_LOAD_STATE = loadActivating ∧ (planState 2).quiescent = true) ∧
    (tollgate (noImage 1) (noImage 1).image).isSome = true ∧ (recheck (noImage 3) (noImage 3).image).isSome = true ∧
    tollgate (planState 1) (planState 1).image = none ∧ recheck (activating planRaw) (activating planRaw).image = none :=
  ⟨by decide +kernel, by decide +kernel, by decide +kernel, plan_admitted, plan_unchanged⟩

/-- A chip that admitted an image with another plan hash. -/
theorem witness_PlansLoadCheckAndActivate_changed :
    let raw := planRaw ^^^ 2 ^ 128
    (activating raw).admitted = some raw ∧ (activating raw).get GLB_PLAN_STATUS_LOAD_STATE = loadActivating ∧
    checkIdentity (activating raw) ⟨planBase, raw⟩ (Image.plan ⟨planBase, raw⟩) = none ∧
    Image.planHash ⟨planBase, raw⟩ ≠ planImage.planHash := by decide +kernel

/-- A load of the idle loader is CHECKING, and one on a busy loader is rejected (R353, R354). -/
theorem test_plan_load :
    (after (execPlanCtrlLoad (planState 0)) State.reset).get GLB_PLAN_STATUS_LOAD_STATE = loadChecking ∧
    (after (execPlanCtrlLoad (planState 2)) State.reset).get GLB_PLAN_STATUS_BUSY_REJECT = 1 := by decide +kernel

/-! Steps, commits and failures. -/

/-- Graph 1 halted and idle, with a budget; with commits enabled; and with a mark. -/
def stepBase : State := station State.reset (convEp 3) 0 1 [] 0
def halted : State := stepBase.set (GLB_STEP_STATE_HALTED 1) 1
def mark1 : Mark := ⟨1, [(10, 5, 3, 2), (11, 6, 4, 2)], [(300, 4, 9)], [(7, 9)], [(0x120, 0, 2)]⟩
def draining : State :=
  { (fields halted [(GLB_STEP_CFG_ENABLE 1, 1), (STR_LOST 10, 1), (STR_BAD_HEADER 11, 1), (CNT_RECOV_STATUS_BUSY, 1),
      (MLS_ENTRY_COUNT 300, 44)]).wr .draining 1 1 with marks := [mark1], slots := [wholeSlot 10 0 x32, wholeSlot 12 0 x32] }

theorem witness_StepControlsActUnderTheirConditions :
    (stepBase.running = true ∧ ¬ stepBase.get (GLB_STEP_STATE_HALTED 1) = 1 ∧ stepBase.get (GLB_STEP_CFG_ENABLE 1) = 0) ∧
    (let s := halted.wr .commitDue 1 1
     s.get (GLB_STEP_STATE_HALTED 1) = 1 ∧ s.rd .commitDue 1 = 1 ∧
      s.get (MLS_STATUS_REACHED (s.get (GLB_STEP_GROUP_COMMIT_MLS 1))) = 0) ∧
    (let s := halted.set (GLB_STEP_STATE_LAST_OUTCOME 1) outPass
     s.get (GLB_STEP_STATE_HALTED 1) = 1 ∧ s.get (GLB_STEP_STATE_IDLE 1) = 1 ∧ s.get (GLB_STEP_STATE_LAST_OUTCOME 1) = outPass ∧
      s.get (GLB_STEP_STATE_NEXT_DIRTY 1) = 0 ∧ s.get (GLB_STEP_STATE_IN_COMMIT 1) = 0) ∧
    halted.get (GLB_STEP_STATE_LAST_OUTCOME 1) ≠ outPass ∧
    ((stepBase.set (GLB_STEP_CFG_ENABLE 1) 1).get (GLB_STEP_CFG_ENABLE 1) = 1 ∧
      (halted.set (GLB_STEP_CFG_ENABLE 1) 1).get CNT_RECOV_STATUS_BUSY = 0) ∧
    halted.rd .draining 1 = 0 ∧
    (let s := (halted.wr .commitDue 1 1).set (MLS_STATUS_REACHED 0) 1
     s.get (MLS_STATUS_REACHED (s.get (GLB_STEP_GROUP_COMMIT_MLS 1))) = 1) ∧
    (∀ q ∈ [(5, 5, 0), (5, 6, 0), (5, 7, 0), (5, 5, 128)],
      let s : State := { (halted.set (GLB_STEP_CSEQ_CSEQ 1) 5).wr .draining 1 2 with passes := [⟨1, passDetour, 2, q.2.2, 0, 0, 0, q.1, q.2.1⟩] }
      s.rd .draining 1 = 2 ∧ (s.passOf 1).isSome = true ∧ s.get (GLB_STEP_CSEQ_CSEQ 1) = 5 ∧ s.marks = []) ∧
    (draining.running = true ∧ draining.rd .draining 1 = 1 ∧ (draining.marks.find? fun m => m.graph = 1) = some mark1 ∧
      (∀ q ∈ mark1.streams, q.1 < 2 ^ 18) ∧ (∀ q ∈ mark1.mls, q.1 < 2 ^ 16) ∧ (∀ q ∈ mark1.descs, q.1 < 4096) ∧
      (∀ q ∈ mark1.steps, isStation q.1 = true) ∧ (mark1.streams.map (·.1)).Nodup) := by decide +kernel

/-- A rollback returns to the step before and the other half (R184). -/
theorem test_rollback :
    let s := fields halted [(GLB_STEP_STATE_LAST_OUTCOME 1, outPass), (GLB_STEP_NUM_STEP 1, 5)]
    (after (exec (.rollback 1) s) s).get (GLB_STEP_NUM_STEP 1) = 4 ∧ (after (exec (.rollback 1) s) s).get (GLB_STEP_STATE_CUR_HALF 1) = 1 := by
  decide +kernel

/-- The end of a rewind's drain gives a stream the SEQ of the mark and clears its fault (R484). -/
theorem test_rewind_drain :
    (after (execRewindDrainEnd 1 draining) stepBase).get (STR_NEXT_SEQ 10) = 5 ∧
    (after (execRewindDrainEnd 1 draining) stepBase).get (STR_LOST 10) = 0 := by decide +kernel

/-- Graph 1 with an attempt due: alone, and in a group of four chips of which this one has digit 1. -/
def alone : State :=
  (fields stepBase [(GLB_STEP_CFG_ENABLE 1, 1), (GLB_STEP_CFG_GROUP 1, 5), (GLB_STEP_GROUP_COMMIT_MLS 1, 40),
    (GLB_STEP_GROUP_DONE_MLS 1, 41), (GLB_STEP_NUM_STEP 1, 9), (GLB_STEP_STATE_ATTEMPT 1, 2)]).wr .commitDue 1 1
def among : State :=
  fields alone [(VSY_GROUP_VALID 5, 1), (VSY_GROUP_GRAPH 5, 1), (VSY_GROUP_CTL_VC 5, 1), (VSY_GROUP_AXIS 5 0, 3), (VSY_GROUP_SIZE 5 0, 3),
    (VSY_GROUP_DIGIT 5 0, 1), (VSY_GROUP_EPOCH 5, 3), (LNK_COORD_ACTIVE, 1), (GLB_MODE_ROLE, 1), (VSY_COLL_CFG_COMMIT_WD, 9)]
def passing : State := after (exec (.commitAttempt 1) among) among
def pass1 : CommitPass := (passing.passOf 1).getD ⟨0, 0, 0, 0, 0, 0, 0, 0, 0⟩
def commitOf (rank epoch pass round : Nat) : Cell :=
  cellTo 6 1 0x1F0 1 (commitPayload ⟨1, pass, round, 0, 0, 9, passing.commitSig 1, 0, 0⟩ epoch rank rank)

theorem witness_CommitAttemptsRunPassesAndApplyOutcomes :
    (alone.running = true ∧ stepBase.rd .commitDue 1 ≠ 1) ∧
    (∀ s ∈ [alone, among], s.rd .commitDue 1 = 1 ∧ s.get (GLB_STEP_CFG_ENABLE 1) = 1 ∧ s.get (GLB_STEP_STATE_HALTED 1) = 0 ∧
      s.get (GLB_STEP_STATE_IN_COMMIT 1) = 0 ∧ s.commitCells = []) ∧
    alone.commitRounds 1 = 0 ∧ among.commitRounds 1 = 2 ∧
    ((commitOf 0 3 1 0).stream.toNat = 1 ∧ passing.get (GLB_STEP_CFG_ENABLE 1) = 1 ∧ cpPass (commitOf 0 3 1 0).payload.toNat = 1 ∧
      cpPass (commitOf 0 3 5 0).payload.toNat = 5) ∧
    (let d (c : Cell) : Int := epochDiff (cpEpoch c.payload.toNat) (passing.get (VSY_GROUP_EPOCH 5))
     passing.get (GLB_STEP_CFG_GROUP 1) = 5 ∧ d (commitOf 0 2 1 0) < 0 ∧ 0 < d (commitOf 0 4 1 0) ∧ d (commitOf 0 3 1 0) = 0) ∧
    (64 ≤ ({ passing with commitCells := List.replicate 64 (commitOf 0 4 1 0) } : State).waitingCommits 1 ∧ passing.waitingCommits 1 < 64) ∧
    among.passOf 1 = none ∧
    (passing.commitCells = [] ∧ passing.passOf 1 = some pass1 ∧ pass1.round + 1 < passing.commitRounds 1 ∧
      ({ passing with commitCells := [commitOf 0 3 1 0] } : State).roundCell pass1 = some (commitOf 0 3 1 0)) ∧
    (passing.get VSY_COLL_CFG_COMMIT_WD ≠ 0 ∧ passing.get GLB_MODE_ROLE = 1 ∧ passing.held 1 = false ∧
      passing.get PWR_STATE_STATUS_STATE ≠ 1 ∧ pass1.round < passing.commitRounds 1 ∧
      (passing.set VSY_COLL_CFG_COMMIT_WD 0).get VSY_COLL_CFG_COMMIT_WD = 0) := by decide +kernel

/-- The last round of a pass, which the cell of rank 3 ends. -/
def lastRound (kind : Nat) : State := { passing with passes := [{ pass1 with pass := kind, round := 1 }] }
def lastCell (kind : Nat) : Cell := commitOf 3 3 kind 1

theorem witness_CommitAttemptsRunPassesAndApplyOutcomes_last :
    (∀ k ∈ [passA, passB, passDetour], let s := lastRound k
      s.running = true ∧ s.takesPart 1 = true ∧ s.get (GLB_STEP_CFG_ENABLE 1) = 1 ∧ s.passOf 1 = some { pass1 with pass := k, round := 1 } ∧
      1 + 1 = s.commitRounds 1 ∧ s.roundCell { pass1 with pass := k, round := 1 } = none ∧ s.rd .draining 1 = 0 ∧
      ({ s with commitCells := [lastCell k] } : State).roundCell { pass1 with pass := k, round := 1 } = some (lastCell k) ∧
      ({ s with commitCells := [] } : State).roundCell { mergeCell { pass1 with pass := k, round := 1 } (lastCell k).payload.toNat with
        pass := passB, round := 0 } = none) ∧
    (among.roundCell ⟨1, passA, 0, 0, 0, 9, among.commitSig 1, 0, 0⟩ = none ∧ among.takesPart 1 = true ∧
      (passing.wr .gone 1 1).takesPart 1 = false ∧ passing.roundCell pass1 = none ∧
      passing.roundCell (mergeCell pass1 (commitOf 0 3 1 0).payload.toNat) = none ∧ passing.held 1 = false ∧
      8 ≤ (cellTo 6 1 0x1F0 9 0).stream.toNat) := by decide +kernel

/-- A clean attempt of a chip alone passes: the step advances and the halves change (R178, R301). -/
theorem test_commit_passes :
    (after (exec (.commitAttempt 1) alone) stepBase).get (GLB_STEP_NUM_STEP 1) = 10 ∧
    (after (exec (.commitAttempt 1) alone) stepBase).get (GLB_STEP_STATE_LAST_OUTCOME 1) = outPass := by decide +kernel

/-- The same four chips under a plan, where the group can play the position of chip 2, and where it is already played. -/
def serving : State :=
  { (fields among [(GLB_PLAN_STATUS_ACTIVE, 1), (VSY_GROUP_DLVL 5 0, 1), (VSY_GROUP_DETOUR_EN 5, 1), (LNK_PEER_INFO_VALID 4, 1),
      (LNK_PEER_SERIAL_SERIAL 4, 0x1002)]).wr .peerWm 4 1 with
    coords := [(0x1000, 0), (0x1001, 1), (0x1002, 2), (0x1003, 3)], detours := [⟨5, 2, true, 7, [(3, 4)]⟩] }
def other : State := fields serving [(VSY_GROUP_DETOURED 5, 1), (VSY_GROUP_WITHDRAWN 5, 0)]
def noticeOf (f : Nat) : Nat := 2 + f <<< 32
def hits2 : List (Nat × Nat) :=
  match serving.failEffect 1 2 with
  | .switch h => h
  | _ => []
def covers (s : State) (g f : Nat) : Bool :=
  match s.failEffect g f with
  | .switch _ => true
  | _ => false

theorem witness_FailuresFenceHaltOrSwitch :
    (serving.running = true ∧ ∀ n ∈ serving.notices, bits n 0 8 ≠ 2) ∧
    (let s := { serving.set GLB_MODE_ROLE 0 with notices := [1, noticeOf 1] }
     (s.notices.find? fun n => bits n 0 8 = 2) = some (noticeOf 1) ∧ s.get GLB_MODE_ROLE ≠ 1 ∧
      ((List.range 4).find? fun i => s.get (VSY_FAIL_LOG_VALID i) = 0) = some 0) ∧
    (serving.get GLB_MODE_ROLE = 1 ∧ serving.planActive = true ∧ serving.serialOf 2 = some 0x1002 ∧ serving.serialOf 9 = none ∧
      2 ∉ serving.failed ∧ 2 ∈ ({ serving with failed := [2] } : State).failed) ∧
    ((∃ l : Link, serving.rd .peerWm l ≠ 0 ∧ serving.get (LNK_PEER_SERIAL_SERIAL l) = 0x1002) ∧
      (∀ l : Link, serving.rd .peerWm l ≠ 0 → serving.get (LNK_PEER_SERIAL_SERIAL l) = 0x1002 →
        serving.get (LNK_STATE_STATE l) ≠ 6) ∧
      ¬ (∃ l : Link, serving.rd .peerWm l ≠ 0 ∧ serving.get (LNK_PEER_SERIAL_SERIAL l) = 0x1003)) ∧
    (∀ g < 8, covers other g 2 = false ∧ covers serving g 1 = false) ∧
    (serving.failEffect 1 1 = .withdraw ∧ other.failEffect 1 2 = .noCover [5] false) ∧
    (serving.waitMsgs = [] ∧ serving.vsyCells = [] ∧ serving.commitCells = [] ∧ serving.failEffect 1 2 = .switch hits2 ∧
      (∀ g < 8, g ≠ 1 → serving.failEffect g 2 = .none) ∧ (hits2.map (·.1)).Nodup) := by decide +kernel

/-- A failure notice of a chip of the plan, for the plan in force. -/
theorem witness_FailuresFenceHaltOrSwitch_notice :
    let s := { other with notices := [1, 2 + 2 <<< 32 + other.activeHash <<< 256] }
    ∃ n, (s.notices.find? fun n => bits n 0 8 = 2) = some n ∧ bits n 32 24 = 2 ∧ bits n 256 256 = s.activeHash :=
  ⟨2 + 2 <<< 32 + other.activeHash <<< 256, by decide +kernel⟩

/-- A declared failure that the plan covers is fenced and switches the group to its detour under the next epoch (R303, R306). -/
theorem test_failure_switches :
    let t := after (exec (.failDeclare 2) serving) stepBase
    t.get (VSY_GROUP_DETOURED 5) = 1 ∧ t.get (VSY_GROUP_EPOCH 5) = 4 ∧ t.fenced 2 = true := by decide +kernel

/-! The host. -/

/-- A command entry with CPL set, as bits. -/
def entry (op hseq args : Nat) : Nat := op + 1 <<< 16 + hseq <<< 32 + 0x99 <<< 64 + args <<< 128

/-- Ring 3 runs, its entries 2 to 4 wait, and its next command has sequence number 7. -/
def ringUp : State :=
  fields stepBase [(HST_CMD_CFG_SIZE_LOG2 3, 4), (HST_CPL_CFG_SIZE_LOG2 0, 5), (HST_CMD_CTRL_RUN 3, 1), (HST_CMD_STATUS_STOPPED 3, 0),
    (HST_CMD_PTR_TAIL 3, 5), (HST_CMD_PTR_HEAD 3, 2), (HST_CMD_SEQ_NEXT_SEQ 3, 7), (HST_CPL_SEQ_NEXT_SEQ 0, 1)]

/-- Ring 3 with one accepted command. -/
def cmd (op args : Nat) : HostCmd := cmdOf 3 (entry op 7 args)
def queued (op args : Nat) : State := { ringUp with inflight := [cmd op args] }

/-- Each opcode with operands: a copy moves 6 bytes between host address 5000H and device address 8000H. -/
def opcodes : List (Nat × Nat) :=
  [(opNop, 0), (opRegWr, 0x208 + 4 <<< 32 + 5 <<< 64), (opRegRd, 0x208 + 4 <<< 32), (opMlsInc, 300 + 5 <<< 32), (opMlsWait, 300),
    (opPlanLoad, 0x100000000000), (opBudget, 2), (opSnapshot, 0), (opFence, 0)]
def copyArgs : Nat := 0x5000 + 0x8000 <<< 64 + 6 <<< 128

theorem test_opcodes_accepted : ∀ x ∈ (opCopyH2D, copyArgs) :: (opCopyD2H, copyArgs) :: opcodes, (cmd x.1 x.2).refused = none := by decide +kernel

theorem starts_parts : ∀ x ∈ opcodes, let s := queued x.1 x.2
    s.running = true ∧ ((s.ringCmds 3).find? fun y => !y.started) = some (cmd x.1 x.2) ∧ (cmd x.1 x.2).opcode = x.1 ∧
    s.mayStart (cmd x.1 x.2) = true := by decide +kernel

theorem witness_HostCommandsRunAndComplete_starts : ∀ x ∈ opcodes, Starts 3 x.1 (cmd x.1 x.2) (queued x.1 x.2) := fun x h =>
  let ⟨a, b, c, d⟩ := starts_parts x h
  ⟨a, b, c, d⟩

/-- A FENCE behind an earlier started command of its ring. -/
def fenced : State := { ringUp with inflight := [{ cmd opMlsWait 300 with started := true }, cmdOf 3 (entry opFence 8 0)] }
theorem witness_HostCommandsRunAndComplete_fence : Starts 3 opFence (cmdOf 3 (entry opFence 8 0)) fenced ∧
    (fenced.ringCmds 3).head? ≠ some (cmdOf 3 (entry opFence 8 0)) :=
  ⟨⟨by decide +kernel, by decide +kernel, by decide +kernel, by decide +kernel⟩, by decide +kernel⟩

theorem witness_HostCommandsRunAndComplete :
    (ringUp.running = true ∧ stepBase.ringReads 3 = false ∧ ringUp.ringReads 3 = true ∧ ringUp.rd .resetAsked 3 ≠ 1) ∧
    ((cmdOf 3 (entry 0 8 0)).hseq ≠ ringUp.get (HST_CMD_SEQ_NEXT_SEQ 3) ∧ (cmd 0 0).hseq = ringUp.get (HST_CMD_SEQ_NEXT_SEQ 3) ∧
      (cmd 0 0).refused = none ∧ (cmd 77 0).refused = some stBadOpcode ∧ (cmd 0 1).refused = some stBadOperand) ∧
    (((queued opMlsWait 300).set (MLS_ENTRY_TARGET 300) 0).reached 300 = true ∧
      ((queued opMlsWait 300).set (MLS_ENTRY_TARGET 300) 4).reached 300 = false ∧ (cmd opMlsWait 300).arg 16 2 = 300) ∧
    ((queued opPlanLoad 0).get GLB_PLAN_STATUS_LOAD_STATE = loadIdle ∧
      ((queued opPlanLoad 0).set GLB_PLAN_STATUS_LOAD_STATE 1).get GLB_PLAN_STATUS_LOAD_STATE ≠ loadIdle ∧
      ((queued opBudget 2).set GLB_PLAN_STATUS_LOAD_STATE loadActivating).get GLB_PLAN_STATUS_LOAD_STATE = loadActivating) ∧
    ((queued opFence 0).ringCmds 3).head? = some (cmd opFence 0) ∧
    (∀ op ∈ [opCopyH2D, opCopyD2H], (queued op copyArgs).copyCmd 3 op 7 = some (cmd op copyArgs) ∧ (cmd op copyArgs).moved = 0 ∧
      (cmd op copyArgs).arg 32 4 = 6) := by decide +kernel

/-- An accepted NOP completes with its TAG (R378, R381). -/
theorem test_accept_nop :
    (after (execCommandAccept 3 (some (.ofNat 512 (entry 0 7 0))) ringUp) stepBase).inflight = [cmd 0 0] ∧
    (after (execNop 3 (queued 0 0)) stepBase).inflight = [] := by decide +kernel

/-- The device bytes that a COPY_H2D writes (R380). -/
theorem test_copy_h2d :
    (after (execCopyH2D 3 7 [1, 2, 3, 4] false [] (queued opCopyH2D copyArgs)) stepBase).byte 0x8002 = 3 ∧
    (after (execCopyH2D 3 7 [1, 2, 3, 4] false [] (queued opCopyH2D copyArgs)) stepBase).inflight.map (·.moved) = [4] := by decide +kernel

/-- A tile queue of eight slots of 256 bytes at host address 1000H, for PUT and for GET. -/
def queueUp (op : Nat) (tiles : List Tile) (outs dir : Nat) : State :=
  fields (station State.reset 0x170 0 (op + 5 <<< 4) tiles outs) [(HST_TQ_CFG_SLOTS_LOG2 5, 3), (HST_TQ_CFG_DIR 5, dir),
    (HST_TQ_SLOT_SLOT_UNITS 5, 2), (HST_TQ_BASE_ADDR 5, 0x40), (HST_TQ_PTR_HOST_IDX 5, if dir = 1 then 3 else 0)]
def putUp : State := queueUp 1 [x32] 0 0
def getUp : State := queueUp 2 [] 1 1
def putAlt : Alt := alt (1 + 5 <<< 4) 1 0
def getAlt : Alt := alt (2 + 5 <<< 4) 0 1

/-- The frame of `x32` as the host writes it. -/
def frame : List Byte := leBytes 4 0 ++ leBytes 4 40 ++ leBytes 8 0 ++ leBytes 40 x32.raw

/-- Completion ring 0 with a command in flight that posts there. -/
def posting : State := queued opMlsWait 300

theorem witness_HostRingsQueuesAndResets :
    (ringUp.running = true ∧ stepBase.get (HST_CMD_STATUS_STOPPED 3) = 1 ∧ ringUp.get (HST_CMD_STATUS_STOPPED 3) = 0) ∧
    (∃ x ∈ posting.inflight, x.ring = 3 ∧ x.opcode = opMlsWait) ∧ (stepBase.cplIdle 0 = true ∧ posting.cplIdle 0 = false) ∧
    (let s := (fields ringUp [(HST_CPL_CFG_IRQ_EN 0, 1), (HST_CPL_CFG_COAL_US 0, 10)]).wr .cplSince 0 2
     s.get (HST_CPL_CFG_IRQ_EN 0) = 1 ∧ s.get (HST_CPL_CFG_COAL_US 0) ≠ 0 ∧ 0 < s.rd .cplSince 0 ∧
      s.masked (s.get (HST_CPL_CFG_VEC 0)) = true ∧
      ({ s.set (MSIX_MASK 0) 0 with pcie := { s.pcie with msixEnable := true } } : State).masked (s.get (HST_CPL_CFG_VEC 0)) = false ∧ (s.set (HST_CPL_CFG_IRQ_EN 0) 0).get (HST_CPL_CFG_IRQ_EN 0) = 0) ∧
    (putUp.running = true ∧ putUp.firstReady 0x170 0 putUp.hostReady = some putAlt ∧ hwKind putAlt.op = 1 ∧ putAlt.inputs = [10] ∧
      putAlt.outputs = [] ∧ hwQueue putAlt.op = 5 ∧ (putUp.inputD 10).recordLen = 40 ∧ headerValid (putUp.inputD 10).head = true ∧
      16 + 40 ≤ putUp.tqSlot 5 ∧ (putUp.set (HST_TQ_SLOT_SLOT_UNITS 5) 0).tqSlot 5 < 16 + 40) ∧
    (let s := putUp.set (HST_TQ_SLOT_SLOT_UNITS 5) 0
     s.firstReady 0x170 0 s.hostReady = some putAlt) ∧
    (getUp.running = true ∧ getUp.firstReady 0x170 0 getUp.hostReady = some getAlt ∧ hwKind getAlt.op = 2 ∧ getAlt.outputs = [20] ∧
      getAlt.inputs = [] ∧ hwQueue getAlt.op = 5) ∧
    (ringUp.firstReady 0x170 0 ringUp.hostReady = none ∧ hwKind putAlt.op ≠ 2 ∧ putUp.get (STR_BAD_HEADER 10) = 0 ∧
      putUp.get (HST_TQ_CFG_CHK_EN 5) = 0 ∧ (let s := putUp.set (HST_TQ_CFG_CHK_EN 5) 1
        s.get (HST_TQ_CFG_CHK_EN 5) = 1 ∧ s.firstReady 0x170 0 s.hostReady = some putAlt)) ∧
    (ringUp.inflight.all fun c => !c.started) = true ∧
    (State.reset.portTrains = false ∧ (State.reset.set GLB_BOOT_STATUS_STAGE 4).portTrains = true ∧ State.reset.configReady = false ∧
      (fields State.reset [(GLB_BOOT_STATUS_STAGE, 8), (HST_LINK_RATE, 5), (HST_LINK_WIDTH, 16)]).configReady = true) := by decide +kernel

/-- A good frame, one with a wrong length, and one with a wrong check value. -/
theorem witness_HostRingsQueuesAndResets_frames :
    let good (s : State) (f : List Byte) : Bool :=
      let w := leNat (f.take 16)
      let x := Tile.ofBytes ((f.drop 16).take (bits w 32 32))
      16 + bits w 32 32 ≤ s.tqSlot 5 && bits w 32 32 = x.recordLen && headerValid x.head && !hPoison x.head
    let w := leNat (frame.take 16)
    let record := (frame.drop 16).take (bits w 32 32)
    let chk := getUp.set (HST_TQ_CFG_CHK_EN 5) 1
    good getUp frame = true ∧ good getUp (frame.set 4 3) = false ∧
    (let v := chk.frameCheck (chk.get (HST_TQ_CFG_CHK 5)) record
     let f := leBytes 4 0 ++ leBytes 4 40 ++ leBytes 8 v ++ record
     good chk f = true ∧ bits (leNat (f.take 16)) 64 64 = v ∧ judgeAlive ((chk.set (HST_TQ_ALIVE_ALIVE 5) 5).get (HST_TQ_ALIVE_ALIVE 5)) 0 = .repeated ∧
      judgeAlive ((chk.set (HST_TQ_ALIVE_ALIVE 5) 0xFFFFFFFD).get (HST_TQ_ALIVE_ALIVE 5)) 0 = .skipped) ∧ getUp.get (HST_TQ_CFG_CHK_EN 5) = 0 ∧
    (chk.get (HST_TQ_CFG_CHK_EN 5) = 1 ∧ chk.firstReady 0x170 0 chk.hostReady = some getAlt ∧
      bits w 64 64 ≠ chk.frameCheck (chk.get (HST_TQ_CFG_CHK 5)) record) := by decide +kernel

/-- The frame PUT writes is the frame GET takes (R388, R389). -/
theorem test_put_get :
    (after (exec (.put false) putUp) putUp).hostOut.length = 2 ∧ (after (exec (.get (some (frame, false)) false) getUp) getUp).slots.map (·.tile.raw) = [x32.raw] ∧
    (after (exec (.get (some (frame, false)) false) getUp) getUp).get (HST_TQ_PTR_DEV_IDX 5) = 1 := by decide +kernel

/-! Security and start-up. A signature is good or not as the opaque `Config.falconVerify` says: where a hypothesis of a statement asks for a
good one, the witness meets it for a function that accepts every signature. -/

/-- A start-up of sound hardware with one module of the shelves. -/
def sound : StartUp := ⟨true, [⟨true, true, true, 2⟩], 0xFF, (true, true), none, 0⟩

/-- A well-formed image of the shortest length with SVN 0 and a root key of zeros, in slot 1. -/
def image : List (Nat × Nat) := [(0, 0x4B), (1, 0x5A), (2, 0x46), (3, 0x57), (4, 1), (8, 0xC0), (9, 0x0C)]
def imageIn (s : State) : State := { s with flash := image.map fun p => (slotBytes + p.1, p.2) }

/-- Fuse 0 holds a value. -/
def burnt (s : State) (v : Nat) : State := { s with fuse := [(0, v)] }
theorem burnt_fwRaw (s : State) (v k : Nat) : (burnt s v).fwRaw k = s.fwRaw k := rfl
theorem burnt_rd (s : State) (v : Nat) : (burnt s v).rd .fuse 0 = v ∧ (burnt s v).rd .fuse 2 = 0 ∧ (burnt s v).rd .fuse 4 = 0 :=
  ⟨rfl, rfl, rfl⟩
theorem burnt_rest (s : State) (v : Nat) : (burnt s v).enumerated = s.enumerated ∧ (burnt s v).prefSlot = s.prefSlot ∧
    (∀ k, (burnt s v).slotActive k = s.slotActive k) ∧ ∀ k, (burnt s v).rd .slotMeta k = s.rd .slotMeta k := ⟨rfl, rfl, fun _ => rfl, fun _ => rfl⟩

/-- Slot 1 holds the image, and fuse 0 the hash of its root key. -/
def twoSlots : State := burnt (imageIn stepBase) (leNat (shake256 32 (List.replicate 1793 0#8)))

theorem image_parts : ∀ s ∈ [imageIn stepBase], fwWellFormed (s.fwRaw 1) = true ∧ fwRootPub (s.fwRaw 1) = List.replicate 1793 0#8 ∧
    fwKeySlot (s.fwRaw 1) = 0 ∧ fwWellFormed (s.fwRaw 0) = false ∧ s.enumerated = true ∧ s.slotActive 1 = false ∧ s.prefSlot = 0 ∧
    s.rd .slotMeta 0 = 0 ∧ s.rd .slotMeta 1 = 0 := by decide +kernel

theorem twoSlots_valid (h : ∀ k m g, Config.falconVerify k m g = true) : twoSlots.slotValid 1 = true := by
  obtain ⟨a, b, c, -⟩ := image_parts _ (List.mem_singleton.2 rfl)
  simp only [twoSlots, State.slotValid, signatureGood, burnt_fwRaw, h, a, b, c, (burnt_rd _ _).1, Nat.add_zero, (burnt_rd _ _).2.1,
    (burnt_rd _ _).2.2, Nat.zero_le, decide_true, Bool.true_and]

theorem witness_ResetsStartTheDevice_slot (h : ∀ k m g, Config.falconVerify k m g = true) :
    sound.lock = true ∧ twoSlots.bootChoice = some 1 ∧ sound.hang = none ∧ ({ sound with hang := some 1 } : StartUp).hang = some 1 := by
  obtain ⟨-, -, -, a, -, -, p, m, -⟩ := image_parts _ (List.mem_singleton.2 rfl)
  have v : twoSlots.slotValid 0 = false := by simp only [twoSlots, State.slotValid, burnt_fwRaw, a, Bool.false_and]
  have q : twoSlots.prefSlot = 0 := (burnt_rest _ _).2.1.trans p
  have b : twoSlots.slotBad 0 = false := by
    simp only [twoSlots, State.slotBad, (burnt_rest _ _).2.2.2, m]; decide
  refine ⟨rfl, ?_, rfl, rfl⟩
  simp [State.bootChoice, q, b, v, twoSlots_valid h]

theorem witness_ResetsStartTheDevice :
    (({ sound with lock := false } : StartUp).lock = false ∧ sound.lock = true ∧ stepBase.bootChoice = none) ∧
    ((stepBase.set PWR_STATE_STATUS_STATE 3).off = true ∧ stepBase.off = false ∧ stepBase.running = true ∧
      (let s := fields stepBase [(PWR_STATE_STATUS_STATE, 2), (HST_RESET_CFG_PRESERVE, 1)]
       s.off = false ∧ s.asleep = true ∧ (∀ c ∈ s.inflight, c.started = false)) ∧
      (stepBase.set HST_RESET_CFG_PRESERVE 1).get HST_RESET_CFG_PRESERVE = 1 ∧
      (stepBase.set HST_RESET_CFG_PRESERVE 0).get HST_RESET_CFG_PRESERVE = 0) ∧
    ((stepBase.wr .bootMeta 3 1).rd .bootMeta 3 = 1 ∧ (stepBase.wr .bootMeta 3 1).running = true ∧ stepBase.rd .bootMeta 3 ≠ 1) ∧
    ((stepBase.set PWR_CLK_STATUS_ROOT_LOCK 1).get PWR_CLK_STATUS_ROOT_LOCK = 1 ∧
      (stepBase.set PWR_CLK_STATUS_ROOT_LOCK 1).asleep = false ∧ (stepBase.set PWR_CLK_STATUS_ROOT_LOCK 0).get PWR_CLK_STATUS_ROOT_LOCK = 0) := by
  decide +kernel

/-- FW_WRITE of four staged bytes at 10000H, and a slot that runs. -/
def writing : State := ((fields stepBase [(SEC_ARG0_VALUE, 0x10000), (SEC_ARG1_VALUE, 4)]).wr .staging 0 7).wr .staging 2 9
def badWrite : State := writing.set SEC_ARG1_VALUE 0
def recovering : State := fields writing [(GLB_BOOT_STATUS_RECOVERY, 1), (GLB_BOOT_STATUS_FAIL, 1)]
def svnUp : State := fields writing [(GLB_BOOT_STATUS_BOOT_OK, 1), (SEC_STATE_FELL_BACK, 0), (SEC_STATE_RUN_SVN, 5)]

theorem witness_SecurityCommandsAnswerAndAct :
    (writing.enumerated = true ∧ recovering.enumerated = true ∧ recovering.recovery = true ∧ writing.recovery = false) ∧
    (∀ k, let s := badWrite.set SEC_STATE_BOOT_SLOT (b2n k); s.enumerated = true ∧ s.get SEC_ARG1_VALUE = 0 ∧ s.slotActive (b2n !k) = false) ∧
    (2 : BitVec 8) ≠ 1 ∧ (writing.running = true ∧ ((0 : BitVec 4).toNat < 8 ∧ 8 ≤ (9 : BitVec 4).toNat)) ∧
    (∀ k, let s := writing.set SEC_STATE_BOOT_SLOT (b2n k)
      s.slotActive (b2n k) = true ∧ s.slotActive (b2n !k) = false ∧ s.get SEC_ARG0_VALUE % 65536 = 0 ∧ s.get SEC_ARG0_VALUE < slotBytes ∧
        s.get SEC_ARG1_VALUE ≠ 0 ∧ s.get SEC_ARG1_VALUE ≤ 65536 ∧ s.slotValid (b2n !k) = false ∧
        bitAt ((s.wr .slotMeta (b2n k) 1).rd .slotMeta (b2n k)) 0 = true) ∧
    (svnUp.recovery = false ∧ svnUp.get GLB_BOOT_STATUS_BOOT_OK = 1 ∧ svnUp.get SEC_STATE_FELL_BACK = 0 ∧
      svnUp.rd .fuse 4 < svnUp.get SEC_STATE_RUN_SVN) ∧
    writing.get SEC_ARG1_VALUE ≠ recordBytes ∧ (writing.set SEC_EXT_CTRL_DONE 0).get SEC_EXT_CTRL_DONE = 0 ∧
    (writing.set SEC_EXT_CTRL_DONE 1).get SEC_EXT_CTRL_DONE = 1 := by decide +kernel

theorem witness_SecurityCommandsAnswerAndAct_slot (h : ∀ k m g, Config.falconVerify k m g = true) :
    twoSlots.enumerated = true ∧ twoSlots.slotActive 1 = false ∧ twoSlots.slotValid 1 = true ∧
    bitAt (twoSlots.rd .slotMeta 1) 0 = false := by
  obtain ⟨-, -, -, -, e, c, -, -, m⟩ := image_parts _ (List.mem_singleton.2 rfl)
  refine ⟨(burnt_rest _ _).1.trans e, ((burnt_rest _ _).2.2.1 1).trans c, twoSlots_valid h, ?_⟩
  rw [twoSlots, (burnt_rest _ _).2.2.2, m]; decide

/-- A staged record: the magic and OP given, SEQ 1, and zeros. -/
def record (magic op load : Nat) : State :=
  { fields stepBase [(SEC_ARG1_VALUE, recordBytes), (GLB_PLAN_STATUS_LOAD_STATE, load)] with
    staging := (leBytes 4 magic).zipIdx.map (fun p => (p.2, p.1.toNat)) ++ (if op = 0 then [] else [(4, op)]) ++ [(16, 1)] }
def enrolMagic : Nat := 0x4E455A4B
def unlockMagic : Nat := 0x42445A4B

theorem record_parts : ∀ x ∈ [(enrolMagic, 1, 1, 3), (unlockMagic, 0, 0, 0)], ∀ load ∈ [loadIdle, loadChecking],
    let s := record x.1 x.2.1 load
    s.enumerated = true ∧ s.recovery = false ∧ s.get SEC_ARG1_VALUE = recordBytes ∧ s.get GLB_PLAN_STATUS_LOAD_STATE = load ∧
    recordFormed s.staged x.1 x.2.2.1 x.2.2.2 = true ∧ rawU s.staged 8 8 = s.get LNK_SERIAL_SERIAL ∧
    s.rd .bootMeta 2 < rawU s.staged 16 4 ∧ (record 0 0 loadIdle).recordGood 0 x.1 x.2.2.1 x.2.2.2 = false := by decide +kernel

theorem witness_SecurityCommandsAnswerAndAct_record (h : ∀ k m g, Config.falconVerify k m g = true) :
    ∀ x ∈ [(enrolMagic, 1, 1, 3), (unlockMagic, 0, 0, 0)], ∀ load ∈ [loadIdle, loadChecking], let s := record x.1 x.2.1 load
      s.recovery = false ∧ s.get SEC_ARG1_VALUE = recordBytes ∧ s.recordGood s.staged x.1 x.2.2.1 x.2.2.2 = true ∧
      s.get GLB_PLAN_STATUS_LOAD_STATE = load := fun x hx load hl => by
  obtain ⟨-, a, b, c, d, e, f, -⟩ := record_parts x hx load hl
  exact ⟨a, b, by simp [State.recordGood, signatureGood, h, d, e, f], c⟩

/-- FW_WRITE programs the staged bytes (R404), and an extension of M9 hashes its value and the data (R408). -/
theorem test_fw_write : (after (execFwWrite true false writing) stepBase).rd .flash (slotBytes + 0x10002) = 9 := by decide +kernel
theorem test_extend_before_done :
    let s := stepBase.set SEC_EXT_CTRL_DONE 0
    (after (exec (.measExtend 9 false) s) s).get SEC_EXT_CTRL_EXT_REJECT = 1 := by decide +kernel

/-! Power states and laser units. -/

/-- Armed with every wake source enabled, units 0 to 2 seated and lit, and a byte in a drawer and in a shelf; asleep in P2; off in P3. -/
def armedNow : State :=
  { (fields State.reset [(PWR_STATE_STATUS_ARMED, 1), (PWR_WATCH_CFG_EN, 0x3F), (PWR_OPMODE_REQ, 1), (PWR_LASER_PRESENT, 7), (PWR_LASER_LIT, 7)]) with
    mem := [(5, 1), (shelfBase, 3)] }
def resting : State := armedNow.set PWR_STATE_STATUS_STATE 2
def unwatched : State := resting.set PWR_WATCH_CFG_EN 0
def shutOff : State := armedNow.set PWR_STATE_STATUS_STATE 3
def cool : Temps := ⟨30, 30, 30, 20⟩
def hot : Temps := ⟨120, 30, 30, 20⟩

theorem witness_PowerStatesEnterAndWake :
    (armedNow.running = true ∧ armedNow.get PWR_STATE_STATUS_STATE = 0 ∧ armedNow.powerRefusal = none ∧
      (armedNow.set PWR_STATE_STATUS_STATE 1).running = true ∧ (armedNow.set PWR_STATE_STATUS_STATE 1).get PWR_STATE_STATUS_STATE ≠ 0) ∧
    (let s := armedNow.set (STN_STATUS_QUIESCED 3) 0
     s.running = true ∧ s.get PWR_STATE_STATUS_STATE = 0 ∧ s.powerRefusal.isSome = true) ∧
    (armedNow.get PWR_STATE_STATUS_ARMED = 1 ∧ armedNow.wakeCauses [(1, armedNow.wakeLow), (5, false)] = 0 ∧ State.reset.get PWR_STATE_STATUS_ARMED = 0) ∧
    (armedNow.off = false ∧ shutOff.off = true ∧ resting.asleep = true ∧ armedNow.asleep = false) ∧
    (resting.get PWR_STATE_STATUS_STATE = 2 ∧
      (let u := (storeTemps cool).run resting; u.wakeCauses [(2, u.dieHot), (3, u.coolHot), (4, false)] = 0) ∧
      (let u := (storeTemps hot).run resting; u.wakeCauses [(2, u.dieHot), (3, u.coolHot), (4, false)] = 4)) ∧
    (resting.wakeCauses [(0, decide ((0x58#7).toNat = resting.get PWR_SMB_ADDR) && !false)] = 1 ∧
      resting.wakeCauses [(5, true)] = 32 ∧ resting.wakeCauses [(1, true)] = 2) ∧
    (unwatched.get PWR_STATE_STATUS_STATE = 2 ∧
      unwatched.wakeCauses [(0, decide ((0x58#7).toNat = unwatched.get PWR_SMB_ADDR) && !false)] = 0 ∧
      unwatched.wakeCauses [(5, true)] = 0 ∧ unwatched.wakeCauses [(1, true)] = 0) ∧
    (shutOff.get PWR_STATE_STATUS_STATE = 3 ∧ (true && true && true) = true ∧ armedNow.get PWR_STATE_STATUS_STATE < 2) ∧
    (sound.lock = true ∧ sound.hang = none ∧ armedNow.get HST_LINK_WIDTH = 0 ∧
      armedNow.wakeCauses [(1, armedNow.wakeLow), (5, true)] ≠ 0) ∧
    (let s : State := { armedNow with alert := true }
     (0x0C#7).toNat ≠ s.get PWR_SMB_ADDR ∧ s.get PWR_STATE_STATUS_STATE < 2 ∧ (0x58#7).toNat = s.get PWR_SMB_ADDR ∧ armedNow.enumerated = true) := by decide +kernel

theorem witness_LaserUnitsLightAndGoDark :
    armedNow.running = true ∧ armedNow.off = false ∧ shutOff.off = true ∧
    (∀ k : Fin 3, bitAt (armedNow.get PWR_LASER_PRESENT) k = true ∧ bitAt (armedNow.get PWR_LASER_FAULT) k = false ∧
      bitAt (armedNow.get PWR_LASER_OFF) k = false ∧ bitAt ((armedNow.set PWR_LASER_PRESENT 0).get PWR_LASER_PRESENT) k = false) := by
  decide +kernel

/-- P2 keeps the shelves and loses the drawers, and a wake counts (R429, R431). -/
theorem test_p2_keeps_shelves :
    let t := after (execWatchCommit true false sound armedNow) armedNow
    t.get PWR_STATE_STATUS_STATE = 2 ∧ t.byte shelfBase = 3 ∧ t.byte 5 = 0 := by decide +kernel
theorem test_smbus_reads_boot_status :
    let s := armedNow.set GLB_BOOT_STATUS_STAGE 2
    (after (exec (.smbusAddressMatch 0x58 false .bootStatus sound) s) s).smb.read.isSome = true := by decide +kernel
theorem test_wake : (after (execPcieWake false sound resting) resting).get PWR_STATE_STATUS_WAKE_CAUSE = 32 ∧
    (after (execPcieWake false sound resting) resting).get PWR_STATE_STATUS_WAKES = 1 := by decide +kernel

/-! Snapshots, fault records and the chest. -/

/-- A snapshot is pending, and a started SNAPSHOT command waits for it. -/
def snapping : State :=
  { ringUp.set CNT_SNAP_STATUS_PENDING 1 with inflight := [{ cmd opSnapshot 0 with started := true }] }
/-- Record 3 of the log, whose newest is record 2: class 4 from endpoint 170H of chip 0. -/
def logged : State :=
  fields stepBase [(CNT_FLT_PTR_TAIL, 3), (CNT_FLT_ENTRY_CLASS 2, 4), (CNT_FLT_ENTRY_SOURCE 2, 0x170), (CNT_FLT_ENTRY_DETAIL 2, 9)]

theorem witness_SnapshotsAndFaultRecords :
    (let s : State := { logged with faultDue := [⟨4, 0x170, 0, 0, 9⟩] }
     s.running = true ∧ s.faultDue = [⟨4, 0x170, 0, 0, 9⟩] ∧ logged.faultDue = []) ∧
    (let s := fields logged [(CNT_FLT_CFG_IRQ_EN, 1), (CNT_FLT_CFG_CLASS_MASK, 0x10)]
     s.get CNT_FLT_CFG_IRQ_EN = 1 ∧ bitAt (s.get CNT_FLT_CFG_CLASS_MASK) 4 = true ∧ s.masked (s.get CNT_FLT_CFG_VEC) = true) ∧
    (snapping.running = true ∧ snapping.get CNT_SNAP_STATUS_PENDING = 1 ∧ (∃ c ∈ snapping.inflight, c.opcode = 9 ∧ c.started = true)) ∧
    (stepBase.running = true ∧ stepBase.get CNT_SNAP_STATUS_PENDING = 0 ∧ stepBase.regs.rising = true) ∧
    (shadowed (CNT_AO_CYCLE_COUNT.key / 8) = true ∧ CNT_AO_CYCLE_COUNT.reset = 0 ∧ (∀ g < 8, shadowed ((GLB_STEP_NUM_STEP g).key / 8) = true)) ∧
    (logged.get CNT_FLT_PTR_HEAD ≠ logged.get CNT_FLT_PTR_TAIL ∧
      logged.sameRecord ((logged.get CNT_FLT_PTR_TAIL + 255) % 256) ⟨4, 0x170, 0, 0, 9⟩ = true ∧
      logged.sameRecord ((logged.get CNT_FLT_PTR_TAIL + 255) % 256) ⟨4, 0x170, 0, 0, 8⟩ = false) ∧
    ((logged.get CNT_FLT_PTR_TAIL + 1) % 256 ≠ logged.get CNT_FLT_PTR_HEAD ∧
      ((logged.set CNT_FLT_PTR_HEAD 4).get CNT_FLT_PTR_TAIL + 1) % 256 = (logged.set CNT_FLT_PTR_HEAD 4).get CNT_FLT_PTR_HEAD ∧
      (logged.set CNT_FLT_PTR_HEAD 4).sameRecord 2 ⟨4, 0x170, 0, 0, 8⟩ = false) := by decide +kernel

/-- A mounted chest whose slot 5 has a state; CHEST firings on slot 5. -/
def mounted (st : Nat) : State :=
  fields stepBase [(CHS_STATUS_MOUNTED, 1), (CHS_STATUS_CH_OK, 0xFF), (CHS_SPACE_FREE_PAGES, 1000), (CHS_ARG0_VALUE, 2),
    (CHS_SLOT_INFO_STATE 5, st)]
def appendOp : Nat := 1 + 5 <<< 4 + 1 <<< 44
def readOp : Nat := 2 + 5 <<< 4 + 1 <<< 44
def firing (op : Nat) (tiles : List Tile) (outs : Nat) (l : List (Field × Nat)) (pages : Nat) : State :=
  (fields (station State.reset 0x178 0 op tiles outs) l).wr .chestDir (cdWord 5 1) pages
def ready (s : State) : Option Alt := s.firstReady 0x178 0 s.chestReady
def slotIs (st : Nat) : List (Field × Nat) := [(CHS_STATUS_MOUNTED, 1), (CHS_SLOT_INFO_STATE 5, st)]
def badHead : Tile := tile 0xFF 1 2 8 []

theorem witness_ChestFiringsAppendAndRead_append :
    let up (l : List (Field × Nat)) (pages : Nat) := firing appendOp [x32] 0 l pages
    let a := alt appendOp 1 0
    let m := ceilDiv (recordSpan x32.recordLen) pageBytes
    (chwSlot a.op = 5 ∧ chwKind a.op = 1 ∧ a.inputs = [10] ∧ a.outputs = []) ∧
    (∀ s ∈ [up [] 0, up (slotIs slotSealed) 0, up (slotIs slotOpen) 0, up (slotIs slotOpen) 2], s.running = true ∧ ready s = some a ∧
      headerValid (s.inputD 10).head = true ∧ s.get CHS_FAULT_VALID = 0) ∧
    (let s := firing appendOp [badHead] 0 (slotIs slotOpen) 2
     ready s = some a ∧ headerValid (s.inputD 10).head = false) ∧
    (up [] 0).get CHS_STATUS_MOUNTED = 0 ∧ (up (slotIs slotOpen) 2).get CHS_STATUS_MOUNTED = 1 ∧
    (up (slotIs slotSealed) 0).get (CHS_SLOT_INFO_STATE 5) ≠ slotOpen ∧ (up (slotIs slotOpen) 0).get (CHS_SLOT_INFO_STATE 5) = slotOpen ∧
    ¬ (up (slotIs slotOpen) 0).rd .chestDir (cdWord 5 3) + m ≤ (up (slotIs slotOpen) 0).rd .chestDir (cdWord 5 1) ∧
    (up (slotIs slotOpen) 2).rd .chestDir (cdWord 5 3) + m ≤ (up (slotIs slotOpen) 2).rd .chestDir (cdWord 5 1) := by decide +kernel

/-- A page of slot 5 that was read with errors in codeword 0: five reads of 200 wrong bits, none correctable. -/
def worn : PageRead := ⟨5, 0, [(0, [200, 200, 200, 200, 200])], 0⟩

theorem witness_ChestFiringsAppendAndRead_pages :
    let s : State := { stepBase with chest := [⟨5, 0, 0, 1 <<< 32 + 5 <<< 40, 0⟩] }
    stepBase.firstReady 0x178 0 stepBase.chestReady = none ∧
    (s.readPage [worn] 5 0).failed.isSome = true ∧ ((s.wr .chestDir (cdWord 5 0) 0).readPage [] 5 0).failed = none := by decide +kernel

theorem witness_ChestFiringsAppendAndRead_read :
    let up (l : List (Field × Nat)) := firing readOp [] 1 l 2
    let a := alt readOp 0 1
    (chwSlot a.op = 5 ∧ chwKind a.op = 2 ∧ a.outputs = [20] ∧ a.inputs = []) ∧
    (∀ s ∈ [up [], up (slotIs slotOpen), up (slotIs slotSealed), up ((CHS_SLOT_INFO_RECORDS 5, 1) :: slotIs slotSealed)],
      s.running = true ∧ ready s = some a) ∧
    (up []).get CHS_STATUS_MOUNTED = 0 ∧ (up (slotIs slotOpen)).get (CHS_SLOT_INFO_STATE 5) ≠ slotSealed ∧
    (up (slotIs slotSealed)).get CHS_STATUS_MOUNTED = 1 ∧ (up (slotIs slotSealed)).get (CHS_SLOT_INFO_STATE 5) = slotSealed ∧
    (up (slotIs slotSealed)).get (CHS_SLOT_INFO_RECORDS 5) ≤ (up (slotIs slotSealed)).get (CHS_SLOT_INFO_CURSOR 5) ∧
    (let s := up ((CHS_SLOT_INFO_RECORDS 5, 1) :: slotIs slotSealed)
     s.get (CHS_SLOT_INFO_CURSOR 5) < s.get (CHS_SLOT_INFO_RECORDS 5) ∧ s.get (CHS_SLOT_INFO_STATE 5) = slotSealed) := by decide +kernel

/-- PARK and UNPARK of 20,000 bytes of shelf channel 0 and slot 70. -/
def parking (st : Nat) : State :=
  { fields (mounted slotEmpty) [(CHS_ARG0_VALUE, shelfBase + 0x100), (CHS_ARG1_VALUE, 20000), (SHF_DIMM_CAP 0, 3), (SHF_DIMM_PRESENT 0, 1),
      (SHF_DIMM_TRAINED 0, 1), (CHS_SLOT_INFO_STATE 70, st), (CHS_SLOT_INFO_BYTES 70, if st = slotSealed then 20000 else 0)] with
    mem := [(shelfBase + 0x100, 7), (shelfBase + 0x100 + 19999, 9)] }

theorem witness_ChestCommandsManageSlots :
    (stepBase.running = true ∧ stepBase.get CHS_STATUS_MOUNTED = 0 ∧ (∀ p ∈ stepBase.drwErr, p.1 < 36 * 2 ^ 21)) ∧
    ((mounted slotOpen).running = true ∧ (mounted slotOpen).get CHS_STATUS_MOUNTED = 1 ∧
      (∀ p ∈ ((mounted slotOpen).wr .drwErr 7 1).drwErr, p.1 < 36 * 2 ^ 21) ∧
      80 ≤ (85#7).toNat ∧ (5#7).toNat < 80 ∧ (70#7).toNat < 80) ∧
    ((mounted slotOpen).openRefusal 5 2 = some chsState ∧ (mounted slotEmpty).openRefusal 5 2 = none ∧ (mounted slotEmpty).get CHS_ARG0_VALUE = 2) ∧
    ((mounted slotOpen).get (CHS_SLOT_INFO_STATE 5) = slotOpen ∧ (mounted slotEmpty).get (CHS_SLOT_INFO_STATE 5) ≠ slotOpen) ∧
    (let s := parking slotEmpty
     s.running = true ∧ s.get CHS_STATUS_MOUNTED = 1 ∧ s.get CHS_ARG1_VALUE ≠ 0 ∧
      s.inShelves (s.get CHS_ARG0_VALUE) (s.get CHS_ARG1_VALUE) = true ∧
      s.openRefusal 70 (ceilDiv (s.get CHS_ARG1_VALUE) pageBytes) = none ∧
      (s.set CHS_ARG0_VALUE 0).inShelves 0 (s.get CHS_ARG1_VALUE) = false ∧ s.get CHS_ARG0_VALUE % 64 = 0 ∧
      s.get (CHS_SLOT_INFO_STATE 70) ≠ slotSealed ∧ s.inShelves (s.get CHS_ARG0_VALUE) (s.get (CHS_SLOT_INFO_BYTES 70)) = true) ∧
    (let s := parking slotSealed
     s.get (CHS_SLOT_INFO_STATE 70) = slotSealed ∧ s.inShelves (s.get CHS_ARG0_VALUE) (s.get (CHS_SLOT_INFO_BYTES 70)) = true ∧
      19999 < s.get (CHS_SLOT_INFO_BYTES 70) ∧ s.mapped (s.get CHS_ARG0_VALUE + 19999) = true) ∧
    (let s := (fields (mounted slotOpen) [(CHS_STATUS_SCRUBBING, 1)])
     s.get CHS_STATUS_SCRUBBING = 1 ∧ (mounted slotOpen).get CHS_STATUS_SCRUBBING = 0 ∧
      ((mounted slotOpen).set CNT_AO_CYCLE_COUNT (40 * dayCycles)).scrubDue = true ∧
      ((mounted slotOpen).wr .chestDir cdScrubStart 5).scrubDue = false) ∧
    (∃ j < 80, (mounted slotOpen).get (CHS_SLOT_INFO_STATE j) = slotOpen) ∧
    (∀ j < 80, (mounted slotEmpty).get (CHS_SLOT_INFO_STATE j) ≠ slotOpen) := by decide +kernel

/-- An opened slot, and a sealed one (R458). -/
theorem test_chest_open_seal :
    (after (execChestOpen 5 [] false (mounted slotEmpty)) stepBase).get (CHS_SLOT_INFO_STATE 5) = slotOpen ∧
    (after (execChestSeal 5 [] false (mounted slotOpen)) stepBase).get (CHS_SLOT_INFO_STATE 5) = slotSealed := by decide +kernel

end Sys2Proof.Tests
end

section
/-!
SUPPORT. Accesses to BAR0 (R2, R3, R6, R376): what every piece of a write and of a read does at an offset that no register and no
register effect covers, and what a read of a clearing counter of a tile queue returns and leaves.
-/

namespace Sys2Proof.Machine

open Reg

/-! Undefined words. -/

/-- No register and no effect of a write lies at an offset (R6). -/
def UndefinedAt (off : Nat) : Prop := (specials.findSome? fun x => x.covers off) = none ∧ regAt off = none

/-- Where an array of registers with effects of their own stands. -/
def Special.shape (x : Special) : Nat × Nat × Nat × Nat := (x.base, x.stride, x.count, x.size)

/-- An array covers byte `o` of its element `i`. -/
theorem Special.covers_element (x : Special) {i o : Nat} (hi : i < x.count) (ho : o < x.size)
    (hs : x.stride = 0 ∧ i = 0 ∨ x.size ≤ x.stride) : x.covers (x.base + i * x.stride + o) = some (i, o) := by
  have hd : x.base + i * x.stride + o - x.base = i * x.stride + o := by omega
  have hq : (if x.stride = 0 then 0 else (i * x.stride + o) / x.stride) = i := by
    rcases hs with ⟨h0, rfl⟩ | hle
    · simp [h0]
    · rw [if_neg (by omega), Nat.add_comm, Nat.add_mul_div_right _ _ (by omega), Nat.div_eq_of_lt (by omega), Nat.zero_add]
  rw [Special.covers, if_neg (by omega)]
  simp [hd, hq, hi, ho]

/-- An undefined offset is no byte of an array with effects of its own. -/
theorem UndefinedAt.ne_element {off b st n z i o : Nat} (h : UndefinedAt off) (hm : (b, st, n, z) ∈ specials.map Special.shape)
    (hi : i < n) (ho : o < z) (hs : st = 0 ∧ i = 0 ∨ z ≤ st) : off ≠ b + i * st + o := by
  obtain ⟨x, hx, e⟩ := List.mem_map.1 hm
  cases e
  rintro rfl
  simpa [x.covers_element hi ho hs] using List.findSome?_eq_none_iff.1 h.1 x hx

theorem UndefinedAt.not_staging {off : Nat} (h : UndefinedAt off) : ¬ (0x02710000 ≤ off ∧ off < 0x02720000) := fun hr =>
  h.ne_element (b := 0x02710000) (st := 0) (n := 1) (z := 65536) (i := 0) (o := off - 0x02710000) (by decide +kernel) (by decide) (by omega)
    (by decide) (by omega)

theorem UndefinedAt.not_mlsEntry {off : Nat} (h : UndefinedAt off) : ¬ (0x02800000 ≤ off ∧ off < 0x02880000) := fun hr =>
  h.ne_element (b := 0x02800000) (st := 8) (n := 65536) (z := 8) (i := (off - 0x02800000) / 8) (o := (off - 0x02800000) % 8)
    (by decide +kernel) (by omega) (by omega) (.inr (by decide)) (by omega)

theorem UndefinedAt.not_mlsStatus {off : Nat} (h : UndefinedAt off) : ¬ (0x02900000 ≤ off ∧ off < 0x02940000) := fun hr =>
  h.ne_element (b := 0x02900000) (st := 4) (n := 65536) (z := 4) (i := (off - 0x02900000) / 4) (o := (off - 0x02900000) % 4)
    (by decide +kernel) (by omega) (by omega) (.inr (by decide)) (by omega)

theorem UndefinedAt.ne_mlsInc {off : Nat} (h : UndefinedAt off) : off ≠ 0x02F00000 :=
  h.ne_element (b := 0x02F00000) (st := 0) (n := 1) (z := 8) (i := 0) (o := 0) (by decide +kernel) (by decide) (by decide) (by decide)

/-- An undefined offset is at no byte of a cluster's window that holds a register with effects of its own. -/
theorem UndefinedAt.ne_window {off w z : Nat} (h : UndefinedAt off) (hm : (0x01000000 + w, 0x10000, 36, z) ∈ specials.map Special.shape)
    (hz : z ≤ 0x10000) (hr : 0x01000000 ≤ off ∧ off < 0x01240000) : ¬ (w ≤ off % 0x10000 ∧ off % 0x10000 < w + z) := fun hw =>
  h.ne_element (i := (off - 0x01000000) / 0x10000) (o := off % 0x10000 - w) hm (by omega) (by omega) (.inr hz) (by omega)

theorem UndefinedAt.not_vecDebug {off : Nat} (h : UndefinedAt off) (hr : 0x01000000 ≤ off ∧ off < 0x01240000) :
    ¬ (0x4014 ≤ off % 0x10000 ∧ off % 0x10000 < 0x4018) :=
  h.ne_window (z := 4) (by decide +kernel) (by decide) hr

theorem UndefinedAt.not_vecImem {off : Nat} (h : UndefinedAt off) (hr : 0x01000000 ≤ off ∧ off < 0x01240000) :
    ¬ (0x4020 ≤ off % 0x10000 ∧ off % 0x10000 < 0x4028) :=
  h.ne_window (z := 8) (by decide +kernel) (by decide) hr

theorem UndefinedAt.not_deskMem {off : Nat} (h : UndefinedAt off) (hr : 0x01000000 ≤ off ∧ off < 0x01240000) :
    ¬ (0x7024 ≤ off % 0x10000 ∧ off % 0x10000 < 0x7028) :=
  h.ne_window (z := 4) (by decide +kernel) (by decide) hr

theorem UndefinedAt.not_checkConfig {off : Nat} (h : UndefinedAt off) (hr : 0x02400000 ≤ off ∧ off < 0x02410000) :
    ¬ (0x8 ≤ off % 0x1000 ∧ off % 0x1000 < 0x30) := fun hw =>
  h.ne_element (b := 0x02400008) (st := 0x1000) (n := 16) (z := 0x28) (i := (off - 0x02400000) / 0x1000) (o := off % 0x1000 - 8)
    (by decide +kernel) (by omega) (by omega) (.inr (by decide)) (by omega)

/-! WAITING bits stand in defined words. -/

/-- Each station has its status register, and each bench its second one (R59, R112). -/
theorem status_words_defined : ∀ e ∈ allStations, (regAt (stnPage e + 4)).isSome = true ∧
    (e < 0x120 → e % 8 < 4 → (regAt (stnPage e + 8)).isSome = true) := by
  decide +kernel

/-- A word that is no status word of a station has no WAITING bit. -/
theorem waitingBits_elsewhere (s : State) {off : Nat} (h : ∀ e ∈ allStations, stnPage e + 4 ≠ off ∧
    (e < 0x120 → e % 8 < 4 → stnPage e + 8 ≠ off)) : s.waitingBits off = 0 := by
  have noStation : allStations.find? (fun e => stnPage e + 4 = off || (e < 0x120 && e % 8 < 4 && stnPage e + 8 = off)) = none := by
    refine List.find?_eq_none.2 fun e he hc => ?_
    simp only [Bool.or_eq_true, Bool.and_eq_true, decide_eq_true_eq] at hc
    rcases hc with hs | ⟨⟨hlt, hmod⟩, hb⟩
    · exact (h e he).1 hs
    · exact (h e he).2 hlt hmod hb
  rw [State.waitingBits, noStation]

theorem waitingBits_undefined (s : State) {off : Nat} (h : regAt off = none) : s.waitingBits off = 0 := by
  have ne {x : Nat} (hx : (regAt x).isSome = true) : x ≠ off := by
    rintro rfl
    simp [h] at hx
  exact waitingBits_elsewhere s fun e he =>
    ⟨ne (status_words_defined e he).1, fun hlt hmod => ne ((status_words_defined e he).2 hlt hmod)⟩

/-- Every control page lies in the station blocks, above the host's queues (R59). -/
theorem le_stnPage (e : Nat) : 0x00F00000 ≤ stnPage e := by
  unfold stnPage
  repeat' split
  all_goals omega

theorem waitingBits_low (s : State) {off : Nat} (h : off < 0x00F00000) : s.waitingBits off = 0 :=
  waitingBits_elsewhere s fun e _ => by
    have := le_stnPage e
    omega

/-! Writes to undefined words. -/

theorem plainWrite_undefined {off : Nat} (h : regAt off = none) (v : Nat) : plainWrite off v = .skip := by simp [plainWrite, h]

theorem hardwareSets_undefined {off : Nat} (h : regAt off = none) (v hw : Nat) : hardwareSets off v hw = .skip := by
  simp [hardwareSets, h]

/-- Without an effect of its own, a word is written by access codes alone. -/
theorem wordWrite_plain {off : Nat} (h : (specials.findSome? fun x => x.covers off) = none) (v : Nat) :
    wordWrite off v = plainWrite off v := by
  have noEffect : (specials.findSome? fun x => (x.covers off).map fun p => x.act p.1 p.2 v) = none :=
    List.findSome?_eq_none_iff.2 fun x hx => by simp [List.findSome?_eq_none_iff.1 h x hx]
  rw [wordWrite, noEffect]

theorem wordWrite_undefined {off : Nat} (h : UndefinedAt off) (v : Nat) : wordWrite off v = .skip := by
  rw [wordWrite_plain h.1, plainWrite_undefined h.2]

/-- The registers that take a 64-bit write as one are defined. -/
theorem doubleWrite_undefined {off : Nat} (h : UndefinedAt off) (v : Nat) : doubleWrite off v = none := by
  have hinc := h.ne_mlsInc
  have hmls := h.not_mlsEntry
  have himem := h.not_vecImem
  have hchk := h.not_checkConfig
  unfold doubleWrite
  simp only [Bool.and_eq_true, decide_eq_true_eq]
  rw [if_neg hinc, if_neg hmls, if_neg (by omega)]
  split
  · split
    case h_5 => rfl
    all_goals omega
  · rfl

/-- The hardware sets nothing in an undefined word. -/
theorem coincident_undefined {off size : Nat} (h : UndefinedAt off) (h' : size = 8 → UndefinedAt (off + 4)) (v hw : Nat) (s : State) :
    (coincident off size v hw).run s = s := by
  unfold coincident
  by_cases h8 : size = 8
  · simp only [Bool.and_eq_true, decide_eq_true_eq, h.not_mlsStatus, (h' h8).not_mlsStatus, false_and, if_false,
      hardwareSets_undefined h.2, hardwareSets_undefined (h' h8).2, Act.run_when, Act.run_seq, Act.run_skip, ite_self]
  · simp only [Bool.and_eq_true, decide_eq_true_eq, h.not_mlsStatus, false_and, if_false, hardwareSets_undefined h.2, h8, Act.run_when,
      Act.run_seq, Act.run_skip, ite_self]

/-! Reads of undefined words. -/

theorem State.word_undefined (s : State) {off : Nat} (h : regAt off = none) : s.word off = 0 := by simp [State.word, h]

theorem readClear_undefined {off : Nat} (h : regAt off = none) (upd : Nat) : readClear off upd = .skip := by simp [readClear, h]

theorem State.readWord_undefined (s : State) {off : Nat} (h : UndefinedAt off) : s.readWord off = 0 := by
  have plain : (s.viewed off).word off ||| s.waitingBits off = 0 := by
    rw [State.word_undefined _ h.2, waitingBits_undefined _ h.2, Nat.zero_or]
  have hdbg := h.not_vecDebug
  have himem := h.not_vecImem
  have hdesk := h.not_deskMem
  unfold State.readWord
  simp only [Bool.and_eq_true, decide_eq_true_eq]
  rw [if_neg h.not_staging]
  split
  · split
    case h_5 => exact plain
    all_goals omega
  · exact plain

theorem readEffect_undefined {off : Nat} (h : UndefinedAt off) (upd : Nat) (s : State) : (readEffect off upd).run s = s := by
  have himem := h.not_vecImem
  have hdesk := h.not_deskMem
  unfold readEffect
  simp only [Act.run_ask, Bool.and_eq_true, decide_eq_true_eq]
  rw [if_neg (by omega), if_neg (by omega), readClear_undefined h.2]
  simp

/-! Accesses that reach nothing. -/

/-- An access reaches no register: its words are undefined, or it is of another size or alignment (R6, R376). -/
def ReachesNothing (off size : Nat) : Prop :=
  (size = 4 ∧ off % 4 = 0 ∧ UndefinedAt off) ∨ (size = 8 ∧ off % 8 = 0 ∧ ∀ k ∈ [off, off + 4], UndefinedAt k) ∨
  ¬ ((size = 4 ∧ off % 4 = 0) ∨ (size = 8 ∧ off % 8 = 0))

theorem answers_iff {s : State} (hs : s.running = true) (off size : Nat) :
    s.answers off size = true ↔ (size = 4 ∧ off % 4 = 0) ∨ (size = 8 ∧ off % 8 = 0) := by
  simp [State.answers, hs]

theorem regWrite_running {s : State} (hs : s.running = true) (off size v : Nat) :
    (regWrite off size v).run s = (alignedWrite off size v).run s := by
  simp [regWrite, hs]

/-- A write that reaches no register is discarded (R6). -/
theorem alignedWrite_reachesNothing {off size : Nat} (h : ReachesNothing off size) (v : Nat) (s : State) :
    (alignedWrite off size v).run s = s := by
  unfold alignedWrite
  simp only [Bool.and_eq_true, decide_eq_true_eq]
  rcases h with ⟨h4, hal, hu⟩ | ⟨h8, hal, hu⟩ | hno
  · rw [if_pos ⟨h4, hal⟩, wordWrite_undefined hu, Act.run_skip]
  · have lo := hu off (by simp)
    have hi := hu (off + 4) (by simp)
    rw [if_neg (by omega), if_pos ⟨h8, hal⟩, doubleWrite_undefined lo]
    simp [wordWrite_undefined lo, wordWrite_undefined hi]
  · rw [not_or] at hno
    rw [if_neg hno.1, if_neg hno.2, Act.run_skip]

theorem regWriteWith_reachesNothing {off size : Nat} {s : State} (hs : s.running = true) (h : ReachesNothing off size) (v hw : Nat) :
    (regWriteWith off size v hw).run s = s := by
  simp only [regWriteWith, Act.run_ask, Act.run_seq, Act.run_when, regWrite_running hs, alignedWrite_reachesNothing h, answers_iff hs]
  rcases h with ⟨h4, hal, hu⟩ | ⟨h8, hal, hu⟩ | hno
  · rw [coincident_undefined hu (by omega), ite_self]
  · rw [coincident_undefined (hu off (by simp)) (fun _ => hu (off + 4) (by simp)), ite_self]
  · rw [if_neg hno]

theorem readValue_reachesNothing {off size : Nat} {s : State} (hs : s.running = true) (h : ReachesNothing off size) :
    s.readValue off size = 0 := by
  simp only [State.readValue, Bool.not_eq_true', ← Bool.not_eq_true, answers_iff hs]
  rcases h with ⟨h4, hal, hu⟩ | ⟨h8, hal, hu⟩ | hno
  · rw [if_neg (not_not_intro (.inl ⟨h4, hal⟩)), if_pos h4, s.readWord_undefined hu]
  · rw [if_neg (not_not_intro (.inr ⟨h8, hal⟩)), if_neg (by omega), s.readWord_undefined (hu off (by simp)),
      s.readWord_undefined (hu (off + 4) (by simp)), Nat.zero_shiftLeft]
  · rw [if_pos hno]

theorem readEffects_reachesNothing {off size : Nat} {s : State} (hs : s.running = true) (h : ReachesNothing off size) (upd : Nat) :
    (readEffects off size upd).run s = s := by
  simp only [readEffects, Act.run_ask, Act.run_seq, Act.run_when, answers_iff hs]
  rcases h with ⟨h4, hal, hu⟩ | ⟨h8, hal, hu⟩ | hno
  · have h8 : ¬ size = 8 := by omega
    simp [readEffect_undefined hu, h8]
  · simp only [readEffect_undefined (hu off (by simp)), readEffect_undefined (hu (off + 4) (by simp)), ite_self]
  · rw [if_neg hno]

@[simp] theorem State.running_readOut (s : State) (v : Nat) : ((Upd.readOut v).apply s).running = s.running := rfl

/-- A read that reaches no register returns 0 and changes nothing else (R6). -/
theorem regRead_reachesNothing {off size : Nat} {s : State} (hs : s.running = true) (h : ReachesNothing off size) (upd : Nat) :
    (regRead off size upd).run s = (Upd.readOut 0).apply s := by
  rw [regRead, Act.run_ask, Act.run_seq, Act.run_upd, readValue_reachesNothing hs h, readEffects_reachesNothing (by simpa using hs) h]

/-! Reads below the clusters and the station pages, and a read that clears. -/

theorem State.viewed_live {s : State} (h : s.get CNT_VIEW_SHADOW = 0) (off : Nat) : s.viewed off = s := by simp [State.viewed, h]

/-- Below the station pages, a word is its fields alone. -/
theorem State.readWord_low {s : State} (h : s.get CNT_VIEW_SHADOW = 0) {off : Nat} (ho : off < 0x00F00000) :
    s.readWord off = s.word off := by
  unfold State.readWord
  simp only [Bool.and_eq_true, decide_eq_true_eq]
  rw [if_neg (by omega), if_neg (by omega), State.viewed_live h, waitingBits_low s ho, Nat.or_zero]

/-- Below the clusters, a read clears the fields whose access code says so, and does no more (R2). -/
theorem readEffect_low {s : State} (h : s.get CNT_VIEW_SHADOW = 0) {off : Nat} (ho : off < 0x01000000) (upd : Nat) :
    (readEffect off upd).run s = (readClear off upd).run s := by
  unfold readEffect
  simp only [Act.run_ask, Bool.and_eq_true, decide_eq_true_eq]
  rw [if_neg (by omega), if_neg (by omega), h]
  simp

/-- A read clears fields of its own register alone. -/
theorem readClear_within {F : Foot} {off a : Nat} {r : RegDef} (h : regAt off = some (a, r)) (hf : ∀ f ∈ r.fields, F.keys (f.at a).key)
    (upd : Nat) : (readClear off upd).Within F := by
  simp only [readClear, h]
  refine .each_mem fun f hm => ?_
  split
  · exact .ite (.modify (hf f hm)) .skip
  · exact .skip

/-! The repeat counter of a tile queue (R3). -/

/-- The BAR0 offset of HST_TQ_REPEATS of a tile queue. -/
def tqRepeats (q : Ring) : Nat := 0x00102028 + q.val * 0x40

/-- Both words of HST_TQ_REPEATS belong to the one register. -/
theorem regAt_tqRepeats : ∀ q : Ring,
    regAt (tqRepeats q) = some (tqRepeats q, ⟨0x00102028, 0x40, 64, 8, HST_TQ_REPEATS_fields⟩) ∧
    regAt (tqRepeats q + 4) = some (tqRepeats q, ⟨0x00102028, 0x40, 64, 8, HST_TQ_REPEATS_fields⟩) := by
  decide +kernel

theorem at_tqRepeats_count (q : Ring) : (FieldDef.mk 0 48 .rc 0).at (tqRepeats q) = HST_TQ_REPEATS_COUNT q.val := rfl

theorem at_tqRepeats_ovf (q : Ring) : (FieldDef.mk 63 1 .rc 0).at (tqRepeats q) = HST_TQ_REPEATS_OVF q.val := rfl

theorem tqRepeats_keys_ne (q : Ring) : (HST_TQ_REPEATS_COUNT q.val).key ≠ (HST_TQ_REPEATS_OVF q.val).key := by
  simp [HST_TQ_REPEATS_COUNT, HST_TQ_REPEATS_OVF]

theorem tqRepeats_lt (q : Ring) : tqRepeats q + 4 < 0x00F00000 := by
  have := q.isLt
  unfold tqRepeats
  omega

/-- The low word holds the low 32 bits of the count. -/
theorem State.word_tqRepeats (s : State) (q : Ring) : s.word (tqRepeats q) = bits (s.get (HST_TQ_REPEATS_COUNT q.val)) 0 32 := by
  simp [State.word, (regAt_tqRepeats q).1, HST_TQ_REPEATS_fields, FieldDef.part, at_tqRepeats_count]

/-- The high word holds the rest of the count, and OVF at its top. -/
theorem State.word_tqRepeats_high (s : State) (q : Ring) : s.word (tqRepeats q + 4) =
    bits (s.get (HST_TQ_REPEATS_COUNT q.val)) 32 16 + bits (s.get (HST_TQ_REPEATS_OVF q.val)) 0 1 <<< 31 := by
  simp [State.word, (regAt_tqRepeats q).2, HST_TQ_REPEATS_fields, FieldDef.part, at_tqRepeats_count, at_tqRepeats_ovf]

theorem readClear_tqRepeats (q : Ring) (upd : Nat) (s : State) : (readClear (tqRepeats q) upd).run s =
    s.set (HST_TQ_REPEATS_COUNT q.val) (setBits (s.get (HST_TQ_REPEATS_COUNT q.val)) 0 32 (bits upd 0 32)) := by
  simp [readClear, (regAt_tqRepeats q).1, HST_TQ_REPEATS_fields, FieldDef.part, at_tqRepeats_count]

theorem readClear_tqRepeats_high (q : Ring) (upd : Nat) (s : State) : (readClear (tqRepeats q + 4) upd).run s =
    (s.set (HST_TQ_REPEATS_COUNT q.val) (setBits (s.get (HST_TQ_REPEATS_COUNT q.val)) 32 16 (bits upd 0 16))).set (HST_TQ_REPEATS_OVF q.val)
      (setBits (s.get (HST_TQ_REPEATS_OVF q.val)) 0 1 (bits upd 31 1)) := by
  simp [readClear, (regAt_tqRepeats q).2, HST_TQ_REPEATS_fields, FieldDef.part, at_tqRepeats_count, at_tqRepeats_ovf,
    State.get_set_ne _ (tqRepeats_keys_ne q)]

/-- What a read of the whole counter returns. -/
theorem State.readValue_tqRepeats {s : State} (hs : s.running = true) (h : s.get CNT_VIEW_SHADOW = 0) (q : Ring) :
    s.readValue (tqRepeats q) 8 = s.get (HST_TQ_REPEATS_COUNT q.val) + s.get (HST_TQ_REPEATS_OVF q.val) * 2 ^ 63 := by
  have hal : tqRepeats q % 8 = 0 := by unfold tqRepeats; omega
  have hcount : s.get (HST_TQ_REPEATS_COUNT q.val) < 2 ^ 48 := s.get_lt _
  have hovf : s.get (HST_TQ_REPEATS_OVF q.val) < 2 ^ 1 := s.get_lt _
  have hlow := tqRepeats_lt q
  simp only [State.readValue, Bool.not_eq_true', ← Bool.not_eq_true, answers_iff hs]
  rw [if_neg (not_not_intro (.inr ⟨trivial, hal⟩)), if_neg (by decide), State.readWord_low h (by omega), State.readWord_low h hlow,
    s.word_tqRepeats, s.word_tqRepeats_high]
  simp only [bits, Nat.shiftRight_eq_div_pow, Nat.shiftLeft_eq]
  omega

/-- Both halves of a count, put in place one after the other. -/
theorem setBits_halves (old u : Nat) :
    setBits (setBits old 0 32 (bits u 0 32) % 2 ^ 48) 32 16 (bits (bits u 32 32) 0 16) % 2 ^ 48 = bits u 0 48 := by
  simp only [setBits_eq, bits, Nat.shiftRight_eq_div_pow]
  omega

/-- What a read of the whole counter leaves: its low word cleared, then its high word. -/
def clearTqRepeats (q : Ring) (upd : Nat) : Act :=
  .seq (readClear (tqRepeats q) upd) (readClear (tqRepeats q + 4) (bits upd 32 32))

theorem readEffects_tqRepeats {s : State} (hs : s.running = true) (h : s.get CNT_VIEW_SHADOW = 0) (q : Ring) (upd : Nat) :
    (readEffects (tqRepeats q) 8 upd).run s = (clearTqRepeats q upd).run s := by
  have hlow := tqRepeats_lt q
  have hal : tqRepeats q % 8 = 0 := by unfold tqRepeats; omega
  have himem : isImemData (tqRepeats q) = false := by simp [isImemData]; omega
  have hview : ((readClear (tqRepeats q) upd).run s).get CNT_VIEW_SHADOW = 0 := by
    rw [readClear_tqRepeats, State.get_set_ne _ (by simp only [HST_TQ_REPEATS_COUNT, CNT_VIEW_SHADOW]; omega), h]
  simp only [readEffects, clearTqRepeats, Act.run_ask, Act.run_when, Act.run_seq, answers_iff hs]
  rw [if_pos (.inr ⟨trivial, hal⟩), readEffect_low h (by omega), if_pos (by simp [himem]), readEffect_low hview (by omega)]

/-- The clear stays within the two fields of the counter. -/
theorem clearTqRepeats_within (q : Ring) (upd : Nat) :
    (clearTqRepeats q upd).Within (Foot.fields [HST_TQ_REPEATS_COUNT q.val, HST_TQ_REPEATS_OVF q.val]) := by
  have own : ∀ f ∈ HST_TQ_REPEATS_fields,
      (Foot.fields [HST_TQ_REPEATS_COUNT q.val, HST_TQ_REPEATS_OVF q.val]).keys (f.at (tqRepeats q)).key := by
    simp [HST_TQ_REPEATS_fields, Foot.fields, Foot.of, at_tqRepeats_count, at_tqRepeats_ovf]
  exact .seq (readClear_within (regAt_tqRepeats q).1 own _) (readClear_within (regAt_tqRepeats q).2 own _)

/-- After the clear, COUNT holds what the hardware counts in the same cycle (R3). -/
theorem get_count_clearTqRepeats (q : Ring) (upd : Nat) (s : State) :
    ((clearTqRepeats q upd).run s).get (HST_TQ_REPEATS_COUNT q.val) = bits upd 0 48 := by
  rw [clearTqRepeats, Act.run_seq, readClear_tqRepeats_high, State.get_set_ne _ (tqRepeats_keys_ne q).symm, readClear_tqRepeats,
    State.get_set_self, State.get_set_self]
  exact setBits_halves _ _

/-- After the clear, OVF holds what the hardware sets in the same cycle (R3). -/
theorem get_ovf_clearTqRepeats (q : Ring) (upd : Nat) (s : State) :
    ((clearTqRepeats q upd).run s).get (HST_TQ_REPEATS_OVF q.val) = bits upd 63 1 := by
  rw [clearTqRepeats, Act.run_seq, readClear_tqRepeats_high, State.get_set_self, setBits_whole _ 1 _ (State.get_lt _ _)]
  simp only [HST_TQ_REPEATS_OVF, bits, Nat.shiftRight_eq_div_pow]
  omega

/-- What a read returns has no part in what it leaves. -/
theorem readEffects_tqRepeats_readOut {s : State} (hs : s.running = true) (h : s.get CNT_VIEW_SHADOW = 0) (q : Ring) (upd v : Nat) :
    (readEffects (tqRepeats q) 8 upd).run ((Upd.readOut v).apply s) = (clearTqRepeats q upd).run ((Upd.readOut v).apply s) :=
  readEffects_tqRepeats (by simpa using hs) (by rw [Upd.get_apply _ _ _ rfl, h]) q upd

/-- A read of the whole counter returns it, then clears it. -/
theorem regRead_tqRepeats {s : State} (hs : s.running = true) (h : s.get CNT_VIEW_SHADOW = 0) (q : Ring) (upd : Nat) :
    (regRead (tqRepeats q) 8 upd).run s = (clearTqRepeats q upd).run
      ((Upd.readOut (s.get (HST_TQ_REPEATS_COUNT q.val) + s.get (HST_TQ_REPEATS_OVF q.val) * 2 ^ 63)).apply s) := by
  rw [regRead, Act.run_ask, Act.run_seq, Act.run_upd, State.readValue_tqRepeats hs h, readEffects_tqRepeats_readOut hs h]

/-! The scope of a host access. -/

/-- A host write of BAR0 that reaches no register changes nothing. -/
theorem exec_registerWrite_reachesNothing {off : BitVec 26} {size : Nat} {s : State} (hs : s.running = true)
    (h : ReachesNothing off.toNat size) (v hw : BitVec 64) : exec (.registerWrite off size v hw) s = .next s :=
  congrArg Host.Outcome.next (regWriteWith_reachesNothing hs h v.toNat hw.toNat)

/-- A host read of BAR0 is the read of its offset. -/
theorem exec_rcRead_bar0 (off : BitVec 42) (size : Nat) (upd : BitVec 64) (l : List (Cluster × Graph)) (s : State) :
    exec (.rcRead .bar0 off size upd l) s = .next ((regRead off.toNat size upd.toNat).run s) := rfl

theorem exec_rcRead_reachesNothing {off : BitVec 26} {size : Nat} {s : State} (hs : s.running = true) (h : ReachesNothing off.toNat size)
    (v : BitVec 64) (l : List (Cluster × Graph)) :
    exec (.rcRead .bar0 (off.setWidth 42) size v l) s = .next ((Upd.readOut 0).apply s) := by
  have hoff : (off.setWidth 42).toNat = off.toNat := by
    rw [BitVec.toNat_setWidth, Nat.mod_eq_of_lt (by have := off.isLt; omega)]
  rw [exec_rcRead_bar0, hoff, regRead_reachesNothing hs h]

/-- A 64-bit host read of the repeat counter of a tile queue returns it, clears it, and keeps what is counted meanwhile (R2, R3). -/
theorem exec_rcRead_tqRepeats {s : State} (hs : s.running = true) (hv : s.get CNT_VIEW_SHADOW = 0) (q : Ring) (upd : BitVec 64)
    (l : List (Cluster × Graph)) :
    exec (.rcRead .bar0 (BitVec.ofNat 42 (0x00102028 + q.val * 0x40)) 8 upd l) s = .next ((clearTqRepeats q upd.toNat).run
      ((Upd.readOut (s.get (HST_TQ_REPEATS_COUNT q.val) + s.get (HST_TQ_REPEATS_OVF q.val) * 2 ^ 63)).apply s)) := by
  have hoff : (BitVec.ofNat 42 (0x00102028 + q.val * 0x40)).toNat = tqRepeats q := by
    rw [BitVec.toNat_ofNat, Nat.mod_eq_of_lt (by have := q.isLt; omega), tqRepeats]
  rw [exec_rcRead_bar0, hoff, regRead_tqRepeats hs hv]

/-- Settles O9: an access that reaches no register does nothing, and a read of a repeat counter clears it alone. -/
theorem undefinedAccessesAndReadsThatClear : Obligations.UndefinedAccessesAndReadsThatClear := by
  unfold Obligations.UndefinedAccessesAndReadsThatClear
  constructor
  · intro off size v hw l s hs h
    exact ⟨exec_registerWrite_reachesNothing hs h v hw, exec_rcRead_reachesNothing hs h v l⟩
  · intro q upd l s hs hv
    have cleared := clearTqRepeats_within q upd.toNat
    refine ⟨_, exec_rcRead_tqRepeats hs hv q upd l, ?_, get_count_clearTqRepeats q _ _, get_ovf_clearTqRepeats q _ _, ?_⟩
    · exact (cleared _).parts .readOut (by simp [Foot.fields, Foot.of])
    · exact (Frame.upd_part _ s _ .readOut rfl (by simp [Foot.or, Foot.of])).trans (cleared.left _)

end Sys2Proof.Machine
end

section
/-!
SUPPORT. Writes by access codes (R2): a 32-bit write gives each field of its word what the field's own access code says, and touches
no other field.
-/

namespace Sys2Proof.Machine

open Reg

/-! Replaced bits. -/

/-- Replacing bits below `w` keeps a number below `2 ^ w`. -/
theorem setBits_lt {old w lo n : Nat} (h : old < 2 ^ w) (hn : lo + n ≤ w) (x : Nat) : setBits old lo n x < 2 ^ w := by
  obtain ⟨d, rfl⟩ := Nat.exists_eq_add_of_le hn
  have low : old % 2 ^ lo + x % 2 ^ n * 2 ^ lo < 2 ^ (lo + n) := by
    have hlo : old % 2 ^ lo < 2 ^ lo := Nat.mod_lt _ (Nat.two_pow_pos _)
    have hx := Nat.mul_le_mul_right (2 ^ lo) (Nat.succ_le_of_lt (Nat.mod_lt x (Nat.two_pow_pos n)))
    rw [Nat.succ_mul] at hx
    rw [Nat.pow_add, Nat.mul_comm (2 ^ lo) (2 ^ n)]
    omega
  have high : old / 2 ^ (lo + n) < 2 ^ d := Nat.div_lt_of_lt_mul (by rwa [← Nat.pow_add])
  have hhigh := Nat.mul_le_mul_right (2 ^ (lo + n)) (Nat.succ_le_of_lt high)
  rw [Nat.succ_mul] at hhigh
  rw [setBits_eq, Nat.pow_add 2 (lo + n) d, Nat.mul_comm (2 ^ (lo + n)) (2 ^ d)]
  omega

/-- Bits replaced by themselves. -/
theorem setBits_bits_self (old lo n : Nat) : setBits old lo n (bits old lo n) = old := by
  have low : old % 2 ^ lo + bits old lo n * 2 ^ lo = old % 2 ^ (lo + n) := by
    rw [Nat.pow_add, Nat.mod_mul, bits, Nat.shiftRight_eq_div_pow, Nat.mul_comm]
  rw [setBits_eq, Nat.mod_eq_of_lt (bits_lt old lo n), low, Nat.mul_comm]
  exact Nat.mod_add_div old (2 ^ (lo + n))

/-- A one-bit field that a write of ones clears: written with 1 it is 0, and otherwise it stays. -/
theorem setBits_w1c_bit {old : Nat} (h : old < 2) (v i : Nat) :
    setBits old 0 1 (bits old 0 1 &&& (2 ^ 1 - 1 - bits v i 1)) = if bitAt v i then 0 else old := by
  have hold : bits old 0 1 = old := by simp [bits, Nat.mod_eq_of_lt h]
  rw [setBits_whole _ 1 _ h, hold]
  rcases Nat.mod_two_eq_zero_or_one (v >>> i) with hv | hv
  · simp [bits, bitAt, hv, Nat.mod_eq_of_lt h]
  · simp [bits, bitAt, hv]

/-! One field. -/

/-- The part of a field in a word lies within the field. -/
theorem FieldDef.part_le {f : FieldDef} {b lo n p : Nat} (h : f.part b = some (lo, n, p)) : lo + n ≤ f.width := by
  unfold FieldDef.part at h
  split at h
  · cases h
  · rename_i hin
    simp only [Bool.or_eq_true, decide_eq_true_eq, not_or, Nat.not_le] at hin
    simp only [Option.some.injEq, Prod.mk.injEq] at h
    omega

theorem fieldWrite_within {F : Foot} {f : FieldDef} {a : Nat} (h : F.keys (f.at a).key) (lo n p v : Nat) :
    (fieldWrite f a lo n p v).Within F := by
  unfold fieldWrite
  cases f.acc with
  | rw | w1c | w1s => exact .modify h
  | ro | wo | rc => exact .skip

/-- A write of a field leaves in it what its access code says (R2). -/
theorem get_fieldWrite {f : FieldDef} {b lo n p : Nat} (h : f.part b = some (lo, n, p)) (a v : Nat) (s : State) :
    ((fieldWrite f a lo n p v).run s).get (f.at a) = setBits (s.get (f.at a)) lo n
      (accessResult f.acc n (bits (s.get (f.at a)) lo n) (bits v p n)) := by
  have fits (x : Nat) : setBits (s.get (f.at a)) lo n x % 2 ^ f.width = setBits (s.get (f.at a)) lo n x :=
    Nat.mod_eq_of_lt (setBits_lt (s.get_lt (f.at a)) (FieldDef.part_le h) x)
  unfold fieldWrite accessResult
  cases f.acc with
  | rw | w1c | w1s => exact (State.get_set_self s (f.at a) _).trans (fits _)
  | ro | wo | rc => exact (setBits_bits_self _ lo n).symm

/-! The fields of a word. -/

/-- What a write of the word at `off` does to one field of the register at `a`. -/
def writePart (off a v : Nat) (f : FieldDef) : Act :=
  match f.part ((off - a) * 8) with
  | some (lo, n, p) => fieldWrite f a lo n p v
  | none => .skip

/-- The fields of a register of which the word at `off` holds a part. -/
def wordFields (off a : Nat) (r : RegDef) : List Field :=
  (r.fields.filter fun f => (f.part ((off - a) * 8)).isSome).map fun f => f.at a

theorem plainWrite_eq {off a : Nat} {r : RegDef} (h : regAt off = some (a, r)) (v : Nat) :
    plainWrite off v = .each r.fields (writePart off a v) := by
  rw [plainWrite, h]
  rfl

theorem writePart_within {F : Foot} {off a v : Nat} {f : FieldDef} (h : (f.part ((off - a) * 8)).isSome → F.keys (f.at a).key) :
    (writePart off a v f).Within F := by
  unfold writePart
  split
  · rename_i hp
    exact fieldWrite_within (h (by rw [hp]; rfl)) _ _ _ _
  · exact .skip

/-- A write of one field leaves a field at another bit as it was. -/
theorem get_writePart_ne {f g : FieldDef} (h : f.lo ≠ g.lo) (off a v : Nat) (s : State) :
    ((writePart off a v f).run s).get (g.at a) = s.get (g.at a) := by
  have own : (writePart off a v f).Within (Foot.fields [f.at a]) := writePart_within fun _ => ⟨f.at a, by simp, rfl⟩
  refine (own s).regs (g.at a) ?_
  simp only [Foot.fields, Foot.of, List.mem_singleton, FieldDef.at]
  rintro ⟨_, rfl, e⟩
  exact h (Nat.add_left_cancel e).symm

/-- Among fields that start at different bits, each takes its own value. -/
theorem get_each_writePart {f : FieldDef} {l : List FieldDef} (hn : (l.map (·.lo)).Nodup) (hf : f ∈ l) {off a lo n p : Nat}
    (hp : f.part ((off - a) * 8) = some (lo, n, p)) (v : Nat) (s : State) :
    ((Act.each l (writePart off a v)).run s).get (f.at a) = setBits (s.get (f.at a)) lo n
      (accessResult f.acc n (bits (s.get (f.at a)) lo n) (bits v p n)) := by
  induction l generalizing s with
  | nil => cases hf
  | cons x l ih =>
    obtain ⟨hx, hn⟩ := List.nodup_cons.1 hn
    rw [Act.run_each_cons]
    rcases List.mem_cons.1 hf with rfl | hf
    · have others : (Act.each l (writePart off a v)).Within (Foot.fields (l.map (·.at a))) :=
        .each_mem fun g hg => writePart_within fun _ => ⟨g.at a, List.mem_map_of_mem hg, rfl⟩
      have self : writePart off a v f = fieldWrite f a lo n p v := by rw [writePart, hp]
      rw [(others _).regs, self, get_fieldWrite hp]
      rintro ⟨k, hk, e⟩
      obtain ⟨g, hg, rfl⟩ := List.mem_map.1 hk
      exact hx (List.mem_map.2 ⟨g, hg, (Nat.add_left_cancel e).symm⟩)
    · have ne : x.lo ≠ f.lo := fun e => hx (List.mem_map.2 ⟨f, hf, e.symm⟩)
      rw [ih hn hf, get_writePart_ne ne]

/-- A 32-bit write by access codes stays within the fields of its word. -/
theorem plainWrite_within {off a : Nat} {r : RegDef} (h : regAt off = some (a, r)) (v : Nat) :
    (plainWrite off v).Within (Foot.fields (wordFields off a r)) := by
  rw [plainWrite_eq h]
  exact .each_mem fun f hf =>
    writePart_within fun hp => ⟨f.at a, List.mem_map.2 ⟨f, List.mem_filter.2 ⟨hf, hp⟩, rfl⟩, rfl⟩

/-- A 32-bit write leaves in each field of its word what the field's access code says (R2). -/
theorem get_plainWrite {off a : Nat} {r : RegDef} (h : regAt off = some (a, r)) {f : FieldDef} (hf : f ∈ r.fields) {lo n p : Nat}
    (hp : f.part ((off - a) * 8) = some (lo, n, p)) (v : Nat) (s : State) :
    ((plainWrite off v).run s).get (f.at a) = setBits (s.get (f.at a)) lo n
      (accessResult f.acc n (bits (s.get (f.at a)) lo n) (bits v p n)) := by
  have apart : (r.fields.map (·.lo)).Nodup := of_decide_eq_true (List.all_eq_true.1 table_fields_apart r (regAt_mem h))
  rw [plainWrite_eq h, get_each_writePart apart hf hp]

/-- What the hardware sets in the cycle of a write stays within the fields of the word's register. -/
theorem hardwareSets_within {F : Foot} {off a : Nat} {r : RegDef} (h : regAt off = some (a, r)) (hf : ∀ f ∈ r.fields, F.keys (f.at a).key)
    (v hw : Nat) : (hardwareSets off v hw).Within F := by
  simp only [hardwareSets, h]
  refine .each_mem fun f hm => ?_
  split
  · exact .ite (.modify (hf f hm)) .skip
  · exact .skip

end Sys2Proof.Machine
end

section
/-!
SUPPORT. Writes of a stream context (R30, R32, R58): which register its words belong to, what a rejected and an accepted write do, and how
far a write reaches.
-/

namespace Sys2Proof.Machine

open Reg

/-! The words of a context. -/

/-- The BAR0 offset of a stream's context (R30). -/
def strBase (n : Nat) : Nat := 0x03000000 + n * 0x40

/-- The row of the stream contexts in the register table. -/
def strRow : RegDef := ⟨0x03000000, 0x40, 262144, 64, STR_fields⟩

theorem strRow_covers {n w : Nat} (hn : n < 262144) (hw : w < 16) : strRow.covers (strWord n w) = some (strBase n) := by
  have hd : strWord n w - 0x03000000 = n * 0x40 + 4 * w := by unfold strWord; omega
  have hq : (n * 0x40 + 4 * w) / 0x40 = n := by omega
  have hle : ¬ strWord n w < 0x03000000 := by unfold strWord; omega
  have hin : 4 * w < 64 := by omega
  simp [RegDef.covers, strRow, hle, hd, hq, hn, strBase, Nat.mul_comm 64 n, hin]

/-- Every word of a context belongs to the context's register. -/
theorem regAt_strWord {n w : Nat} (hn : n < 262144) (hw : w < 16) : regAt (strWord n w) = some (strBase n, strRow) := by
  have first : Reg.table = ⟨0x02600000, 0x0, 1, 4, PWR_OPMODE_fields⟩ :: strRow :: Reg.table.drop 2 := rfl
  have mode : (⟨0x02600000, 0x0, 1, 4, PWR_OPMODE_fields⟩ : RegDef).covers (strWord n w) = none := by
    unfold RegDef.covers strWord
    rw [if_neg (by dsimp only; omega), if_neg (by simp; omega)]
  rw [regAt, first, List.findSome?_cons_of_isNone (by rw [mode]; rfl), List.findSome?_cons_of_isSome (by rw [strRow_covers hn hw]; rfl),
    strRow_covers hn hw]
  rfl

/-- The register bit at which a word of a context starts. -/
theorem strWord_bit (n w : Nat) : (strWord n w - strBase n) * 8 = 32 * w := by
  unfold strWord strBase
  omega

/-- The fields of a context lie in the context. -/
theorem str_fields_in_context {f : FieldDef} (hf : f ∈ strRow.fields) (n : Nat) : ctxKeys n (f.at (strBase n)).key := by
  have hlo : ∀ f ∈ STR_fields, f.lo < 512 := by decide
  have := hlo f hf
  simp only [ctxKeys, inBytes, FieldDef.at, strBase]
  omega

/-! What a write of a word does. -/

/-- A write of a word with RW fields while a station of the context runs is discarded and sets WR_REJECT (R32). -/
theorem contextWrite_rejected {n w : Nat} {s : State} (hw : strRwWord w = true) (hq : s.ctxQuiet n = false) (v : Nat) :
    (contextWrite n w v).run s = s.set (STR_WR_REJECT n) 1 := by
  simp [contextWrite, hw, hq]

/-- Whether a context takes a write of a word: the word has no RW field, or the context's stations are quiesced (R32). -/
def State.takesWord (s : State) (n w : Nat) : Prop := strRwWord w = false ∨ s.ctxQuiet n = true

/-- A write that a context takes is one by access codes, but for NEXT_SEQ and the faults (R32). -/
theorem contextWrite_plain {n w : Nat} {s : State} (h3 : w ≠ 3) (h10 : w ≠ 10) (hq : s.takesWord n w) (v : Nat) :
    (contextWrite n w v).run s = (plainWrite (strWord n w) v).run s := by
  rcases hq with hq | hq
  · simp [contextWrite, hq, h10]
  · by_cases hw : strRwWord w = true <;> simp [contextWrite, hq, hw, h3, h10]

/-- A write that a context takes gives each field what its access code says. -/
theorem get_contextWrite {n w : Nat} (hn : n < 262144) (hw : w < 16) {s : State} (h3 : w ≠ 3) (h10 : w ≠ 10) (hq : s.takesWord n w)
    {f : FieldDef} (hf : f ∈ STR_fields) {lo b p : Nat} (hp : f.part (32 * w) = some (lo, b, p)) (v : Nat) :
    ((contextWrite n w v).run s).get (f.at (strBase n)) = setBits (s.get (f.at (strBase n))) lo b
      (accessResult f.acc b (bits (s.get (f.at (strBase n))) lo b) (bits v p b)) := by
  rw [contextWrite_plain h3 h10 hq]
  exact get_plainWrite (regAt_strWord hn hw) hf (by rw [strWord_bit, hp]) v s

/-- A write that a context takes sets a whole RW field to the written bits. -/
theorem get_contextWrite_rw {n w : Nat} (hn : n < 262144) (hw : w < 16) {s : State} (h3 : w ≠ 3) (h10 : w ≠ 10) (hq : s.takesWord n w)
    {lo width p : Nat} (hf : ⟨lo, width, .rw, 0⟩ ∈ STR_fields)
    (hp : (FieldDef.mk lo width .rw 0).part (32 * w) = some (0, width, p)) (v : Nat) :
    ((contextWrite n w v).run s).get ((FieldDef.mk lo width .rw 0).at (strBase n)) = bits v p width := by
  have hold := s.get_lt ((FieldDef.mk lo width .rw 0).at (strBase n))
  rw [get_contextWrite hn hw h3 h10 hq hf hp, setBits_whole _ width _ hold]
  exact Nat.mod_eq_of_lt (bits_lt v p width)

/-- A write of word 9 clears the sticky flags that it names, and no other (R32). -/
theorem get_contextWrite_sticky {n i : Nat} (hn : n < 262144) (hi : i < 8) (v : Nat) (s : State) :
    ((contextWrite n 9 v).run s).get ((FieldDef.mk (288 + i) 1 .w1c 0).at (strBase n)) =
      if bitAt v i then 0 else s.get ((FieldDef.mk (288 + i) 1 .w1c 0).at (strBase n)) := by
  have listed : ∀ i < 8, FieldDef.mk (288 + i) 1 .w1c 0 ∈ STR_fields ∧
      (FieldDef.mk (288 + i) 1 .w1c 0).part (32 * 9) = some (0, 1, i) := by decide
  obtain ⟨hf, hp⟩ := listed i hi
  rw [get_contextWrite hn (by decide) (by decide) (by decide) (.inl rfl) hf hp]
  exact setBits_w1c_bit (s.get_lt _) v i

/-- The sticky flags are the bits of word 9, in order (R30). -/
theorem stickyFlags_eq (n : Nat) : [(STR_NAN_IN n, 0), (STR_INVALID n, 1), (STR_OVERFLOW n, 2), (STR_DENORM_FLUSHED n, 3),
    (STR_SATURATE n, 4), (STR_INT_SAT n, 5), (STR_EMPTY n, 6), (STR_POISONED n, 7)] =
      (List.range 8).map fun i => ((FieldDef.mk (288 + i) 1 .w1c 0).at (strBase n), i) := rfl

/-- A write that a context takes stays within the fields of its word. -/
theorem contextWrite_frame {n w : Nat} (hn : n < 262144) (hw : w < 16) {s : State} (h3 : w ≠ 3) (h10 : w ≠ 10) (hq : s.takesWord n w)
    (v : Nat) : Frame (Foot.fields (wordFields (strWord n w) (strBase n) strRow)) s ((contextWrite n w v).run s) := by
  rw [contextWrite_plain h3 h10 hq]
  exact plainWrite_within (regAt_strWord hn hw) v s

/-! The fields of three words. -/

theorem wordFields_0 (n : Nat) : wordFields (strWord n 0) (strBase n) strRow = [STR_VALID n, STR_REMOTE n, STR_SIDE n, STR_GRAPH n,
    STR_SRC_ENDPT n, STR_DST_ENDPT n, STR_VC n, STR_WAIT_EN n] := by
  rw [wordFields, strWord_bit]
  rfl

theorem wordFields_7 (n : Nat) : wordFields (strWord n 7) (strBase n) strRow = [STR_WD_LIMIT n] := by
  rw [wordFields, strWord_bit]
  rfl

theorem wordFields_9 (n : Nat) : wordFields (strWord n 9) (strBase n) strRow = [STR_NAN_IN n, STR_INVALID n, STR_OVERFLOW n,
    STR_DENORM_FLUSHED n, STR_SATURATE n, STR_INT_SAT n, STR_EMPTY n, STR_POISONED n] := by
  rw [wordFields, strWord_bit]
  rfl

/-! How far a write reaches. -/

/-- A write by access codes stays within the context. -/
theorem plainWrite_strWord_within {n w : Nat} (hn : n < 262144) (hw : w < 16) (v : Nat) :
    (plainWrite (strWord n w) v).Within (Foot.tiles [n]) := by
  refine (plainWrite_within (regAt_strWord hn hw) v).mono ?_ ?_ (fun _ => False.elim) ?_
  · rintro _ ⟨k, hk, rfl⟩
    obtain ⟨f, hf, rfl⟩ := List.mem_map.1 hk
    exact ctx_key (by simp) (str_fields_in_context (List.mem_filter.1 hf).1 n)
  · intro _ _ h; cases h
  · intro _ h; cases h

/-- A move of the next tile stays within its stream, the slots and milestones (R58). -/
theorem moveNext_within {ns : List Nat} {n : Nat} (hn : n ∈ ns) (b : Nat) : (moveNext n b).Within (Foot.tiles ns) := by
  unfold moveNext
  refine .ask fun s => .cons (.part .slots rfl ?_) (.cons (setNextIn_within hn _) (.cons (.set (ctx_key hn ?_))
    (.cons (complete_within hn _) (.cons (returnCredit_within hn _) .nil))))
  · simp [Foot.tiles, Foot.milestone, Foot.hostDone, Foot.or, Foot.of]
  · simp only [ctxKeys, inBytes, STR_WD_COUNT]; omega

theorem nextSeqRewrite_within (n b : Nat) : (nextSeqRewrite n b).Within (Foot.tiles [n]) := by
  have hn : n ∈ [n] := by simp
  have next : (Act.set (STR_NEXT_SEQ n) b).Within (Foot.tiles [n]) := .set (ctx_key hn (by simp only [ctxKeys, inBytes, STR_NEXT_SEQ]; omega))
  exact .ask fun s => .ite (.seq (.ite (moveNext_within hn b) (setNextIn_within hn b)) next) next

theorem faultClear_within {n : Nat} (hn : n < 262144) (v hw : Nat) : (faultClear n v hw).Within (Foot.tiles [n]) := by
  have hin {f : Field} (h : ctxKeys n f.key) : (Foot.tiles [n]).keys f.key := ctx_key (by simp) h
  exact .ask fun s => .cons (plainWrite_strWord_within hn (by decide) _)
    (.cons (hardwareSets_within (regAt_strWord hn (by decide)) (fun f hf => hin (str_fields_in_context hf n)) v hw)
      (.cons (.ask fun t => .when (.set (hin (by simp only [ctxKeys, inBytes, STR_WD_COUNT]; omega)))) .nil))

/-- Every write of a context stays within the context, its slots and what its milestone reaches. -/
theorem contextWrite_within {n w : Nat} (hn : n < 262144) (hw : w < 16) (v : Nat) : (contextWrite n w v).Within (Foot.tiles [n]) := by
  have plain := plainWrite_strWord_within hn hw v
  have reject : (Act.set (STR_WR_REJECT n) 1).Within (Foot.tiles [n]) :=
    .set (ctx_key (n := n) (by simp) (by simp only [ctxKeys, inBytes, STR_WR_REJECT]; omega))
  exact .ask fun s => .ite (.ite reject (.ite (nextSeqRewrite_within n v) plain)) (.ite (faultClear_within hn v 0) plain)

theorem exec_streamContextWrite {s : State} (hs : s.running = true) (n : StreamNo) (w : Fin 16) (v : BitVec 32) :
    exec (.streamContextWrite n w v) s = .next ((contextWrite n.toNat w.val v.toNat).run s) := live_eq hs

/-- Word 0 of a quiesced context: its fields take the written bits (R30, R32). -/
theorem get_contextWrite_word0 {n : Nat} (hn : n < 262144) {s : State} (hq : s.ctxQuiet n = true) (v : Nat) {lo width : Nat}
    (hf : ⟨lo, width, .rw, 0⟩ ∈ STR_fields) (hp : (FieldDef.mk lo width .rw 0).part (32 * 0) = some (0, width, lo)) :
    ((contextWrite n 0 v).run s).get ((FieldDef.mk lo width .rw 0).at (strBase n)) = bits v lo width :=
  get_contextWrite_rw hn (by decide) (by decide) (by decide) (.inr hq) hf hp v

/-- Settles O13: a context's words with RW fields take a write only while its stations are quiesced; its W1C words always do. -/
theorem contextWriteNeedsQuiescedStations : Obligations.ContextWriteNeedsQuiescedStations := by
  unfold Obligations.ContextWriteNeedsQuiescedStations
  intro n w v s hs
  have hn : n.toNat < 262144 := n.isLt
  refine ⟨?rejected, ?reach, rfl, ?plain, ?word9, rfl, ?word0, ?word7⟩
  case rejected =>
    intro hw hq
    rw [exec_streamContextWrite hs, contextWrite_rejected hw hq]
  case reach => exact ⟨_, exec_streamContextWrite hs n w v, contextWrite_within hn w.isLt _ s⟩
  case plain =>
    intro h3 h10 hq a r hr
    have h3 : w.val ≠ 3 := fun e => h3 (Fin.ext e)
    have h10 : w.val ≠ 10 := fun e => h10 (Fin.ext e)
    obtain ⟨rfl, rfl⟩ : strBase n.toNat = a ∧ strRow = r := by simpa [regAt_strWord hn w.isLt] using hr
    refine ⟨_, exec_streamContextWrite hs n w v, fun f lo b p hf hp => ?_, contextWrite_frame hn w.isLt h3 h10 hq _⟩
    exact get_contextWrite hn w.isLt h3 h10 hq hf (by rw [← strWord_bit n.toNat, hp]) _
  case word9 =>
    refine ⟨_, exec_streamContextWrite hs n 9 v, fun f i h => ?_, ?_⟩
    · rw [stickyFlags_eq, List.mem_map] at h
      obtain ⟨j, hj, e⟩ := h
      cases e
      exact get_contextWrite_sticky hn (List.mem_range.1 hj) v.toNat s
    · rw [← wordFields_9]
      exact contextWrite_frame hn (by decide) (by decide) (by decide) (.inl rfl) _
  case word0 =>
    intro hq
    have field {lo width : Nat} := get_contextWrite_word0 (lo := lo) (width := width) hn hq v.toNat
    refine ⟨_, exec_streamContextWrite hs n 0 v, field (by decide) (by decide), field (by decide) (by decide), field (by decide) (by decide),
      field (by decide) (by decide), field (by decide) (by decide), field (by decide) (by decide), field (by decide) (by decide),
      field (by decide) (by decide), ?_⟩
    rw [← wordFields_0]
    exact contextWrite_frame hn (by decide) (by decide) (by decide) (.inr hq) _
  case word7 =>
    intro hq
    refine ⟨_, exec_streamContextWrite hs n 7 v,
      get_contextWrite_rw hn (by decide) (by decide) (by decide) (.inr hq) (lo := 224) (by decide) (by decide) _, ?_⟩
    rw [← wordFields_7]
    exact contextWrite_frame hn (by decide) (by decide) (by decide) (.inr hq) _

end Sys2Proof.Machine
end

section
/-!
SUPPORT. Milestones (R48–R50, R53): what the rise of REACHED reaches, what COUNT, TARGET, CODE, OVF and REACHED read after a change of
an entry, and how a write of MLS_INC acts by its size.
-/

namespace Sys2Proof.Machine

open Reg

/-! What the rise of a milestone reaches. -/

/-- The interrupt, the waiting desks and host commands, and the commit attempts that a rise of REACHED starts (R49, R178). -/
def Foot.rise : Foot := Foot.or Foot.hostDone (Foot.of deskKeys [.commitDue] [.desks])

theorem deskRelease_within_rise {c r : Nat} (hc : c < 36) (hr : r < 64) (v : Nat) : (deskRelease c r v).Within Foot.rise := by
  have desk {f : Field} (h : inBytes (0x01007008 + c * 0x10000) (0x01007200 + c * 0x10000) f.key) : Foot.rise.keys f.key := .inr ⟨c, hc, h⟩
  unfold deskRelease deskSet
  refine .cons (.when (.set (desk ?_))) (.cons (.set (desk ?_)) (.cons (.modify (desk ?_)) .nil))
  · simp only [inBytes, CLU_DESK_SREG_VALUE]; omega
  · simp only [inBytes, CLU_DESK_STATE_RUN]; omega
  · simp only [inBytes, CLU_DESK_STATE_PC]; omega

theorem releaseWaiters_within_rise (m : Nat) : (releaseWaiters m).Within Foot.rise := by
  unfold releaseWaiters
  refine .ask fun s => .cons (.each fun d => deskRelease_within_rise d.cluster.isLt ?_ _) (.cons (.part .desks rfl ?_)
    (.cons (.each fun c => (finishCmd_within _ _ _).left) .nil))
  · cases d.wait with
    | none => simp
    | some w => exact w.1.isLt
  · simp [Foot.rise, Foot.or, Foot.of]

/-- The registers of the milestones are no part of what a rise reaches. -/
theorem mlsKeys_not_rise {k : Nat} (h : mlsKeys k) : ¬ Foot.rise.keys k := by
  simp only [mlsKeys, inBytes] at h
  rintro ((hk | hk) | ⟨c, hc, hk⟩) <;> simp only [inBytes] at hk <;> omega

/-- Bringing a milestone up to date sets REACHED, and otherwise does what a rise does. -/
theorem mlsRefresh_run (m : Nat) (s : State) : ∃ rise : Act, rise.Within Foot.rise ∧
    (mlsRefresh m).run s = rise.run (s.set (MLS_STATUS_REACHED m) (b2n (s.reached m))) := by
  refine ⟨_, ?_, rfl⟩
  refine .cons (.when (.cons (.when (signal_within _ (s.get_lt _)).left)
    (.cons (releaseWaiters_within_rise m) (.cons (.each fun g => .put ?_) .nil)))) .nil
  simp [Foot.or, Foot.of]

/-! Reads after a milestone is brought up to date. -/

/-- A milestone's fields keep their values, but for REACHED. -/
theorem get_mlsRefresh_ne {m : Nat} {f : Field} (hf : mlsKeys f.key) (hne : (MLS_STATUS_REACHED m).key ≠ f.key) (s : State) :
    ((mlsRefresh m).run s).get f = s.get f := by
  obtain ⟨rise, within, e⟩ := mlsRefresh_run m s
  rw [e, (within _).regs f (mlsKeys_not_rise hf), State.get_set_ne _ hne]

section Entry

variable {m : Nat}

theorem get_mlsRefresh_count (hm : m < 65536) (s : State) : ((mlsRefresh m).run s).get (MLS_ENTRY_COUNT m) = s.get (MLS_ENTRY_COUNT m) :=
  get_mlsRefresh_ne (by simp only [mlsKeys, inBytes, MLS_ENTRY_COUNT]; omega)
    (by simp only [MLS_STATUS_REACHED, MLS_ENTRY_COUNT]; omega) s

theorem get_mlsRefresh_target (hm : m < 65536) (s : State) :
    ((mlsRefresh m).run s).get (MLS_ENTRY_TARGET m) = s.get (MLS_ENTRY_TARGET m) :=
  get_mlsRefresh_ne (by simp only [mlsKeys, inBytes, MLS_ENTRY_TARGET]; omega)
    (by simp only [MLS_STATUS_REACHED, MLS_ENTRY_TARGET]; omega) s

theorem get_mlsRefresh_code (hm : m < 65536) (s : State) : ((mlsRefresh m).run s).get (MLS_STATUS_CODE m) = s.get (MLS_STATUS_CODE m) :=
  get_mlsRefresh_ne (by simp only [mlsKeys, inBytes, MLS_STATUS_CODE]; omega)
    (by simp only [MLS_STATUS_REACHED, MLS_STATUS_CODE]; omega) s

theorem get_mlsRefresh_ovf (hm : m < 65536) (s : State) : ((mlsRefresh m).run s).get (MLS_STATUS_OVF m) = s.get (MLS_STATUS_OVF m) :=
  get_mlsRefresh_ne (by simp only [mlsKeys, inBytes, MLS_STATUS_OVF]; omega)
    (by simp only [MLS_STATUS_REACHED, MLS_STATUS_OVF]; omega) s

/-- REACHED tells at once whether the milestone is reached (R49, R53). -/
theorem get_mlsRefresh_reached (hm : m < 65536) (s : State) :
    ((mlsRefresh m).run s).get (MLS_STATUS_REACHED m) = b2n (s.reached m) := by
  have hkey : mlsKeys (MLS_STATUS_REACHED m).key := by simp only [mlsKeys, inBytes, MLS_STATUS_REACHED]; omega
  obtain ⟨rise, within, e⟩ := mlsRefresh_run m s
  rw [e, (within _).regs _ (mlsKeys_not_rise hkey), State.get_set_self]
  cases s.reached m <;> rfl

/-- REACHED = 1 where COUNT ≥ TARGET or CODE ≠ 0 (R49). -/
theorem reached_iff_mlsRefresh (hm : m < 65536) (s : State) :
    ((mlsRefresh m).run s).get (MLS_STATUS_REACHED m) = 1 ↔
      ((mlsRefresh m).run s).get (MLS_ENTRY_TARGET m) ≤ ((mlsRefresh m).run s).get (MLS_ENTRY_COUNT m) ∨
        ((mlsRefresh m).run s).get (MLS_STATUS_CODE m) ≠ 0 := by
  have bit (b : Bool) : b2n b = 1 ↔ b = true := by cases b <;> decide
  rw [get_mlsRefresh_reached hm, get_mlsRefresh_target hm, get_mlsRefresh_count hm, get_mlsRefresh_code hm, bit]
  simp [State.reached]

/-! Increments. -/

/-- The entry after an increment, before REACHED follows: the sum, or the greatest COUNT with OVF set where the sum exceeds it (R50). -/
def State.incremented (s : State) (m k : Nat) : State :=
  if 0xFFFFFFFF < s.get (MLS_ENTRY_COUNT m) + k then (s.set (MLS_ENTRY_COUNT m) 0xFFFFFFFF).set (MLS_STATUS_OVF m) 1
  else s.set (MLS_ENTRY_COUNT m) (s.get (MLS_ENTRY_COUNT m) + k)

/-- An increment by 0 does nothing. -/
theorem mlsAdd_zero (mark : Option Nat) (s : State) : (mlsAdd m 0 mark).run s = s := rfl

/-- An increment that marks no stream changes the entry and brings the milestone up to date (R48). -/
theorem mlsAdd_run {k : Nat} (hk : k ≠ 0) (s : State) : (mlsAdd m k none).run s = (mlsRefresh m).run (s.incremented m k) := by
  by_cases h : 0xFFFFFFFF < s.get (MLS_ENTRY_COUNT m) + k <;> simp [mlsAdd, State.incremented, hk, h]

theorem get_incremented_count (hm : m < 65536) (s : State) (k : Nat) :
    (s.incremented m k).get (MLS_ENTRY_COUNT m) = min (s.get (MLS_ENTRY_COUNT m) + k) 0xFFFFFFFF := by
  unfold State.incremented
  split
  · rename_i h
    rw [State.get_set_ne _ (by simp only [MLS_STATUS_OVF, MLS_ENTRY_COUNT]; omega), State.get_set_self, Nat.min_eq_right (Nat.le_of_lt h)]
    rfl
  · rename_i h
    rw [State.get_set_self, Nat.min_eq_left (Nat.not_lt.1 h)]
    exact Nat.mod_eq_of_lt (Nat.lt_succ_of_le (Nat.not_lt.1 h))

theorem get_incremented_ovf (hm : m < 65536) (s : State) (k : Nat) : (s.incremented m k).get (MLS_STATUS_OVF m) =
    if 0xFFFFFFFF < s.get (MLS_ENTRY_COUNT m) + k then 1 else s.get (MLS_STATUS_OVF m) := by
  unfold State.incremented
  split
  · exact State.get_set_self _ _ 1
  · exact State.get_set_ne _ (by simp only [MLS_STATUS_OVF, MLS_ENTRY_COUNT]; omega) _

/-- An increment changes COUNT and OVF alone. -/
theorem get_incremented_ne {f : Field} (hcount : (MLS_ENTRY_COUNT m).key ≠ f.key) (hovf : (MLS_STATUS_OVF m).key ≠ f.key) (s : State)
    (k : Nat) : (s.incremented m k).get f = s.get f := by
  unfold State.incremented
  split
  · rw [State.get_set_ne _ hovf, State.get_set_ne _ hcount]
  · exact State.get_set_ne _ hcount _

theorem get_incremented_target (hm : m < 65536) (s : State) (k : Nat) :
    (s.incremented m k).get (MLS_ENTRY_TARGET m) = s.get (MLS_ENTRY_TARGET m) :=
  get_incremented_ne (by simp only [MLS_ENTRY_COUNT, MLS_ENTRY_TARGET]; omega)
    (by simp only [MLS_STATUS_OVF, MLS_ENTRY_TARGET]; omega) s k

theorem get_incremented_code (hm : m < 65536) (s : State) (k : Nat) :
    (s.incremented m k).get (MLS_STATUS_CODE m) = s.get (MLS_STATUS_CODE m) :=
  get_incremented_ne (by simp only [MLS_ENTRY_COUNT, MLS_STATUS_CODE]; omega)
    (by simp only [MLS_STATUS_OVF, MLS_STATUS_CODE]; omega) s k

end Entry

/-! Written entries. -/

/-- Set a field where a value is given. -/
def setOpt (f : Field) : Option Nat → Act
  | some v => .set f v
  | none => .skip

theorem setOpt_within {F : Foot} {f : Field} {x : Option Nat} (h : F.keys f.key) : (setOpt f x).Within F := by
  cases x with
  | some v => exact .set h
  | none => exact .skip

theorem get_setOpt_self (f : Field) (x : Option Nat) (s : State) :
    ((setOpt f x).run s).get f = (x.map (· % 2 ^ f.width)).getD (s.get f) := by
  cases x with
  | some v => exact State.get_set_self s f v
  | none => rfl

theorem get_setOpt_ne {f g : Field} (h : f.key ≠ g.key) (x : Option Nat) (s : State) : ((setOpt f x).run s).get g = s.get g := by
  cases x with
  | some v => exact State.get_set_ne s h v
  | none => rfl

/-- A write of an entry sets what is given and brings the milestone up to date (R51, R53). -/
theorem mlsWrite_run (m : Nat) (cnt tgt : Option Nat) (s : State) : (mlsWrite m cnt tgt).run s =
    (mlsRefresh m).run ((setOpt (MLS_ENTRY_TARGET m) tgt).run ((setOpt (MLS_ENTRY_COUNT m) cnt).run s)) := by
  cases cnt <;> cases tgt <;> rfl

theorem mlsWrite_within {m : Nat} (hm : m < 65536) (cnt tgt : Option Nat) : (mlsWrite m cnt tgt).Within (Foot.milestone []) := by
  intro s
  have count : (setOpt (MLS_ENTRY_COUNT m) cnt).Within (Foot.milestone []) :=
    setOpt_within (.inr (.inl (by simp only [mlsKeys, inBytes, MLS_ENTRY_COUNT]; omega)))
  have target : (setOpt (MLS_ENTRY_TARGET m) tgt).Within (Foot.milestone []) :=
    setOpt_within (.inr (.inl (by simp only [mlsKeys, inBytes, MLS_ENTRY_TARGET]; omega)))
  rw [mlsWrite_run]
  exact ((count s).trans (target _)).trans (mlsRefresh_within m hm _)

theorem get_count_mlsWrite {m : Nat} (hm : m < 65536) (cnt : Option (BitVec 32)) (tgt : Option Nat) (s : State) :
    ((mlsWrite m (cnt.map (·.toNat)) tgt).run s).get (MLS_ENTRY_COUNT m) = (cnt.map (·.toNat)).getD (s.get (MLS_ENTRY_COUNT m)) := by
  have word (v : BitVec 32) : v.toNat % 2 ^ (MLS_ENTRY_COUNT m).width = v.toNat := Nat.mod_eq_of_lt v.isLt
  rw [mlsWrite_run, get_mlsRefresh_count hm, get_setOpt_ne (by simp only [MLS_ENTRY_TARGET, MLS_ENTRY_COUNT]; omega), get_setOpt_self,
    Option.map_map]
  simp only [Function.comp_def, word]

theorem get_target_mlsWrite {m : Nat} (hm : m < 65536) (cnt : Option Nat) (tgt : Option (BitVec 32)) (s : State) :
    ((mlsWrite m cnt (tgt.map (·.toNat))).run s).get (MLS_ENTRY_TARGET m) = (tgt.map (·.toNat)).getD (s.get (MLS_ENTRY_TARGET m)) := by
  have word (v : BitVec 32) : v.toNat % 2 ^ (MLS_ENTRY_TARGET m).width = v.toNat := Nat.mod_eq_of_lt v.isLt
  rw [mlsWrite_run, get_mlsRefresh_target hm, get_setOpt_self, get_setOpt_ne (by simp only [MLS_ENTRY_TARGET, MLS_ENTRY_COUNT]; omega),
    Option.map_map]
  simp only [Function.comp_def, word]

/-! Writes of MLS_INC by size. -/

/-- Without an event in the cycle of a write, the hardware sets nothing. -/
theorem coincident_none (off size v : Nat) (s : State) : (coincident off size v 0).run s = s := by
  simp [coincident]

/-- A host write of BAR0 without a coincident event. -/
theorem exec_registerWrite_alone {s : State} (hs : s.running = true) (off : BitVec 26) (size : Nat) (v : BitVec 64) :
    exec (.registerWrite off size v 0) s = .next ((alignedWrite off.toNat size v.toNat).run s) := by
  have h : (regWriteWith off.toNat size v.toNat 0).run s = (alignedWrite off.toNat size v.toNat).run s := by
    simp only [regWriteWith, Act.run_ask, Act.run_seq, Act.run_when, coincident_none, ite_self, regWrite_running hs]
  exact congrArg Host.Outcome.next h

/-- A whole write of MLS_INC increments the milestone that it names (R48). -/
theorem alignedWrite_mlsInc (v : Nat) : alignedWrite 0x02F00000 8 v = mlsAdd (bits v 0 16) (bits v 32 32) none := rfl

/-- A 32-bit write of a half of MLS_INC does nothing (R48). -/
theorem wordWrite_mlsInc {off : Nat} (h : off = 0x02F00000 ∨ off = 0x02F00004) (v : Nat) : wordWrite off v = .skip := by
  rcases h with rfl | rfl <;> simp [wordWrite, specials, specialsCore, Special.covers]

theorem alignedWrite_mlsInc_half {off : Nat} (h : off = 0x02F00000 ∨ off = 0x02F00004) (v : Nat) : alignedWrite off 4 v = .skip := by
  rw [alignedWrite, if_pos (by rcases h with rfl | rfl <;> rfl), wordWrite_mlsInc h]

/-- The milestone and the amount in a word of MLS_INC (R47). -/
theorem bits_mlsInc (k : BitVec 32) (m : Mls) :
    bits (k ++ 0#16 ++ m).toNat 0 16 = m.toNat ∧ bits (k ++ 0#16 ++ m).toNat 32 32 = k.toNat := by
  have hm := m.isLt
  have hk := k.isLt
  have e : (k ++ 0#16 ++ m).toNat = k.toNat * 2 ^ 32 + m.toNat := by
    rw [BitVec.toNat_append, BitVec.toNat_append, BitVec.toNat_ofNat, ← Nat.shiftLeft_add_eq_or_of_lt hm]
    simp [Nat.shiftLeft_eq]
    omega
  simp only [e, bits, Nat.shiftRight_eq_div_pow]
  omega

theorem exec_mlsInc_half {s : State} (hs : s.running = true) {off : BitVec 26} (h : off.toNat = 0x02F00000 ∨ off.toNat = 0x02F00004)
    (v : BitVec 64) : exec (.registerWrite off 4 v 0) s = .next s := by
  rw [exec_registerWrite_alone hs, alignedWrite_mlsInc_half h, Act.run_skip]

theorem exec_mlsIncWrite {s : State} (hs : s.running = true) (m : Mls) (k : BitVec 32) :
    exec (.mlsIncWrite m k) s = .next ((mlsAdd m.toNat k.toNat none).run s) := live_eq hs

theorem exec_milestoneEntryWrite {s : State} (hs : s.running = true) (m : Mls) (cnt tgt : Option (BitVec 32)) :
    exec (.milestoneEntryWrite m cnt tgt) s = .next ((mlsWrite m.toNat (cnt.map (·.toNat)) (tgt.map (·.toNat))).run s) := live_eq hs

/-- Settles O15: increments saturate, entries take what is written, and REACHED follows in the same step. -/
theorem milestonesCountAndReach : Obligations.MilestonesCountAndReach := by
  unfold Obligations.MilestonesCountAndReach
  intro m s hs
  have hm : m.toNat < 65536 := m.isLt
  refine ⟨?whole, ?half, ?zero, ?add, ?entry⟩
  case whole =>
    intro k
    obtain ⟨name, amount⟩ := bits_mlsInc k m
    have named := alignedWrite_mlsInc (k ++ 0#16 ++ m).toNat
    rw [name, amount] at named
    rw [exec_registerWrite_alone hs, exec_mlsIncWrite hs, ← named]
    rfl
  case half =>
    intro v
    exact ⟨exec_mlsInc_half hs (.inl rfl) v, exec_mlsInc_half hs (.inr rfl) v⟩
  case zero => exact (exec_mlsIncWrite hs m 0).trans (congrArg Host.Outcome.next (mlsAdd_zero none s))
  case add =>
    intro k hk
    have hk : k.toNat ≠ 0 := fun e => hk (BitVec.eq_of_toNat_eq e)
    refine ⟨_, exec_mlsIncWrite hs m k, ?_, ?_, ?_, ?_, ?_, mlsAdd_within m.toNat k.toNat hm none (by simp) s⟩ <;> rw [mlsAdd_run hk]
    · rw [get_mlsRefresh_count hm, get_incremented_count hm]
    · rw [get_mlsRefresh_ovf hm, get_incremented_ovf hm]
    · exact reached_iff_mlsRefresh hm _
    · rw [get_mlsRefresh_target hm, get_incremented_target hm]
    · rw [get_mlsRefresh_code hm, get_incremented_code hm]
  case entry =>
    intro cnt tgt
    refine ⟨_, exec_milestoneEntryWrite hs m cnt tgt, get_count_mlsWrite hm cnt _ s, get_target_mlsWrite hm _ tgt s, ?_,
      mlsWrite_within hm _ _ s⟩
    rw [mlsWrite_run]
    exact reached_iff_mlsRefresh hm _

end Sys2Proof.Machine
end

section
/-!
SUPPORT. Controls of a graph's steps (R181, R184, R185, R485): what a halt, a resume, a rollback, a forced failure, a write of the step
number and a rewind request do to the step registers.
-/

namespace Sys2Proof.Machine

open Reg

/-! Fields. -/

/-- A field of one bit is 0 or 1. -/
theorem State.get_bit (s : State) {f : Field} (hw : f.width = 1) : s.get f = 0 ∨ s.get f = 1 := by
  have h := s.get_lt f
  rw [hw] at h
  omega

theorem State.running_set (s : State) {f : Field} (h : PWR_STATE_STATUS_STATE.key ≠ f.key) (h' : GLB_BOOT_STATUS_FAIL.key ≠ f.key)
    (v : Nat) : (s.set f v).running = s.running := by
  simp only [State.running, State.asleep, State.get_set_ne s (Ne.symm h), State.get_set_ne s (Ne.symm h')]

/-- The named fields are a footprint of theirs. -/
theorem Foot.fields_key {f : Field} {l : List Field} (h : f ∈ l) : (Foot.fields l).keys f.key := ⟨f, h, rfl⟩

/-- A register at another bit than the named fields. -/
theorem Foot.not_fields_key {f : Field} {l : List Field} (h : ∀ x ∈ l, f.key ≠ x.key) : ¬ (Foot.fields l).keys f.key :=
  fun ⟨x, hx, e⟩ => h x hx e

/-- A field that was set holds the value modulo its width. -/
theorem State.get_set_width {w : Nat} (s : State) {f : Field} (hw : f.width = w) (v : Nat) : (s.set f v).get f = v % 2 ^ w := by
  rw [State.get_set_self, hw]

/-! Halts. -/

/-- The named fields, and an event that waits for its record (R477). -/
def Foot.noted (l : List Field) : Foot := Foot.or (Foot.fields l) (Foot.of (fun _ => False) [] [.faultDue])

theorem Foot.noted_key {f : Field} {l : List Field} (h : f ∈ l) : (Foot.noted l).keys f.key := .inl (Foot.fields_key h)

theorem noteHere_within {F : Foot} (h : F.parts .faultDue) (cls source graph detail : Nat) : (noteHere cls source graph detail).Within F :=
  .ask fun _ => .ask fun _ => .part .faultDue rfl h

theorem idleRefresh_within {F : Foot} {g : Nat} (h : F.keys (GLB_STEP_STATE_IDLE g).key) : (idleRefresh g).Within F := .ask fun _ => .set h

/-- IDLE = 1 where no firing of the graph is in progress (R181). -/
theorem get_idle_idleRefresh (g : Nat) (s : State) : ((idleRefresh g).run s).get (GLB_STEP_STATE_IDLE g) = 1 ↔
    (∀ v ∈ s.vecs, v.graph ≠ g) ∧ ∀ d ∈ s.desks, deskGraph d.alt.op ≠ g := by
  have bit (b : Bool) : b2n b % 2 ^ 1 = 1 ↔ b = true := by cases b <;> decide
  rw [idleRefresh, Act.run_ask, Act.run_set, State.get_set_self]
  exact (bit _).trans (by simp)

/-- A halt of a graph reaches HALTED and IDLE, and its event (R181, R477). -/
theorem haltGraph_within (g cause src : Nat) :
    (haltGraph g cause src).Within (Foot.noted [GLB_STEP_STATE_HALTED g, GLB_STEP_STATE_IDLE g]) :=
  .ask fun _ => .cons (.set (Foot.noted_key (by simp))) (.cons (idleRefresh_within (Foot.noted_key (by simp)))
    (.cons (.when (noteHere_within (by simp [Foot.noted, Foot.or, Foot.of]) _ _ _ _)) .nil))

/-- A halt sets HALTED, brings IDLE up to date, and is an event where the graph ran. -/
theorem haltGraph_run (g cause src : Nat) (s : State) : (haltGraph g cause src).run s =
    (Act.when (s.get (GLB_STEP_STATE_HALTED g) = 0) (noteHere 11 0x1F0 g (cause + src <<< 4))).run
      ((idleRefresh g).run (s.set (GLB_STEP_STATE_HALTED g) 1)) := rfl

/-- The event of a halt changes no register. -/
theorem get_when_noteHere (c : Bool) (cls source graph detail : Nat) (f : Field) (s : State) :
    ((Act.when c (noteHere cls source graph detail)).run s).get f = s.get f := by
  have none : (Act.when c (noteHere cls source graph detail)).Within (Foot.of (fun _ => False) [] [.faultDue]) :=
    .when (noteHere_within (by simp [Foot.of]) _ _ _ _)
  exact (none s).regs f id

theorem get_halted_haltGraph (g cause src : Nat) (s : State) :
    ((haltGraph g cause src).run s).get (GLB_STEP_STATE_HALTED g) = 1 := by
  have idle : (idleRefresh g).Within (Foot.fields [GLB_STEP_STATE_IDLE g]) := idleRefresh_within (Foot.fields_key (by simp))
  rw [haltGraph_run, get_when_noteHere, (idle _).regs, State.get_set_self]
  · rfl
  · simp [Foot.fields, Foot.of, GLB_STEP_STATE_HALTED, GLB_STEP_STATE_IDLE]

theorem get_idle_haltGraph (g cause src : Nat) (s : State) : ((haltGraph g cause src).run s).get (GLB_STEP_STATE_IDLE g) = 1 ↔
    (∀ v ∈ s.vecs, v.graph ≠ g) ∧ ∀ d ∈ s.desks, deskGraph d.alt.op ≠ g := by
  rw [haltGraph_run, get_when_noteHere, get_idle_idleRefresh, State.set_vecs, State.set_desks]

/-- The halt of a graph that ran is an event of this chip (R477). -/
theorem faultDue_haltGraph (g cause src : Nat) (s : State) : ((haltGraph g cause src).run s).faultDue = s.faultDue ++
    (if s.get (GLB_STEP_STATE_HALTED g) = 1 then [] else [⟨11, 0x1F0, s.chipId, g, cause + src <<< 4⟩]) := by
  have chip : ((idleRefresh g).run (s.set (GLB_STEP_STATE_HALTED g) 1)).chipId = s.chipId := by
    have kept := (haltGraph_within g cause src s).regs LNK_COORD_ACTIVE (by
      simp only [Foot.noted, Foot.or, Foot.fields, Foot.of, List.mem_cons, List.not_mem_nil, or_false, exists_eq_or_imp, exists_eq_left,
        LNK_COORD_ACTIVE, GLB_STEP_STATE_HALTED, GLB_STEP_STATE_IDLE]
      omega)
    rwa [haltGraph_run, get_when_noteHere] at kept
  rw [haltGraph_run]
  rcases s.get_bit (f := GLB_STEP_STATE_HALTED g) rfl with h | h
  · simp only [h, decide_true, Act.run_when, if_true, noteHere, noteFault, Act.run_ask, Act.run_upd, Upd.faultDue_apply, chip]
    rfl
  · simp only [h]
    exact (List.append_nil _).symm

theorem exec_stepHalt {s : State} (hs : s.running = true) (g : Graph) :
    exec (.stepHalt g) s = .next ((haltGraph g.val haltHost (s.get (GLB_STEP_FLAGS_LAST_SRC g))).run s) := live_eq hs

/-! Resume. -/

theorem exec_resume {s : State} (hs : s.running = true) (g : Graph) : exec (.resume g) s = .next ((resume g.val).run s) := live_eq hs

/-- A resume of a graph for which no attempt waits clears HALTED alone. -/
theorem resume_alone {g : Nat} {s : State} (h : ¬ (s.get (GLB_STEP_STATE_HALTED g) = 1 ∧ s.rd .commitDue g = 1)) :
    (resume g).run s = s.set (GLB_STEP_STATE_HALTED g) 0 := by
  simp [resume, h]

/-- A resume with an attempt waiting starts it where COMMIT_MLS is still reached, and otherwise drops it (R506). -/
theorem resume_attempt {g : Nat} {s : State} (hh : s.get (GLB_STEP_STATE_HALTED g) = 1) (hd : s.rd .commitDue g = 1) :
    (resume g).run s = (if s.get (MLS_STATUS_REACHED (s.get (GLB_STEP_GROUP_COMMIT_MLS g))) = 1 then commitAttempt g
      else .put .commitDue g 0).run (s.set (GLB_STEP_STATE_HALTED g) 0) := by
  simp [resume, hh, hd]

theorem exec_commitAttempt {s : State} (hs : s.running = true) (g : Graph) :
    exec (.commitAttempt g) s = .next ((commitAttempt g.val).run s) := live_eq hs

/-- The chip runs on when HALTED changes. -/
theorem running_set_halted {s : State} (hs : s.running = true) (g v : Nat) : (s.set (GLB_STEP_STATE_HALTED g) v).running = true := by
  rw [State.running_set _ _ _ v, hs] <;>
    simp only [PWR_STATE_STATUS_STATE, GLB_BOOT_STATUS_FAIL, GLB_STEP_STATE_HALTED] <;> omega

/-! Rollback, forced failure and step number. -/

/-- When a ROLLBACK is acted on (R184): the graph is halted and idle after a PASS, with nothing written since, outside a commit. -/
def State.mayRollBack (s : State) (g : Nat) : Prop :=
  s.get (GLB_STEP_STATE_HALTED g) = 1 ∧ s.get (GLB_STEP_STATE_IDLE g) = 1 ∧ s.get (GLB_STEP_STATE_LAST_OUTCOME g) = outPass ∧
    s.get (GLB_STEP_STATE_NEXT_DIRTY g) = 0 ∧ s.get (GLB_STEP_STATE_IN_COMMIT g) = 0

theorem exec_rollback {s : State} (hs : s.running = true) (g : Graph) : exec (.rollback g) s = .next ((rollback g.val).run s) := live_eq hs

/-- The fields that a rollback writes lie apart. -/
theorem rollback_keys_ne (g : Nat) : (GLB_STEP_NUM_STEP g).key ≠ (GLB_STEP_STATE_CUR_HALF g).key ∧
    (GLB_STEP_STATE_LAST_OUTCOME g).key ≠ (GLB_STEP_STATE_CUR_HALF g).key ∧
    (GLB_STEP_STATE_LAST_OUTCOME g).key ≠ (GLB_STEP_NUM_STEP g).key := by
  simp only [GLB_STEP_NUM_STEP, GLB_STEP_STATE_CUR_HALF, GLB_STEP_STATE_LAST_OUTCOME]
  omega

/-- A field set, another modified, a third set. -/
theorem run_set_modify_set {a b : Field} (h : a.key ≠ b.key) (c : Field) (x y : Nat) (f : Nat → Nat) (s : State) :
    (Act.all [.set a x, .modify b f, .set c y]).run s = ((s.set a x).set b (f (s.get b))).set c y := by
  simp [State.get_set_ne s h]

/-- Where it is acted on, a ROLLBACK flips CUR_HALF, takes the step number back and sets LAST_OUTCOME (R184). -/
theorem rollback_taken {g : Nat} {s : State} (h : s.mayRollBack g) : (rollback g).run s =
    (Act.all [.set (GLB_STEP_STATE_CUR_HALF g) (1 - s.get (GLB_STEP_STATE_CUR_HALF g)),
      .modify (GLB_STEP_NUM_STEP g) (fun x => x + 2 ^ 32 - 1), .set (GLB_STEP_STATE_LAST_OUTCOME g) outRollback]).run s := by
  obtain ⟨hh, hi, hp, hn, hc⟩ := h
  rw [rollback, Act.run_ask, if_pos (by simp [hh, hi, hp, hn, hc])]

/-- Otherwise it is discarded, and RB_REFUSED is set (R184). -/
theorem rollback_refused {g : Nat} {s : State} (h : ¬ s.mayRollBack g) :
    (rollback g).run s = s.set (GLB_STEP_STATE_RB_REFUSED g) 1 := by
  unfold State.mayRollBack at h
  rw [rollback, Act.run_ask, if_neg (by simpa [and_assoc] using h), Act.run_set]

theorem rollback_taken_frame {g : Nat} {s : State} (h : s.mayRollBack g) :
    Frame (Foot.fields [GLB_STEP_STATE_CUR_HALF g, GLB_STEP_NUM_STEP g, GLB_STEP_STATE_LAST_OUTCOME g]) s ((rollback g).run s) := by
  rw [rollback_taken h]
  exact Act.Within.cons (.set (Foot.fields_key (by simp))) (.cons (.modify (Foot.fields_key (by simp)))
    (.cons (.set (Foot.fields_key (by simp))) .nil)) s

theorem get_rollback {g : Nat} {s : State} (h : s.mayRollBack g) :
    ((rollback g).run s).get (GLB_STEP_STATE_CUR_HALF g) = 1 - s.get (GLB_STEP_STATE_CUR_HALF g) ∧
    ((rollback g).run s).get (GLB_STEP_NUM_STEP g) = (s.get (GLB_STEP_NUM_STEP g) + 2 ^ 32 - 1) % 2 ^ 32 ∧
    ((rollback g).run s).get (GLB_STEP_STATE_LAST_OUTCOME g) = outRollback := by
  obtain ⟨hnh, hoh, hon⟩ := rollback_keys_ne g
  rw [rollback_taken h, run_set_modify_set hnh.symm _ _ _ (fun x => x + 2 ^ 32 - 1) s]
  refine ⟨?_, ?_, State.get_set_width _ (w := 3) rfl _⟩
  · rw [State.get_set_ne _ hoh, State.get_set_ne _ hnh, State.get_set_width _ (w := 1) rfl]
    omega
  · rw [State.get_set_ne _ hon, State.get_set_width _ (w := 32) rfl]

theorem exec_forceFail {s : State} (hs : s.running = true) (g : Graph) : exec (.forceFail g) s = .next ((raiseSource g.val 9).run s) :=
  live_eq hs

/-- A forced failure raises source 9, of class MISMATCH (R177). -/
theorem raiseSource_forced (g : Nat) (s : State) : (raiseSource g 9).run s =
    (s.set (GLB_STEP_FLAGS_SRC g) (s.get (GLB_STEP_FLAGS_SRC g) ||| 2 ^ 9)).set (GLB_STEP_FLAGS_LOCAL g)
      (s.get (GLB_STEP_FLAGS_LOCAL g) ||| 4) := rfl

/-- It stands in SRC and LOCAL, beside what stood there. -/
theorem get_raiseSource_forced (g : Nat) (s : State) :
    ((raiseSource g 9).run s).get (GLB_STEP_FLAGS_SRC g) = s.get (GLB_STEP_FLAGS_SRC g) ||| 2 ^ 9 ∧
    ((raiseSource g 9).run s).get (GLB_STEP_FLAGS_LOCAL g) = s.get (GLB_STEP_FLAGS_LOCAL g) ||| 4 := by
  have apart : (GLB_STEP_FLAGS_LOCAL g).key ≠ (GLB_STEP_FLAGS_SRC g).key := by
    simp only [GLB_STEP_FLAGS_LOCAL, GLB_STEP_FLAGS_SRC]
    omega
  rw [raiseSource_forced, State.get_set_ne _ apart, State.get_set_width (w := 12) _ rfl, State.get_set_width (w := 4) _ rfl]
  exact ⟨Nat.mod_eq_of_lt (Nat.or_lt_two_pow (s.get_lt _) (by decide)), Nat.mod_eq_of_lt (Nat.or_lt_two_pow (s.get_lt _) (by decide))⟩

theorem raiseSource_forced_frame (g : Nat) (s : State) :
    Frame (Foot.fields [GLB_STEP_FLAGS_SRC g, GLB_STEP_FLAGS_LOCAL g]) s ((raiseSource g 9).run s) := by
  rw [raiseSource_forced]
  exact (Frame.set _ _ _ _ (Foot.fields_key (by simp))).trans (Frame.set _ _ _ _ (Foot.fields_key (by simp)))

theorem exec_stepNumWrite {s : State} (hs : s.running = true) (g : Graph) (v : BitVec 32) :
    exec (.stepNumWrite g v) s = .next ((stepNumWrite g.val v.toNat).run s) := live_eq hs

/-- The step number of a halted and idle graph, or of one without step transactions, may be written (R185). -/
theorem stepNumWrite_taken {g : Nat} {s : State} (h : (s.get (GLB_STEP_STATE_HALTED g) = 1 ∧ s.get (GLB_STEP_STATE_IDLE g) = 1) ∨
    s.get (GLB_STEP_CFG_ENABLE g) = 0) (v : Nat) : (stepNumWrite g v).run s = s.set (GLB_STEP_NUM_STEP g) v := by
  rw [stepNumWrite, Act.run_ask, Act.run_when, if_pos (by simpa using h), Act.run_set]

/-- A write to that of another graph does nothing (R185). -/
theorem stepNumWrite_ignored {g : Nat} {s : State} (h : ¬ (s.get (GLB_STEP_STATE_HALTED g) = 1 ∧ s.get (GLB_STEP_STATE_IDLE g) = 1))
    (he : s.get (GLB_STEP_CFG_ENABLE g) = 1) (v : Nat) : (stepNumWrite g v).run s = s := by
  rw [stepNumWrite, Act.run_ask, Act.run_when, if_neg (by simpa [he] using h)]

/-! Rewind requests. -/

theorem exec_rewind {s : State} (hs : s.running = true) (g : Graph) (outcome : Bool) :
    exec (.rewind g outcome) s = .next ((rewindRequest g.val outcome).run s) := live_eq hs

/-- When a REWIND is acted on (R485, R488). -/
def State.mayRewind (s : State) (g : Nat) (outcome : Bool) : Prop :=
  s.get (GLB_STEP_STATE_HALTED g) = 1 ∧ s.get (GLB_STEP_STATE_IDLE g) = 1 ∧ s.get (GLB_STEP_CFG_ENABLE g) = 1 ∧
    s.get CNT_RECOV_STATUS_BUSY = 0 ∧ outcome = false

theorem rewindRequest_taken {g : Nat} {outcome : Bool} {s : State} (h : s.mayRewind g outcome) :
    (rewindRequest g outcome).run s = (s.wr .draining g 1).set CNT_RECOV_STATUS_BUSY 1 := by
  obtain ⟨hh, hi, he, hb, ho⟩ := h
  simp [rewindRequest, beginDrain, hh, hi, he, hb, ho]

theorem rewindRequest_refused {g : Nat} {outcome : Bool} {s : State} (h : ¬ s.mayRewind g outcome) :
    (rewindRequest g outcome).run s = s.set CNT_RECOV_STATUS_REFUSED 1 := by
  unfold State.mayRewind at h
  simp [rewindRequest, and_assoc, h]

end Sys2Proof.Machine
end

section
/-!
SUPPORT. The return of a graph to its attempt mark (R484): what each part of a rewind reaches, and what streams, instances, firings and
step registers are after it.
-/

namespace Sys2Proof.Machine

open Reg

/-! The mark. -/

/-- The mark of a graph; without one, a mark of nothing. -/
def State.markFor (s : State) (g : Nat) : Mark := (s.marks.find? fun m => m.graph = g).getD ⟨g, [], [], [], []⟩

/-- The numbers of a mark are those of streams, milestones, descriptors and stations, and no stream stands in it twice. -/
structure Mark.Fits (m : Mark) : Prop where
  streams : ∀ q ∈ m.streams, q.1 < 2 ^ 18
  mls : ∀ q ∈ m.mls, q.1 < 2 ^ 16
  descs : ∀ q ∈ m.descs, q.1 < 4096
  steps : ∀ q ∈ m.steps, isStation q.1 = true
  nodup : (m.streams.map (·.1)).Nodup

theorem State.markFor_fits {s : State} {g : Nat} (h : ∀ m, (s.marks.find? fun m => m.graph = g) = some m → m.Fits) :
    (s.markFor g).Fits := by
  unfold State.markFor
  cases e : s.marks.find? fun m => m.graph = g with
  | none => exact ⟨by simp, by simp, by simp, by simp, by simp⟩
  | some m => exact h m e

theorem State.markFor_eq {s : State} {g : Nat} {m : Mark} (h : (s.marks.find? fun m => m.graph = g) = some m) : s.markFor g = m := by
  rw [State.markFor, h, Option.getD_some]

/-! The parts of a rewind. -/

theorem Act.run_all_append (l k : List Act) (s : State) : (Act.all (l ++ k)).run s = (Act.all k).run ((Act.all l).run s) := by
  induction l generalizing s with
  | nil => rfl
  | cons a l ih => exact ih (a.run s)

/-- The descriptors return to their instances, the streams and milestones to their counts, the stations to their steps. -/
def Mark.toDescs (m : Mark) : Act := .each m.descs fun d => .set (VSY_DESC_INST d.1) d.2
def Mark.toStreams (m : Mark) : Act := .each m.streams rewindStream
def Mark.toMls (m : Mark) : Act := .each m.mls fun y =>
  .all [.set (MLS_ENTRY_COUNT y.1) y.2.1, .set (MLS_ENTRY_TARGET y.1) y.2.2, .set (MLS_STATUS_CODE y.1) 0, mlsRefresh y.1]
def Mark.toSteps (m : Mark) : Act :=
  .seq (.each m.steps fun p => clearLeft p.1) (.each m.steps fun p => setStepIdx p.1 p.2.1 p.2.2)

/-- BUSY of the recovery registers: some graph drains (R485). -/
def recovBusy : Act := .ask fun t => .set CNT_RECOV_STATUS_BUSY (b2n ((List.range 8).any fun h => t.rd .draining h ≠ 0))

/-- What a rewind does after the mark: the attempt begins anew, and the drain is over. -/
def rewindClose (g : Nat) : Act :=
  .all [.set (GLB_STEP_STATE_NEXT_DIRTY g) 0, .set (GLB_STEP_FLAGS_LOCAL g) 0, .set (GLB_STEP_FLAGS_SRC g) 0, clearOrdinals g,
    .put .commitDue g 0, .put .draining g 0, .modify CNT_RECOV_STATUS_REWINDS (· + 1), recovBusy]

/-- A rewind before its close: firings and instances end, and what a mark holds returns to it. -/
def returnTo (g : Nat) (m : Mark) : Act := .all [dropFirings g, cancelInsts g, m.toDescs, m.toStreams, m.toMls, m.toSteps]

/-- A rewind returns the graph to its mark, and closes. -/
theorem rewindNow_run (g : Nat) (s : State) : (rewindNow g).run s = (rewindClose g).run ((returnTo g (s.markFor g)).run s) := by
  rw [rewindNow, Act.run_ask, State.markFor]
  refine (Act.run_all_append [dropFirings g, cancelInsts g, _] _ s).trans (congrArg (rewindClose g).run ?_)
  cases s.marks.find? fun m => m.graph = g with
  | none => simp [returnTo, Mark.toDescs, Mark.toStreams, Mark.toMls, Mark.toSteps]
  | some m => simp [returnTo, Mark.toDescs, Mark.toStreams, Mark.toMls, Mark.toSteps]

/-! What they reach. -/

/-- What the end of a graph's firings reaches. -/
def Foot.firings (g : Nat) : Foot :=
  Foot.of (fun k => deskKeys k ∨ (∃ c < 36, stationKeys (8 * c + 4) k ∨ stationKeys (8 * c + 7) k) ∨ k = (GLB_STEP_STATE_IDLE g).key) []
    [.vecs, .desks]

theorem dropFirings_within (g : Nat) : (dropFirings g).Within (Foot.firings g) := by
  have station {e : Nat} (h : ∀ k, stationKeys e k → (Foot.firings g).keys k) : (stnRefresh e).Within (Foot.firings g) :=
    .ask fun _ => .cons (.set (h _ (by simp only [stationKeys, inBytes, STN_STATUS_BUSY]; omega)))
      (.cons (.set (h _ (by simp only [stationKeys, inBytes, STN_STATUS_QUIESCED]; omega))) .nil)
  refine .ask fun s => .cons (.part .vecs rfl (by simp [Foot.firings, Foot.of])) (.cons (.each fun d => .set (.inl ⟨_, d.cluster.isLt, ?_⟩))
    (.cons (.part .desks rfl (by simp [Foot.firings, Foot.of])) (.cons (.each_mem fun e he => station fun k hk => ?_)
      (.cons (idleRefresh_within (.inr (.inr rfl))) .nil))))
  · simp only [inBytes, CLU_DESK_STATE_RUN]; omega
  · simp only [List.mem_flatMap, List.mem_range, List.mem_cons, List.not_mem_nil, or_false] at he
    obtain ⟨c, hc, rfl | rfl⟩ := he
    · exact .inr (.inl ⟨c, hc, .inl hk⟩)
    · exact .inr (.inl ⟨c, hc, .inr hk⟩)

/-- What the end of a graph's instances reaches. -/
def Foot.cancelled : Foot :=
  Foot.of (inBytes 0x02280000 0x022C0000) [] [.waitMsgs, .vsyCells, .insts, .exacts, .earlyAborts, .takenCounts, .egress]

theorem releaseMsg_within (m : PieceMsg) : (releaseMsg m).Within Foot.cancelled :=
  .ask fun _ => .when (.seq (.part .takenCounts rfl (by simp [Foot.cancelled, Foot.of]))
    (.ask fun _ => .when (.part .egress rfl (by simp [Foot.cancelled, Foot.of]))))

/-- A listed element is one of the array. -/
theorem State.mem_listed {s : State} {f : Field} {stride count n : Nat} (h : n ∈ s.listed f stride count) : n < count := by
  unfold State.listed at h
  obtain ⟨p, -, e⟩ := List.mem_filterMap.1 h
  split at e
  · rename_i c
    simp only [Bool.and_eq_true, decide_eq_true_eq] at c
    cases e
    exact c.2
  · cases e

theorem State.mem_graphDescs {s : State} {g t : Nat} (h : t ∈ s.graphDescs g) : t < 4096 := State.mem_listed (List.mem_filter.1 h).1

theorem cancelInsts_within (g : Nat) : (cancelInsts g).Within Foot.cancelled := by
  have part {u : Upd} (p : Part) (h : u.part? = some p)
      (hp : p ∈ ([.waitMsgs, .vsyCells, .insts, .exacts, .earlyAborts, .takenCounts, .egress] : List Part)) :
      (Act.upd u).Within Foot.cancelled := .part p h hp
  refine .ask fun s => .cons (.each fun m => releaseMsg_within m) (.cons (.ask fun _ => part .waitMsgs rfl (by simp))
    (.cons (part .vsyCells rfl (by simp)) (.cons (part .insts rfl (by simp)) (.cons (part .exacts rfl (by simp))
      (.cons (part .earlyAborts rfl (by simp)) (.cons (.each_mem fun t ht => .set ?_) .nil))))))
  have := State.mem_graphDescs ht
  simp only [Foot.cancelled, Foot.of, inBytes, VSY_DESC_STATE]
  omega

theorem Mark.toDescs_within {m : Mark} (hm : m.Fits) : m.toDescs.Within (Foot.of (inBytes 0x02280000 0x022C0000) [] []) := by
  refine .each_mem fun d hd => .set ?_
  have := hm.descs d hd
  simp only [Foot.of, inBytes, VSY_DESC_INST]
  omega

/-- What the return of streams to their mark reaches. -/
def Foot.streams (ns : List Nat) : Foot :=
  Foot.of (fun k => ∃ n ∈ ns, ctxKeys n k) [.rxSeq, .begun, .consumedSince, .tilesSince] [.slots]

theorem rewindStream_within {ns : List Nat} {q : Nat × Nat × Nat × Nat} (hq : q.1 ∈ ns) : (rewindStream q).Within (Foot.streams ns) := by
  have set (f : Field) (v : Nat) (h : ctxKeys q.1 f.key) : (Act.set f v).Within (Foot.streams ns) := .set ⟨_, hq, h⟩
  have put (b : Bank) (k v : Nat) (h : b ∈ ([.rxSeq, .begun, .consumedSince, .tilesSince] : List Bank)) :
      (Act.put b k v).Within (Foot.streams ns) := .put h
  refine .ask fun s => .cons (.part .slots rfl (by simp [Foot.streams, Foot.of])) (.cons (set _ _ ?_) (.cons (set _ _ ?_)
    (.cons (put _ _ _ (by simp)) (.cons (put _ _ _ (by simp)) (.cons (put _ _ _ (by simp)) (.cons (put _ _ _ (by simp))
      (.cons (.when (set _ _ ?_)) (.cons (set _ _ ?_) (.cons (set _ _ ?_) (.cons (set _ _ ?_) (.cons (set _ _ ?_)
        (.cons (set _ _ ?_) .nil))))))))))))
  all_goals
    simp only [ctxKeys, inBytes, STR_NEXT_SEQ, STR_TILES_DONE, STR_CREDITS, STR_LOST, STR_STALLED, STR_SIG_MISMATCH, STR_ABORTED,
      STR_BAD_HEADER]
    omega

theorem Mark.toStreams_within (m : Mark) : m.toStreams.Within (Foot.streams (m.streams.map (·.1))) :=
  .each_mem fun _ hq => rewindStream_within (List.mem_map_of_mem hq)

theorem Mark.toMls_within {m : Mark} (hm : m.Fits) : m.toMls.Within (Foot.milestone []) := by
  refine .each_mem fun y hy => ?_
  have hlt := hm.mls y hy
  refine .cons (.set (.inr (.inl ?_))) (.cons (.set (.inr (.inl ?_))) (.cons (.set (.inr (.inl ?_))) (.cons (mlsRefresh_within _ hlt) .nil)))
  all_goals
    simp only [mlsKeys, inBytes, MLS_ENTRY_COUNT, MLS_ENTRY_TARGET, MLS_STATUS_CODE]
    omega

/-- The residual counts of a station, with the step of the second half of a split bench. -/
def residueKeys (e k : Nat) : Prop :=
  k = (CLU_BENCH_LEFT_L_ROWS (e / 8) (e % 8)).key ∨ k = (CLU_BENCH_LEFT_H_ROWS (e / 8) (e % 8)).key ∨
    k = (CLU_BENCH_HSTATUS_STEP_IDX_H (e / 8) (e % 8)).key ∨ k = (CLU_DRW_LEFT_RECORDS (e / 8)).key ∨
    k = (SHF_LEFT_RECORDS (e - 0x130)).key ∨ k = CHS_LEFT_RECORDS.key

/-- What the return of stations to their mark reaches. -/
def Foot.stations (es : List Nat) : Foot := Foot.of (fun k => ∃ e ∈ es, stationKeys e k ∨ residueKeys e k) [.runAlt, .streamRow] []

theorem clearLeft_within {es : List Nat} {e : Nat} (he : e ∈ es) : (clearLeft e).Within (Foot.stations es) := by
  have set (f : Field) (h : residueKeys e f.key) : (Act.set f 0).Within (Foot.stations es) := .set ⟨e, he, .inr h⟩
  have put (b : Bank) (k : Nat) (h : b ∈ ([.runAlt, .streamRow] : List Bank)) : (Act.put b k 0).Within (Foot.stations es) := .put h
  refine .seq (.each fun _ => put _ _ (by simp)) (.ite (.ite (.cons (set _ (by simp [residueKeys])) (.cons (set _ (by simp [residueKeys]))
    (.cons (put _ _ (by simp)) (.cons (put _ _ (by simp)) (.cons (set _ (by simp [residueKeys])) .nil)))))
      (.ite (set _ (by simp [residueKeys])) .skip)) (.ite (set _ (by simp [residueKeys])) (.ite (set _ (by simp [residueKeys])) .skip)))

theorem setStepIdx_within {es : List Nat} {e : Nat} (he : e ∈ es) (part i : Nat) : (setStepIdx e part i).Within (Foot.stations es) := by
  refine .ite (.set ⟨e, he, .inr (by simp [residueKeys])⟩) (.set ⟨e, he, .inl ?_⟩)
  simp only [stationKeys, inBytes, STN_STATUS_STEP_IDX]
  omega

theorem Mark.toSteps_within (m : Mark) : m.toSteps.Within (Foot.stations (m.steps.map (·.1))) :=
  .seq (.each_mem fun _ hp => clearLeft_within (List.mem_map_of_mem hp))
    (.each_mem fun _ hp => setStepIdx_within (List.mem_map_of_mem hp) _ _)

theorem clearOrdinals_within {F : Foot} (h : ∀ k, F.cells .stepTile k ∧ F.cells .vecOrd k) (g : Nat) : (clearOrdinals g).Within F :=
  .ask fun _ => .seq (.each fun _ => .put (h _).1) (.each fun _ => .put (h _).2)

theorem recovBusy_within {F : Foot} (h : F.keys CNT_RECOV_STATUS_BUSY.key) : recovBusy.Within F := .ask fun _ => .set h

/-- What the close of a rewind reaches. -/
def Foot.rewindClose (g : Nat) : Foot :=
  Foot.of (fun k => k ∈ [(GLB_STEP_STATE_NEXT_DIRTY g).key, (GLB_STEP_FLAGS_LOCAL g).key, (GLB_STEP_FLAGS_SRC g).key,
    CNT_RECOV_STATUS_REWINDS.key, CNT_RECOV_STATUS_BUSY.key]) [.stepTile, .vecOrd, .commitDue, .draining] []

theorem rewindClose_within (g : Nat) : (rewindClose g).Within (Foot.rewindClose g) := by
  have cells : ∀ k, (Foot.rewindClose g).cells .stepTile k ∧ (Foot.rewindClose g).cells .vecOrd k := by simp [Foot.rewindClose, Foot.of]
  have put (b : Bank) (h : b ∈ ([.stepTile, .vecOrd, .commitDue, .draining] : List Bank)) :
      (Act.put b g 0).Within (Foot.rewindClose g) := .put h
  have key (f : Field) (h : f ∈ [GLB_STEP_STATE_NEXT_DIRTY g, GLB_STEP_FLAGS_LOCAL g, GLB_STEP_FLAGS_SRC g, CNT_RECOV_STATUS_REWINDS,
      CNT_RECOV_STATUS_BUSY]) : (Foot.rewindClose g).keys f.key := List.mem_map_of_mem (f := Field.key) h
  exact .cons (.set (key _ (by simp))) (.cons (.set (key _ (by simp))) (.cons (.set (key _ (by simp))) (.cons (clearOrdinals_within cells g)
    (.cons (put _ (by simp)) (.cons (put _ (by simp)) (.cons (.modify (key _ (by simp))) (.cons (recovBusy_within (key _ (by simp)))
      .nil)))))))

/-- What the return of a graph to a mark reaches. -/
def Foot.returnTo (g : Nat) (m : Mark) : Foot :=
  Foot.or (Foot.or (Foot.firings g) Foot.cancelled)
    (Foot.or (Foot.streams (m.streams.map (·.1))) (Foot.or (Foot.milestone []) (Foot.stations (m.steps.map (·.1)))))

/-- What a rewind of a graph to a mark reaches. -/
def Foot.rewind (g : Nat) (m : Mark) : Foot := Foot.or (Foot.returnTo g m) (Foot.rewindClose g)

theorem returnTo_within {m : Mark} (hm : m.Fits) (g : Nat) : (returnTo g m).Within (Foot.returnTo g m) := by
  have descs : m.toDescs.Within Foot.cancelled :=
    (Mark.toDescs_within hm).mono (fun _ => id) (fun _ _ h => by cases h) (fun _ => id) (fun _ h => by cases h)
  exact .cons (dropFirings_within g).left.left (.cons (cancelInsts_within g).right.left (.cons descs.right.left
    (.cons m.toStreams_within.left.right (.cons (Mark.toMls_within hm).left.right.right (.cons m.toSteps_within.right.right.right .nil)))))

/-- A rewind stays within the graph's firings, instances and mark (R484). -/
theorem rewindNow_frame {g : Nat} {s : State} (hm : (s.markFor g).Fits) : Frame (Foot.rewind g (s.markFor g)) s ((rewindNow g).run s) := by
  rw [rewindNow_run]
  exact ((returnTo_within hm g).left s).trans ((rewindClose_within g).right _)

/-! What a rewind leaves. -/

/-- The control page of a station is above the tables of a step's graph and below the milestones. -/
theorem stnPage_bounds {e : Nat} (h : isStation e = true) : 0x00F00000 ≤ stnPage e ∧ stnPage e < 0x02410000 := by
  refine ⟨le_stnPage e, ?_⟩
  simp only [isStation, Bool.or_eq_true, Bool.and_eq_true, decide_eq_true_eq] at h
  unfold stnPage
  repeat' split
  all_goals omega

theorem isStation_lt {e : Nat} (h : isStation e = true) : e < 0x190 := by
  simp only [isStation, Bool.or_eq_true, Bool.and_eq_true, decide_eq_true_eq] at h
  omega

/-- A register between those of the graphs' steps and the stream contexts, and none of the counters and the recovery. -/
def middleKeys (k : Nat) : Prop := 0x00100000 * 8 ≤ k ∧ k < 0x03000000 * 8 ∧ ¬ inBytes 0x02500000 0x02600000 k

theorem Foot.milestone_keys {k : Nat} (h : (Foot.milestone []).keys k) : middleKeys k := by
  rcases h with (h | h) | h | ⟨c, hc, h⟩ | ⟨n, hn, -⟩
  · simp only [middleKeys, inBytes] at h ⊢; omega
  · simp only [middleKeys, inBytes] at h ⊢; omega
  · simp only [middleKeys, mlsKeys, inBytes] at h ⊢; omega
  · simp only [middleKeys, inBytes] at h ⊢; omega
  · cases hn

theorem stationKeys_middle {e k : Nat} (he : isStation e = true) (h : stationKeys e k) : middleKeys k := by
  have := stnPage_bounds he
  simp only [middleKeys, stationKeys, inBytes] at h ⊢
  omega

theorem Foot.stations_keys {es : List Nat} (hes : ∀ e ∈ es, isStation e = true) {k : Nat} (h : (Foot.stations es).keys k) : middleKeys k := by
  obtain ⟨e, he, h | h⟩ := h
  · exact stationKeys_middle (hes e he) h
  · have := isStation_lt (hes e he)
    simp only [middleKeys, residueKeys, inBytes, CLU_BENCH_LEFT_L_ROWS, CLU_BENCH_LEFT_H_ROWS, CLU_BENCH_HSTATUS_STEP_IDX_H,
      CLU_DRW_LEFT_RECORDS, SHF_LEFT_RECORDS, CHS_LEFT_RECORDS] at h ⊢
    omega

theorem Foot.firings_keys {g k : Nat} (h : (Foot.firings g).keys k) : k = (GLB_STEP_STATE_IDLE g).key ∨ middleKeys k := by
  have cluster {e : Nat} (he : e < 0x120) : isStation e = true := by simp [isStation]; omega
  rcases h with ⟨c, hc, h⟩ | ⟨c, hc, h | h⟩ | h
  · right; simp only [middleKeys, inBytes] at h ⊢; omega
  · exact .inr (stationKeys_middle (cluster (by omega)) h)
  · exact .inr (stationKeys_middle (cluster (by omega)) h)
  · exact .inl h

theorem Mark.Fits.stations {m : Mark} (hm : m.Fits) : ∀ e ∈ m.steps.map (·.1), isStation e = true := by
  intro e he
  obtain ⟨q, hq, rfl⟩ := List.mem_map.1 he
  exact hm.steps q hq

/-- The return to a mark reaches IDLE, and else no register below those of the host and no recovery register. -/
theorem Foot.returnTo_keys {g : Nat} {m : Mark} (hm : m.Fits) {k : Nat} (h : (Foot.returnTo g m).keys k) :
    k = (GLB_STEP_STATE_IDLE g).key ∨ (0x00100000 * 8 ≤ k ∧ ¬ inBytes 0x02500000 0x02600000 k) := by
  have middle (h : middleKeys k) : 0x00100000 * 8 ≤ k ∧ ¬ inBytes 0x02500000 0x02600000 k := ⟨h.1, h.2.2⟩
  rcases h with (h | h) | ⟨n, -, h⟩ | h | h
  · exact (Foot.firings_keys h).imp_right middle
  · right; simp only [Foot.cancelled, Foot.of, inBytes] at h ⊢; omega
  · right; simp only [ctxKeys, inBytes] at h ⊢; omega
  · exact .inr (middle (Foot.milestone_keys h))
  · exact .inr (middle (Foot.stations_keys hm.stations h))

end Sys2Proof.Machine
end

section
/-!
SUPPORT. The graph after its rewind (R484): firings and instances are gone, streams stand at the mark, and the step registers are clear.
-/

namespace Sys2Proof.Machine

open Reg

/-! Firings and instances after a rewind. -/

/-- What every act of a list keeps, the list keeps. -/
theorem Act.each_keeps {α β : Type} {φ : State → β} {l : List α} {f : α → Act} (h : ∀ x ∈ l, ∀ s, φ ((f x).run s) = φ s) (s : State) :
    φ ((Act.each l f).run s) = φ s := by
  induction l generalizing s with
  | nil => rfl
  | cons x l ih =>
    rw [Act.run_each_cons, ih fun y hy => h y (List.mem_cons_of_mem x hy)]
    exact h x List.mem_cons_self s

theorem Upd.desks_set (v : List DeskFiring) (s : State) (f : Field) (x : Nat) :
    (Upd.desks v).apply (s.set f x) = ((Upd.desks v).apply s).set f x := rfl

/-- A graph's firings are gone, and the registers of clusters and of its steps show it; nothing else of the state differs. -/
theorem dropFirings_keeps {β : Type} {φ : State → β} {g : Nat} (hg : g < 8)
    (h : ∀ (t : State) (f : Field) (v : Nat), f.key < 0x02000000 * 8 → φ (t.set f v) = φ t) (s : State) :
    φ ((dropFirings g).run s) =
      φ { s with vecs := s.vecs.filter fun v => v.graph ≠ g, desks := s.desks.filter fun d => deskGraph d.alt.op ≠ g } := by
  have station (e : Nat) (he : e < 0x120) (t : State) : φ ((stnRefresh e).run t) = φ t := by
    have hpage : stnPage e < 0x01240000 := by
      rw [stnPage, if_pos he]
      omega
    have low {f : Field} (hf : f.key < (stnPage e + 8) * 8) : f.key < 0x02000000 * 8 := by omega
    exact (h _ _ _ (low (by simp only [STN_STATUS_QUIESCED]; omega))).trans (h _ _ _ (low (by simp only [STN_STATUS_BUSY]; omega)))
  have idle (t : State) : φ ((idleRefresh g).run t) = φ t := h _ _ _ (by simp only [GLB_STEP_STATE_IDLE]; omega)
  have stations (t : State) : φ ((Act.each ((List.range 36).flatMap fun c => [8 * c + 4, 8 * c + 7]) stnRefresh).run t) = φ t :=
    Act.each_keeps (fun e he t => station e (by
      simp only [List.mem_flatMap, List.mem_range, List.mem_cons, List.not_mem_nil, or_false] at he
      omega) t) t
  have desks (v l : List DeskFiring) (t : State) :
      φ ((Upd.desks v).apply ((Act.each l fun d => .set (CLU_DESK_STATE_RUN d.cluster.val) 0).run t)) = φ ((Upd.desks v).apply t) :=
    Act.each_keeps (φ := fun t => φ ((Upd.desks v).apply t)) (fun d _ t => by
      have hd := d.cluster.isLt
      simp only [Act.run_set, Upd.desks_set]
      exact h _ _ _ (by simp only [CLU_DESK_STATE_RUN]; omega)) t
  simp only [dropFirings, Act.run_ask, Act.run_all_cons, Act.run_all_nil, Act.run_upd, idle, stations, desks]
  rfl

/-- A register entry below an array's does not change which elements are listed. -/
theorem State.listed_set_low (s : State) {f f0 : Field} (h : f.key < f0.key) (v stride count : Nat) :
    (s.set f v).listed f0 stride count = s.listed f0 stride count := by
  have other (m : Map) (x d : Nat) (p : Nat × Nat → Option Nat) (hp : ∀ y, p (f.key, y) = none) :
      (m.put f.key x d).filterMap p = m.filterMap p := by
    unfold Map.put
    split
    · rw [Map.erase, List.filterMap_filter]
      refine congrArg (List.filterMap · m) (funext fun ⟨k, y⟩ => ?_)
      by_cases e : k = f.key
      · simp [e, hp]
      · simp [e]
    · induction m with
      | nil => simp [Map.insert, hp]
      | cons a t ih =>
        obtain ⟨k, y⟩ := a
        simp only [Map.insert]
        split
        · simp [List.filterMap_cons, hp]
        · split
          · rename_i e
            simp [hp, ← e]
          · simp [List.filterMap_cons, ih]
  exact other s.regs _ _ _ fun y => by simp [Nat.not_le_of_lt h]

theorem State.graphDescs_set_low (s : State) {f : Field} (h : f.key < 0x02000000 * 8) (v g : Nat) :
    (s.set f v).graphDescs g = s.graphDescs g := by
  have table {k : Nat} (hk : 0x02000000 * 8 ≤ k) : f.key ≠ k := by omega
  have group (t : Nat) : (s.set f v).descGraph t = s.descGraph t := by
    rw [State.descGraph, State.get_set_ne s (g := VSY_DESC_GROUP t) (table (by simp only [VSY_DESC_GROUP]; omega)),
      State.get_set_ne s (g := VSY_GROUP_GRAPH _) (table (by simp only [VSY_GROUP_GRAPH]; omega)), State.descGraph]
  have descs : (s.set f v).descs = s.descs := State.listed_set_low s (by simp only [VSY_DESC_VALID]; omega) v _ _
  simp only [State.graphDescs, descs, group]

theorem insts_cancelInsts (g : Nat) (s : State) :
    ((cancelInsts g).run s).insts = s.insts.filter fun x => !(s.graphDescs g).contains x.tag := by
  have states (t : State) : ((Act.each (s.graphDescs g) fun d => .set (VSY_DESC_STATE d) 0).run t).insts = t.insts :=
    Act.each_keeps (φ := State.insts) (fun _ _ _ => rfl) t
  simp [cancelInsts, states]

/-- A rise of a milestone ends waits of desks, and no firing. -/
theorem desks_releaseWaiters (m : Nat) (s : State) : ((releaseWaiters m).run s).desks.map (·.alt) = s.desks.map (·.alt) := by
  have hosts (l : List HostCmd) (st r : Nat) (t : State) : ((Act.each l fun c => finishCmd c st r).run t).desks = t.desks :=
    Act.each_keeps (φ := State.desks) (fun c _ t => (finishCmd_within c st r t).parts .desks (by simp [Foot.hostDone, Foot.of])) t
  simp only [releaseWaiters, Act.run_ask, Act.run_all_cons, Act.run_all_nil, hosts, Act.run_upd, Upd.desks_apply, List.map_map]
  refine List.map_congr_left fun d _ => ?_
  simp only [Function.comp_apply]
  split <;> rfl

theorem desks_mlsRefresh (m : Nat) (s : State) : ((mlsRefresh m).run s).desks.map (·.alt) = s.desks.map (·.alt) := by
  have due (l : List Nat) (t : State) : ((Act.each l fun g => .put .commitDue g 1).run t).desks = t.desks :=
    Act.each_keeps (φ := State.desks) (fun _ _ _ => State.wr_desks _ _ _ _) t
  have irq (c : Bool) (v : Nat) (hv : v < 256) (t : State) : ((Act.when c (signal v)).run t).desks = t.desks :=
    (Act.Within.when (signal_within v hv) t).parts .desks (by simp [Foot.hostDone, Foot.of])
  rw [mlsRefresh, Act.run_ask, Act.run_all_cons, Act.run_all_cons, Act.run_all_nil, Act.run_when]
  split
  · simp only [Act.run_all_cons, Act.run_all_nil]
    rw [due, desks_releaseWaiters, irq _ _ (s.get_lt _)]
    rfl
  · rfl

theorem desks_toMls (m : Mark) (s : State) : (m.toMls.run s).desks.map (·.alt) = s.desks.map (·.alt) :=
  Act.each_keeps (φ := fun t => t.desks.map (·.alt)) (fun y _ t => by simp [desks_mlsRefresh]) s

/-! Streams after a rewind. -/

/-- A stream stands where its mark says, without a stopping fault, and its slots are empty (R484). -/
structure StreamRewound (q : Nat × Nat × Nat × Nat) (t : State) : Prop where
  next : t.get (STR_NEXT_SEQ q.1) = q.2.1 % 2 ^ 32
  done : t.get (STR_TILES_DONE q.1) = q.2.2.1 % 2 ^ 32
  flows : t.stopped q.1 = false
  empty : ∀ x ∈ t.slots, x.stream ≠ q.1

/-- The stream stays so where its context stays and no tile comes. -/
theorem StreamRewound.keep {q : Nat × Nat × Nat × Nat} {s t : State} (h : StreamRewound q s)
    (hctx : ∀ f : Field, ctxKeys q.1 f.key → t.get f = s.get f) (hslots : t.slots ⊆ s.slots) : StreamRewound q t := by
  have ctx (f : Field) (lo : (0x03000000 + 0x40 * q.1) * 8 ≤ f.key) (hi : f.key < (0x03000040 + 0x40 * q.1) * 8) : t.get f = s.get f :=
    hctx f ⟨lo, hi⟩
  refine ⟨?_, ?_, ?_, fun x hx => h.empty x (hslots hx)⟩
  · rw [ctx, h.next] <;> simp only [STR_NEXT_SEQ] <;> omega
  · rw [ctx, h.done] <;> simp only [STR_TILES_DONE] <;> omega
  · rw [← h.flows]
    unfold State.stopped
    rw [ctx (STR_LOST q.1), ctx (STR_STALLED q.1), ctx (STR_SIG_MISMATCH q.1), ctx (STR_ABORTED q.1), ctx (STR_BAD_HEADER q.1)] <;>
      simp only [STR_LOST, STR_STALLED, STR_SIG_MISMATCH, STR_ABORTED, STR_BAD_HEADER] <;> omega

theorem slots_rewindStream (q : Nat × Nat × Nat × Nat) (s : State) :
    ((rewindStream q).run s).slots = s.slots.filter fun x => x.stream ≠ q.1 := by
  by_cases c : (s.get (STR_REMOTE q.1) = 0 || s.get (STR_SIDE q.1) = 0) = true <;> simp [rewindStream, c]

theorem rewindStream_rewound (q : Nat × Nat × Nat × Nat) (s : State) : StreamRewound q ((rewindStream q).run s) := by
  refine ⟨?_, ?_, ?_, by rw [slots_rewindStream]; simp⟩
  all_goals
    by_cases c : (s.get (STR_REMOTE q.1) = 0 || s.get (STR_SIDE q.1) = 0) = true <;>
      simp [rewindStream, c, State.stopped, State.get_set_ne, STR_NEXT_SEQ, STR_TILES_DONE, STR_CREDITS, STR_LOST, STR_STALLED,
        STR_SIG_MISMATCH, STR_ABORTED, STR_BAD_HEADER]

/-- Contexts of different streams share no register. -/
theorem ctxKeys_apart {n n' k : Nat} (h : ctxKeys n k) (h' : ctxKeys n' k) : n = n' := by
  simp only [ctxKeys, inBytes] at h h'
  omega

theorem slots_each_rewindStream (l : List (Nat × Nat × Nat × Nat)) (s : State) : ((Act.each l rewindStream).run s).slots ⊆ s.slots := by
  induction l generalizing s with
  | nil => exact fun _ h => h
  | cons q l ih =>
    rw [Act.run_each_cons]
    refine List.Subset.trans (ih _) ?_
    rw [slots_rewindStream]
    exact fun x hx => (List.mem_filter.1 hx).1

/-- Among streams that stand in a mark once, each returns to its mark. -/
theorem each_rewindStream_rewound {l : List (Nat × Nat × Nat × Nat)} (hn : (l.map (·.1)).Nodup) {q : Nat × Nat × Nat × Nat} (hq : q ∈ l)
    (s : State) : StreamRewound q ((Act.each l rewindStream).run s) := by
  induction l generalizing s with
  | nil => cases hq
  | cons p l ih =>
    obtain ⟨hp, hn⟩ := List.nodup_cons.1 hn
    rw [Act.run_each_cons]
    rcases List.mem_cons.1 hq with rfl | hq
    · have others : (Act.each l rewindStream).Within (Foot.streams (l.map (·.1))) :=
        .each_mem fun _ h => rewindStream_within (List.mem_map_of_mem h)
      refine (rewindStream_rewound q s).keep (fun f hf => (others _).regs f ?_) (slots_each_rewindStream l _)
      rintro ⟨n, hl, h⟩
      obtain rfl := ctxKeys_apart hf h
      exact hp hl
    · exact ih hn hq _

theorem Mark.toStreams_rewound {m : Mark} (hm : m.Fits) {q : Nat × Nat × Nat × Nat} (hq : q ∈ m.streams) (s : State) :
    StreamRewound q (m.toStreams.run s) :=
  each_rewindStream_rewound hm.nodup hq s

/-! The close of a rewind. -/

theorem get_clearOrdinals (g : Nat) (f : Field) (s : State) : ((clearOrdinals g).run s).get f = s.get f :=
  (clearOrdinals_within (F := Foot.of (fun _ => False) [.stepTile, .vecOrd] []) (by simp [Foot.of]) g s).regs f id

/-- The close of a rewind, register by register. -/
theorem rewindClose_run (g : Nat) (s : State) : (rewindClose g).run s = recovBusy.run
    (((((clearOrdinals g).run (((s.set (GLB_STEP_STATE_NEXT_DIRTY g) 0).set (GLB_STEP_FLAGS_LOCAL g) 0).set (GLB_STEP_FLAGS_SRC g) 0)).wr
      .commitDue g 0).wr .draining g 0).set CNT_RECOV_STATUS_REWINDS (s.get CNT_RECOV_STATUS_REWINDS + 1)) := by
  have count : (((s.set (GLB_STEP_STATE_NEXT_DIRTY g) 0).set (GLB_STEP_FLAGS_LOCAL g) 0).set (GLB_STEP_FLAGS_SRC g) 0).get
      CNT_RECOV_STATUS_REWINDS = s.get CNT_RECOV_STATUS_REWINDS := by
    rw [State.get_set_ne, State.get_set_ne, State.get_set_ne] <;>
      simp only [GLB_STEP_STATE_NEXT_DIRTY, GLB_STEP_FLAGS_LOCAL, GLB_STEP_FLAGS_SRC, CNT_RECOV_STATUS_REWINDS] <;> omega
  simp only [rewindClose, Act.run_all_cons, Act.run_all_nil, Act.run_set, Act.run_put, Act.run_modify, State.get_wr, get_clearOrdinals, count]

/-- The registers that the close of a rewind clears are 0 after it, and REWINDS has risen (R484). -/
theorem get_rewindClose {g : Nat} (hg : g < 8) (s : State) : ((rewindClose g).run s).get (GLB_STEP_STATE_NEXT_DIRTY g) = 0 ∧
    ((rewindClose g).run s).get (GLB_STEP_FLAGS_LOCAL g) = 0 ∧ ((rewindClose g).run s).get (GLB_STEP_FLAGS_SRC g) = 0 ∧
    ((rewindClose g).run s).get CNT_RECOV_STATUS_REWINDS = (s.get CNT_RECOV_STATUS_REWINDS + 1) % 2 ^ 16 := by
  have busy (t : State) {f : Field} (h : f.key ≠ CNT_RECOV_STATUS_BUSY.key) : (recovBusy.run t).get f = t.get f :=
    (recovBusy_within (F := Foot.fields [CNT_RECOV_STATUS_BUSY]) (Foot.fields_key (by simp)) t).regs f (by simp [Foot.fields, Foot.of, h])
  have step {f : Field} (h : f.key < 0x400 * 8) : f.key ≠ CNT_RECOV_STATUS_BUSY.key ∧ CNT_RECOV_STATUS_REWINDS.key ≠ f.key := by
    simp only [CNT_RECOV_STATUS_BUSY, CNT_RECOV_STATUS_REWINDS]
    omega
  have dirty := @step (GLB_STEP_STATE_NEXT_DIRTY g) (by simp only [GLB_STEP_STATE_NEXT_DIRTY]; omega)
  have loc := @step (GLB_STEP_FLAGS_LOCAL g) (by simp only [GLB_STEP_FLAGS_LOCAL]; omega)
  have src := @step (GLB_STEP_FLAGS_SRC g) (by simp only [GLB_STEP_FLAGS_SRC]; omega)
  rw [rewindClose_run]
  refine ⟨?_, ?_, ?_, ?_⟩
  · rw [busy _ dirty.1, State.get_set_ne _ dirty.2, State.get_wr, State.get_wr, get_clearOrdinals, State.get_set_ne, State.get_set_ne,
      State.get_set_self] <;> simp [GLB_STEP_STATE_NEXT_DIRTY, GLB_STEP_FLAGS_LOCAL, GLB_STEP_FLAGS_SRC] <;> omega
  · rw [busy _ loc.1, State.get_set_ne _ loc.2, State.get_wr, State.get_wr, get_clearOrdinals, State.get_set_ne, State.get_set_self] <;>
      simp [GLB_STEP_FLAGS_LOCAL, GLB_STEP_FLAGS_SRC]
  · rw [busy _ src.1, State.get_set_ne _ src.2, State.get_wr, State.get_wr, get_clearOrdinals, State.get_set_self]
    simp
  · rw [busy _ (by decide), State.get_set_width (w := 16) _ rfl]

theorem draining_rewindClose (g : Nat) (s : State) : ((rewindClose g).run s).rd .draining g = 0 := by
  have busy (t : State) : (recovBusy.run t).rd .draining g = t.rd .draining g := State.rd_set _ _ _ _ _
  rw [rewindClose_run, busy, State.rd_set, State.rd_wr, if_pos ⟨rfl, rfl⟩]

/-! The whole rewind. -/

/-- What a rewind of a graph leaves (R484): no drain, one more rewind counted, an attempt without flags, the streams of the mark where it
says, and none of the graph's instances and firings. -/
structure Rewound (g : Nat) (s t : State) : Prop where
  drained : t.rd .draining g = 0
  counted : t.get CNT_RECOV_STATUS_REWINDS = (s.get CNT_RECOV_STATUS_REWINDS + 1) % 2 ^ 16
  clean : t.get (GLB_STEP_STATE_NEXT_DIRTY g) = 0
  src : t.get (GLB_STEP_FLAGS_SRC g) = 0
  loc : t.get (GLB_STEP_FLAGS_LOCAL g) = 0
  streams : ∀ q ∈ (s.markFor g).streams, StreamRewound q t
  insts : ∀ x ∈ t.insts, x.tag ∉ s.graphDescs g
  desks : ∀ d ∈ t.desks, deskGraph d.alt.op ≠ g
  vecs : ∀ v ∈ t.vecs, v.graph ≠ g

section ReturnTo

variable {g : Nat} {m : Mark} (hg : g < 8) (hm : m.Fits) (s : State)

include hg hm

theorem vecs_returnTo : ((returnTo g m).run s).vecs = s.vecs.filter fun v => v.graph ≠ g := by
  simp only [returnTo, Act.run_all_cons, Act.run_all_nil]
  rw [(m.toSteps_within _).parts .vecs, (Mark.toMls_within hm _).parts .vecs, (m.toStreams_within _).parts .vecs,
    (Mark.toDescs_within hm _).parts .vecs, (cancelInsts_within g _).parts .vecs, dropFirings_keeps (φ := State.vecs) hg fun _ _ _ _ => rfl] <;>
    simp [Foot.stations, Foot.milestone, Foot.hostDone, Foot.streams, Foot.cancelled, Foot.or, Foot.of]

theorem desks_returnTo : ((returnTo g m).run s).desks.map (·.alt) = (s.desks.filter fun d => deskGraph d.alt.op ≠ g).map (·.alt) := by
  simp only [returnTo, Act.run_all_cons, Act.run_all_nil]
  rw [(m.toSteps_within _).parts .desks, desks_toMls, (m.toStreams_within _).parts .desks, (Mark.toDescs_within hm _).parts .desks,
    (cancelInsts_within g _).parts .desks, dropFirings_keeps (φ := State.desks) hg fun _ _ _ _ => rfl] <;>
    simp [Foot.stations, Foot.streams, Foot.cancelled, Foot.of]

theorem insts_returnTo : ((returnTo g m).run s).insts = s.insts.filter fun x => !(s.graphDescs g).contains x.tag := by
  have descs : ((dropFirings g).run s).graphDescs g = s.graphDescs g :=
    dropFirings_keeps (φ := fun t => t.graphDescs g) hg (fun t f v h => t.graphDescs_set_low h v g) s
  simp only [returnTo, Act.run_all_cons, Act.run_all_nil]
  rw [(m.toSteps_within _).parts .insts, (Mark.toMls_within hm _).parts .insts, (m.toStreams_within _).parts .insts,
    (Mark.toDescs_within hm _).parts .insts, insts_cancelInsts, descs, (dropFirings_within g s).parts .insts] <;>
    simp [Foot.stations, Foot.milestone, Foot.hostDone, Foot.streams, Foot.firings, Foot.or, Foot.of]

omit hg in
theorem streams_returnTo {q : Nat × Nat × Nat × Nat} (hq : q ∈ m.streams) : StreamRewound q ((returnTo g m).run s) := by
  have after {f : Field} (hf : ctxKeys q.1 f.key) (h : middleKeys f.key) : False := by
    simp only [ctxKeys, middleKeys, inBytes] at hf h
    omega
  simp only [returnTo, Act.run_all_cons, Act.run_all_nil]
  refine (Mark.toStreams_rewound hm hq (m.toDescs.run ((cancelInsts g).run ((dropFirings g).run s)))).keep (fun f hf => ?_) fun x hx => ?_
  · rw [(m.toSteps_within _).regs f fun h => after hf (Foot.stations_keys hm.stations h),
      (Mark.toMls_within hm _).regs f fun h => after hf (Foot.milestone_keys h)]
  · rw [(m.toSteps_within _).parts .slots, (Mark.toMls_within hm _).parts .slots] at hx
    · exact hx
    · simp [Foot.milestone, Foot.hostDone, Foot.or, Foot.of]
    · simp [Foot.stations, Foot.of]

end ReturnTo

/-- What the close of a rewind reaches is no stream context. -/
theorem Foot.rewindClose_keys {g : Nat} (hg : g < 8) {k : Nat} (h : (Foot.rewindClose g).keys k) : k < 0x03000000 * 8 := by
  simp only [Foot.rewindClose, Foot.of, List.mem_cons, List.not_mem_nil, or_false, GLB_STEP_STATE_NEXT_DIRTY, GLB_STEP_FLAGS_LOCAL,
    GLB_STEP_FLAGS_SRC, CNT_RECOV_STATUS_REWINDS, CNT_RECOV_STATUS_BUSY] at h
  omega

/-- A rewind returns a graph to its mark (R484). -/
theorem rewindNow_rewound {g : Nat} (hg : g < 8) {s : State} (hm : (s.markFor g).Fits) : Rewound g s ((rewindNow g).run s) := by
  have close := rewindClose_within g ((returnTo g (s.markFor g)).run s)
  obtain ⟨hclean, hloc, hsrc, hcount⟩ := get_rewindClose hg ((returnTo g (s.markFor g)).run s)
  have part (p : Part) : p.same ((returnTo g (s.markFor g)).run s) ((rewindClose g).run ((returnTo g (s.markFor g)).run s)) :=
    close.parts p (by simp [Foot.rewindClose, Foot.of])
  rw [rewindNow_run]
  refine ⟨draining_rewindClose g _, ?_, hclean, hsrc, hloc, fun q hq => ?_, fun x hx => ?_, fun d hd => ?_, fun v hv => ?_⟩
  · rw [hcount, (returnTo_within hm g s).regs]
    intro h
    have := Foot.returnTo_keys hm h
    simp only [inBytes, CNT_RECOV_STATUS_REWINDS, GLB_STEP_STATE_IDLE] at this
    omega
  · refine (streams_returnTo hm s hq).keep (fun f hf => close.regs f fun h => ?_) (fun x hx => ?_)
    · have := Foot.rewindClose_keys hg h
      simp only [ctxKeys, inBytes] at hf
      omega
    · rwa [part .slots] at hx
  · rw [part .insts, insts_returnTo hg hm] at hx
    simpa using (List.mem_filter.1 hx).2
  · rw [part .desks] at hd
    have alt := List.mem_map_of_mem (f := (·.alt)) hd
    rw [desks_returnTo hg hm] at alt
    obtain ⟨d', hd', e⟩ := List.mem_map.1 alt
    rw [← e]
    simpa using (List.mem_filter.1 hd').2
  · rw [part .vecs, vecs_returnTo hg hm] at hv
    simpa using (List.mem_filter.1 hv).2

end Sys2Proof.Machine
end

section
/-!
SUPPORT. Outcomes of a commit attempt and the resolution of a DETOUR pass (R180, R308): the step registers after each.
-/

namespace Sys2Proof.Machine

open Reg

/-! Outcomes. -/

/-- The registers that an outcome changes beside LAST_OUTCOME. -/
def outcomeFields (g o : Nat) (keep : Bool) : List Field :=
  if o = outPass then
    [GLB_STEP_STATE_CUR_HALF g, GLB_STEP_NUM_STEP g, GLB_STEP_STATE_ATTEMPT g, GLB_STEP_PASSES_COUNT g, GLB_STEP_PASSES_OVF g]
  else if o = outSkip then [GLB_STEP_NUM_STEP g, GLB_STEP_STATE_ATTEMPT g, GLB_STEP_SKIPS_COUNT g, GLB_STEP_SKIPS_OVF g]
  else if o = outRerun then
    (if keep then [] else [GLB_STEP_STATE_ATTEMPT g]) ++ [GLB_STEP_RERUNS_COUNT g, GLB_STEP_RERUNS_OVF g]
  else [GLB_STEP_STATE_HALTED g, GLB_STEP_STATE_IDLE g]

/-- What an outcome does to step number, halves and attempt, or the halt that it is. -/
def outcomeEffect (g o : Nat) (keep : Bool) (cause src : Nat) : Act := .ask fun s =>
  if o = outPass then
    .all [.set (GLB_STEP_STATE_CUR_HALF g) (1 - s.get (GLB_STEP_STATE_CUR_HALF g)), .modify (GLB_STEP_NUM_STEP g) (· + 1),
      .set (GLB_STEP_STATE_ATTEMPT g) 0, count (GLB_STEP_PASSES_COUNT g) (GLB_STEP_PASSES_OVF g)]
  else if o = outSkip then
    .all [.modify (GLB_STEP_NUM_STEP g) (· + 1), .set (GLB_STEP_STATE_ATTEMPT g) 0,
      count (GLB_STEP_SKIPS_COUNT g) (GLB_STEP_SKIPS_OVF g)]
  else if o = outRerun then
    .seq (.when (!keep) (.modify (GLB_STEP_STATE_ATTEMPT g) fun a => min (a + 1) 255))
      (count (GLB_STEP_RERUNS_COUNT g) (GLB_STEP_RERUNS_OVF g))
  else haltGraph g cause src

/-- What records an outcome after LAST_OUTCOME: the mark and the snapshot (R476, R482). -/
def outcomeRecord (g o : Nat) : Act := .all [.when (o ≠ outHalt) (takeMark g), snapAuto g]

theorem applyOutcome_run (g o : Nat) (keep : Bool) (cause src : Nat) (s : State) : (applyOutcome g o keep cause src).run s =
    (outcomeRecord g o).run (((Act.when (o = outSkip || o = outRerun) (noteHere 10 0x1F0 g (o + src <<< 4))).run
      ((outcomeEffect g o keep cause src).run s)).set (GLB_STEP_STATE_LAST_OUTCOME g) o) := rfl

theorem countBy_within {F : Foot} {cnt ovf : Field} (hc : F.keys cnt.key) (ho : F.keys ovf.key) (k : Nat) : (countBy cnt ovf k).Within F :=
  .ask fun _ => .ite (.cons (.set hc) (.cons (.set ho) .nil)) (.set hc)

theorem snapAuto_within {F : Foot} (hk : F.keys CNT_SNAP_STATUS_PENDING.key) (hc : ∀ k, F.cells .shadow k) (g : Nat) : (snapAuto g).Within F :=
  .ask fun _ => .when (.ask fun _ => .when (.seq (.ask fun _ => .seq (.clear hc) (.each fun _ => .put (hc _))) (.set hk)))

theorem takeMark_within {F : Foot} (h : F.parts .marks) (g : Nat) : (takeMark g).Within F := .ask fun _ => .when (.part .marks rfl h)

/-- What an outcome reaches: its fields, LAST_OUTCOME, a snapshot, the mark and its event. -/
def Foot.outcome (g o : Nat) (keep : Bool) : Foot :=
  Foot.of (fun k => ∃ f ∈ outcomeFields g o keep ++ [GLB_STEP_STATE_LAST_OUTCOME g, CNT_SNAP_STATUS_PENDING], k = f.key) [.shadow]
    [.faultDue, .marks]

theorem outcomeEffect_within (g o : Nat) (keep : Bool) (cause src : Nat) :
    (outcomeEffect g o keep cause src).Within (Foot.noted (outcomeFields g o keep)) := by
  have count {l : List Field} {c v : Field} (hc : c ∈ l) (hv : v ∈ l) : (count c v).Within (Foot.noted l) :=
    countBy_within (Foot.noted_key hc) (Foot.noted_key hv) 1
  refine .ask fun s => ?_
  unfold outcomeFields
  split
  · exact .cons (.set (Foot.noted_key (by simp))) (.cons (.modify (Foot.noted_key (by simp))) (.cons (.set (Foot.noted_key (by simp)))
      (.cons (count (by simp) (by simp)) .nil)))
  · split
    · exact .cons (.modify (Foot.noted_key (by simp))) (.cons (.set (Foot.noted_key (by simp))) (.cons (count (by simp) (by simp)) .nil))
    · split
      · cases keep
        · exact .seq (.when (.modify (Foot.noted_key (by simp)))) (count (by simp) (by simp))
        · exact .seq .skip (count (by simp) (by simp))
      · exact haltGraph_within g cause src

theorem outcomeRecord_within (g o : Nat) :
    (outcomeRecord g o).Within (Foot.of (fun k => k = CNT_SNAP_STATUS_PENDING.key) [.shadow] [.marks]) :=
  .cons (.when (takeMark_within (by simp [Foot.of]) g)) (.cons (snapAuto_within rfl (by simp [Foot.of]) g) .nil)

theorem applyOutcome_within (g o : Nat) (keep : Bool) (cause src : Nat) :
    (applyOutcome g o keep cause src).Within (Foot.outcome g o keep) := by
  intro s
  rw [applyOutcome_run]
  have effect := (outcomeEffect_within g o keep cause src).mono (G := Foot.outcome g o keep)
    (fun _ h => h.elim (fun ⟨f, hf, e⟩ => ⟨f, List.mem_append_left _ hf, e⟩) False.elim) (by simp [Foot.noted, Foot.fields, Foot.or, Foot.of])
    (by simp [Foot.noted, Foot.fields, Foot.or, Foot.of]) (by simp +contextual [Foot.noted, Foot.fields, Foot.outcome, Foot.or, Foot.of])
  have record := (outcomeRecord_within g o).mono (G := Foot.outcome g o keep) (by rintro _ rfl; exact ⟨_, by simp, rfl⟩)
    (fun _ _ => id) (fun _ => id) (by simp +contextual [Foot.outcome, Foot.of])
  exact (((effect s).trans (Act.Within.when (noteHere_within (by simp [Foot.outcome, Foot.of]) _ _ _ _) _)).trans
    (Frame.set _ _ _ _ ⟨_, by simp, rfl⟩)).trans (record _)

/-- Beside LAST_OUTCOME and a snapshot's PENDING, a register reads what the effect of the outcome left. -/
theorem get_applyOutcome {g : Nat} {f : Field} (hl : (GLB_STEP_STATE_LAST_OUTCOME g).key ≠ f.key) (hp : f.key ≠ CNT_SNAP_STATUS_PENDING.key)
    (o : Nat) (keep : Bool) (cause src : Nat) (s : State) :
    ((applyOutcome g o keep cause src).run s).get f = ((outcomeEffect g o keep cause src).run s).get f := by
  rw [applyOutcome_run, (outcomeRecord_within g o _).regs f hp, State.get_set_ne _ hl, get_when_noteHere]

/-- A register that the outcome does not change. -/
theorem get_applyOutcome_ne {g o : Nat} {keep : Bool} {f : Field} (hl : (GLB_STEP_STATE_LAST_OUTCOME g).key ≠ f.key)
    (hp : f.key ≠ CNT_SNAP_STATUS_PENDING.key) (hf : ∀ x ∈ outcomeFields g o keep, f.key ≠ x.key) (cause src : Nat) (s : State) :
    ((applyOutcome g o keep cause src).run s).get f = s.get f := by
  rw [get_applyOutcome hl hp, (outcomeEffect_within g o keep cause src s).regs f]
  rintro (⟨x, hx, e⟩ | h)
  · exact hf x hx e
  · exact h

/-- An outcome stands in LAST_OUTCOME (R180). -/
theorem get_lastOutcome_applyOutcome {o : Nat} (ho : o < 8) (g : Nat) (keep : Bool) (cause src : Nat) (s : State) :
    ((applyOutcome g o keep cause src).run s).get (GLB_STEP_STATE_LAST_OUTCOME g) = o := by
  rw [applyOutcome_run, (outcomeRecord_within g o _).regs, State.get_set_width (w := 3) _ rfl]
  · exact Nat.mod_eq_of_lt ho
  · simp only [Foot.of, GLB_STEP_STATE_LAST_OUTCOME, CNT_SNAP_STATUS_PENDING]
    omega

/-- HALT halts the graph (R180, R181). -/
theorem get_halted_applyOutcome (g : Nat) (keep : Bool) (cause src : Nat) (s : State) :
    ((applyOutcome g outHalt keep cause src).run s).get (GLB_STEP_STATE_HALTED g) = 1 := by
  rw [get_applyOutcome]
  · exact get_halted_haltGraph g cause src s
  · simp [GLB_STEP_STATE_LAST_OUTCOME, GLB_STEP_STATE_HALTED]
  · simp only [GLB_STEP_STATE_HALTED, CNT_SNAP_STATUS_PENDING]
    omega

/-- PASS flips the halves and takes the step number on (R180). -/
theorem get_applyOutcome_pass {g : Nat} (hg : g < 8) (keep : Bool) (cause src : Nat) (s : State) :
    ((applyOutcome g outPass keep cause src).run s).get (GLB_STEP_STATE_CUR_HALF g) = 1 - s.get (GLB_STEP_STATE_CUR_HALF g) ∧
    ((applyOutcome g outPass keep cause src).run s).stepNum g = (s.stepNum g + 1) % 2 ^ 32 := by
  have rest : (Act.all [.set (GLB_STEP_STATE_ATTEMPT g) 0, count (GLB_STEP_PASSES_COUNT g) (GLB_STEP_PASSES_OVF g)]).Within
      (Foot.fields [GLB_STEP_STATE_ATTEMPT g, GLB_STEP_PASSES_COUNT g, GLB_STEP_PASSES_OVF g]) :=
    .cons (.set (Foot.fields_key (by simp))) (.cons (countBy_within (Foot.fields_key (by simp)) (Foot.fields_key (by simp)) 1) .nil)
  have effect : (outcomeEffect g outPass keep cause src).run s =
      (Act.all [.set (GLB_STEP_STATE_ATTEMPT g) 0, count (GLB_STEP_PASSES_COUNT g) (GLB_STEP_PASSES_OVF g)]).run
        ((s.set (GLB_STEP_STATE_CUR_HALF g) (1 - s.get (GLB_STEP_STATE_CUR_HALF g))).set (GLB_STEP_NUM_STEP g)
          ((s.set (GLB_STEP_STATE_CUR_HALF g) (1 - s.get (GLB_STEP_STATE_CUR_HALF g))).get (GLB_STEP_NUM_STEP g) + 1)) := rfl
  obtain ⟨apart, half, num⟩ := rollback_keys_ne g
  constructor
  · rw [get_applyOutcome half (by simp only [GLB_STEP_STATE_CUR_HALF, CNT_SNAP_STATUS_PENDING]; omega), effect, (rest _).regs,
      State.get_set_ne _ apart, State.get_set_width (w := 1) _ rfl]
    · exact Nat.mod_eq_of_lt (Nat.lt_succ_of_le (Nat.sub_le 1 _))
    · refine Foot.not_fields_key ?_
      simp [GLB_STEP_STATE_CUR_HALF, GLB_STEP_STATE_ATTEMPT, GLB_STEP_PASSES_COUNT, GLB_STEP_PASSES_OVF]
      omega
  · rw [State.stepNum, get_applyOutcome num (by simp only [GLB_STEP_NUM_STEP, CNT_SNAP_STATUS_PENDING]; omega), effect, (rest _).regs,
      State.get_set_width (w := 32) _ rfl, State.get_set_ne _ apart.symm, State.stepNum]
    refine Foot.not_fields_key ?_
    simp [GLB_STEP_NUM_STEP, GLB_STEP_STATE_ATTEMPT, GLB_STEP_PASSES_COUNT, GLB_STEP_PASSES_OVF]
    omega

/-! The resolution of a DETOUR pass. -/

/-- What the resolution of a DETOUR pass applies (R308). -/
def State.detourOutcome (s : State) (p : CommitPass) : Act :=
  let src := s.get (GLB_STEP_FLAGS_LAST_SRC p.graph)
  if bitAt p.bits 7 || seqDiff p.cmax p.cmin > 1 then applyOutcome p.graph outHalt false haltOutcome src
  else
    .seq
      (.when (seqDiff p.cmax p.cmin = 1 && s.get (GLB_STEP_CSEQ_CSEQ p.graph) = p.cmin)
        (.seq (applyOutcome p.graph (s.rd .aOut p.graph) false haltOutcome src)
          (.set (GLB_STEP_CSEQ_CSEQ p.graph) (s.get (GLB_STEP_CSEQ_CSEQ p.graph) + 1))))
      (applyOutcome p.graph outRerun true haltOutcome src)

/-- What ends the pass after its outcome. -/
def detourEnd (g mls : Nat) : Act := .all [clearAttempt g, .put .aDone g 0, .set (GLB_STEP_STATE_IN_COMMIT g) 0, mlsAdd mls 1 none]

theorem resolveDetour_run (p : CommitPass) (s : State) : (resolveDetour p).run s =
    (detourEnd p.graph (s.get (GLB_STEP_GROUP_DONE_MLS p.graph))).run ((s.detourOutcome p).run ((dropPass p.graph).run s)) := by
  rw [resolveDetour, Act.run_ask, Act.run_all_cons, Act.run_all_cons]
  rfl

/-! The end of the pass. -/

/-- What the end of a pass reaches: the attempt's flags, bucket status, ordinals, IN_COMMIT and a milestone. -/
def Foot.detourEnd (g : Nat) : Foot :=
  Foot.or (Foot.milestone []) (Foot.of (fun k => (∃ f ∈ [GLB_STEP_FLAGS_LOCAL g, GLB_STEP_FLAGS_SRC g, GLB_STEP_STATE_NEXT_DIRTY g,
    GLB_STEP_STATE_IN_COMMIT g], k = f.key) ∨ inBytes 0x022E0000 0x022E4000 k) [.stepTile, .vecOrd, .nanFresh, .aDone] [])

theorem detourEnd_within {m : Nat} (hm : m < 65536) (g : Nat) : (detourEnd g m).Within (Foot.detourEnd g) := by
  have set {f : Field} (v : Nat) (h : f ∈ [GLB_STEP_FLAGS_LOCAL g, GLB_STEP_FLAGS_SRC g, GLB_STEP_STATE_NEXT_DIRTY g,
      GLB_STEP_STATE_IN_COMMIT g]) : (Act.set f v).Within (Foot.detourEnd g) := .set (.inr (.inl ⟨f, h, rfl⟩))
  have put (b : Bank) (h : b ∈ ([.stepTile, .vecOrd, .nanFresh, .aDone] : List Bank)) : (Act.put b g 0).Within (Foot.detourEnd g) :=
    .put (.inr h)
  have bucket {s : State} {t : Nat} (ht : t ∈ s.graphDescs g) {f : Field} (h : f = VSY_BKT_STAT_NAN t ∨ f = VSY_BKT_STAT_MISMATCH t) :
      (Act.set f 0).Within (Foot.detourEnd g) := by
    have := State.mem_graphDescs ht
    refine .set (.inr (.inr ?_))
    rcases h with rfl | rfl <;> simp only [inBytes, VSY_BKT_STAT_NAN, VSY_BKT_STAT_MISMATCH] <;> omega
  have clear : (clearAttempt g).Within (Foot.detourEnd g) :=
    .ask fun s => .cons (set 0 (by simp)) (.cons (set 0 (by simp)) (.cons (set 0 (by simp))
      (.cons (clearOrdinals_within (by simp [Foot.detourEnd, Foot.or, Foot.of]) g) (.cons (.each_mem fun t ht =>
        .seq (bucket ht (.inl rfl)) (bucket ht (.inr rfl))) (.cons (put _ (by simp)) .nil)))))
  exact .cons clear (.cons (put _ (by simp)) (.cons (set 0 (by simp)) (.cons (mlsAdd_within m 1 hm none (by simp)).left .nil)))

/-- The end of a pass leaves what else the registers of a graph's steps hold. -/
theorem get_detourEnd {m : Nat} (hm : m < 65536) {g : Nat} {f : Field} (low : f.key < 0x400 * 8)
    (h : ∀ x ∈ [GLB_STEP_FLAGS_LOCAL g, GLB_STEP_FLAGS_SRC g, GLB_STEP_STATE_NEXT_DIRTY g, GLB_STEP_STATE_IN_COMMIT g], f.key ≠ x.key)
    (s : State) : ((detourEnd g m).run s).get f = s.get f := by
  refine (detourEnd_within hm g s).regs f ?_
  rintro (k | ⟨x, hx, e⟩ | k)
  · have := (Foot.milestone_keys k).1
    omega
  · exact h x hx e
  · simp only [inBytes] at k
    omega

/-- After the end of a pass the graph is outside a commit. -/
theorem get_inCommit_detourEnd {m : Nat} (hm : m < 65536) {g : Nat} (hg : g < 8) (s : State) :
    ((detourEnd g m).run s).get (GLB_STEP_STATE_IN_COMMIT g) = 0 := by
  simp only [detourEnd, Act.run_all_cons, Act.run_all_nil]
  rw [(mlsAdd_within (ns := []) m 1 hm none (by simp) _).regs, Act.run_set, State.get_set_width (w := 1) _ rfl, Nat.zero_mod]
  intro k
  have := (Foot.milestone_keys k).1
  simp only [GLB_STEP_STATE_IN_COMMIT] at this
  omega

/-! The resolution as a whole. -/

/-- The resolution of a pass reaches registers, and no drain, no pass and no memory beside the end of its own. -/
def Foot.resolved : Foot :=
  Foot.of (fun _ => True) [.shadow, .stepTile, .vecOrd, .nanFresh, .aDone, .commitDue, .cplPhase, .cplSince, .resetAsked]
    [.faultDue, .marks, .desks, .inflight, .hostOut, .msix]

theorem applyOutcome_within_resolved (g o : Nat) (keep : Bool) (cause src : Nat) : (applyOutcome g o keep cause src).Within Foot.resolved :=
  (applyOutcome_within g o keep cause src).mono (fun _ _ => trivial) (by simp +contextual [Foot.outcome, Foot.resolved, Foot.of])
    (fun _ => id) (by simp +contextual [Foot.outcome, Foot.resolved, Foot.of])

theorem detourOutcome_within (s : State) (p : CommitPass) : (s.detourOutcome p).Within Foot.resolved :=
  .ite (applyOutcome_within_resolved _ _ _ _ _)
    (.seq (.when (.seq (applyOutcome_within_resolved _ _ _ _ _) (.set trivial))) (applyOutcome_within_resolved _ _ _ _ _))

theorem detourEnd_within_resolved {m : Nat} (hm : m < 65536) (g : Nat) : (detourEnd g m).Within Foot.resolved :=
  (detourEnd_within hm g).mono (fun _ _ => trivial)
    (fun b _ => by simp only [Foot.detourEnd, Foot.milestone, Foot.hostDone, Foot.resolved, Foot.or, Foot.of, List.mem_cons]; grind)
    (by simp [Foot.detourEnd, Foot.milestone, Foot.hostDone, Foot.or, Foot.of])
    (fun b => by simp only [Foot.detourEnd, Foot.milestone, Foot.hostDone, Foot.resolved, Foot.or, Foot.of, List.mem_cons]; grind)

/-- After a pass is dropped, its resolution stays within registers and what outcomes and milestones wake. -/
theorem resolveDetour_frame (p : CommitPass) (s : State) :
    Frame Foot.resolved ((dropPass p.graph).run s) ((resolveDetour p).run s) := by
  rw [resolveDetour_run]
  exact (detourOutcome_within s p _).trans (detourEnd_within_resolved (s.get_lt _) _ _)

theorem passOf_dropPass (g : Nat) (s : State) : ((dropPass g).run s).passOf g = none := by
  simp [dropPass, State.passOf]

theorem passOf_resolveDetour (p : CommitPass) (s : State) : ((resolveDetour p).run s).passOf p.graph = none := by
  have passes : ((resolveDetour p).run s).passes = ((dropPass p.graph).run s).passes :=
    (resolveDetour_frame p s).parts .passes (by simp [Foot.resolved, Foot.of])
  rw [State.passOf, passes]
  exact passOf_dropPass p.graph s

theorem draining_resolveDetour (p : CommitPass) (g : Nat) (s : State) : ((resolveDetour p).run s).rd .draining g = s.rd .draining g :=
  (resolveDetour_frame p s).cells .draining g (by simp [Foot.resolved, Foot.of])

theorem byte_resolveDetour (p : CommitPass) (s : State) (a : Nat) : ((resolveDetour p).run s).byte a = s.byte a :=
  (resolveDetour_frame p s).bytes a id

/-! Step registers after a resolution. -/

/-- The combined passes of the group are too far apart, or one chip halts: the graph halts (R308). -/
def CommitPass.halts (p : CommitPass) : Bool := bitAt p.bits 7 || decide (1 < seqDiff p.cmax p.cmin)

/-- The chip is one attempt behind others, and catches up with the outcome that pass A fixed (R308). -/
def State.isBehind (s : State) (g : Nat) (p : CommitPass) : Bool :=
  !p.halts && decide (seqDiff p.cmax p.cmin = 1) && s.get (GLB_STEP_CSEQ_CSEQ g) = p.cmin

/-- The step registers of a graph that a resolution left: LAST_OUTCOME and a halt, the count of attempts, and step number, half and
attempt, which stand unless the chip was behind. -/
structure Settled (g : Nat) (halts behind : Bool) (s t : State) : Prop where
  outcome : t.get (GLB_STEP_STATE_LAST_OUTCOME g) = if halts then outHalt else outRerun
  halted : halts = true → t.get (GLB_STEP_STATE_HALTED g) = 1
  cseq : t.get (GLB_STEP_CSEQ_CSEQ g) = if behind then (s.get (GLB_STEP_CSEQ_CSEQ g) + 1) % 2 ^ 32 else s.get (GLB_STEP_CSEQ_CSEQ g)
  kept : behind = false → t.stepNum g = s.stepNum g ∧ t.get (GLB_STEP_STATE_CUR_HALF g) = s.get (GLB_STEP_STATE_CUR_HALF g) ∧
    t.get (GLB_STEP_STATE_ATTEMPT g) = s.get (GLB_STEP_STATE_ATTEMPT g)
  passed : behind = true → s.rd .aOut g = outPass → t.stepNum g = (s.stepNum g + 1) % 2 ^ 32 ∧
    t.get (GLB_STEP_STATE_CUR_HALF g) = 1 - s.get (GLB_STEP_STATE_CUR_HALF g)

/-- The registers that `Settled` reads of the later state. -/
def settledFields (g : Nat) : List Field :=
  [GLB_STEP_STATE_LAST_OUTCOME g, GLB_STEP_STATE_HALTED g, GLB_STEP_CSEQ_CSEQ g, GLB_STEP_NUM_STEP g, GLB_STEP_STATE_CUR_HALF g,
    GLB_STEP_STATE_ATTEMPT g]

/-- It holds of every state that agrees on them, before as after. -/
theorem Settled.congr {g : Nat} {halts behind : Bool} {s s' t t' : State} (h : Settled g halts behind s t)
    (after : ∀ f ∈ settledFields g, t'.get f = t.get f)
    (before : ∀ f ∈ [GLB_STEP_CSEQ_CSEQ g, GLB_STEP_NUM_STEP g, GLB_STEP_STATE_CUR_HALF g, GLB_STEP_STATE_ATTEMPT g], s.get f = s'.get f)
    (out : s.rd .aOut g = s'.rd .aOut g) : Settled g halts behind s' t' := by
  obtain ⟨outcome, halted, cseq, kept, passed⟩ := h
  simp only [settledFields, List.forall_mem_cons] at after before
  obtain ⟨a1, a2, a3, a4, a5, a6, -⟩ := after
  obtain ⟨b1, b2, b3, b4, -⟩ := before
  simp only [State.stepNum] at kept passed
  constructor <;> simp only [State.stepNum, a1, a2, a3, a4, a5, a6, ← b1, ← b2, ← b3, ← b4, ← out] <;> assumption

/-- The step registers that `Settled` reads beside LAST_OUTCOME lie apart from those that a HALT and a kept RERUN write else. -/
theorem settledFields_apart {g : Nat} (hg : g < 8) {f : Field} (h : f ∈ (settledFields g).tail) :
    (GLB_STEP_STATE_LAST_OUTCOME g).key ≠ f.key ∧ f.key ≠ CNT_SNAP_STATUS_PENDING.key ∧ f.key ≠ (GLB_STEP_STATE_IDLE g).key ∧
      f.key ≠ (GLB_STEP_RERUNS_COUNT g).key ∧ f.key ≠ (GLB_STEP_RERUNS_OVF g).key := by
  simp only [settledFields, List.tail_cons, List.mem_cons, List.not_mem_nil, or_false] at h
  rcases h with rfl | rfl | rfl | rfl | rfl <;>
    simp only [GLB_STEP_STATE_LAST_OUTCOME, CNT_SNAP_STATUS_PENDING, GLB_STEP_STATE_IDLE, GLB_STEP_RERUNS_COUNT, GLB_STEP_RERUNS_OVF,
      GLB_STEP_STATE_HALTED, GLB_STEP_CSEQ_CSEQ, GLB_STEP_NUM_STEP, GLB_STEP_STATE_CUR_HALF, GLB_STEP_STATE_ATTEMPT] <;> omega

/-- A RERUN that keeps ATTEMPT leaves the step registers but LAST_OUTCOME (R308). -/
theorem get_rerun {g : Nat} (hg : g < 8) {f : Field} (h : f ∈ (settledFields g).tail) (cause src : Nat) (s : State) :
    ((applyOutcome g outRerun true cause src).run s).get f = s.get f := by
  obtain ⟨outcome, pending, -, count, ovf⟩ := settledFields_apart hg h
  refine get_applyOutcome_ne outcome pending ?_ cause src s
  simpa [outcomeFields, outRerun, outPass, outSkip] using ⟨count, ovf⟩

/-- A HALT leaves them but HALTED and LAST_OUTCOME (R180, R181). -/
theorem get_halt {g : Nat} (hg : g < 8) {f : Field} (h : f ∈ (settledFields g).tail) (hf : f.key ≠ (GLB_STEP_STATE_HALTED g).key)
    (cause src : Nat) (s : State) : ((applyOutcome g outHalt false cause src).run s).get f = s.get f := by
  obtain ⟨outcome, pending, idle, -⟩ := settledFields_apart hg h
  refine get_applyOutcome_ne outcome pending ?_ cause src s
  simpa [outcomeFields, outRerun, outPass, outSkip, outHalt] using ⟨hf, idle⟩

/-- A chip that is behind first catches up, and the attempt then reruns (R308). -/
theorem detourOutcome_behind {s : State} {p : CommitPass} (h : p.halts = false) (hb : s.isBehind p.graph p = true) (t : State) :
    (s.detourOutcome p).run t = (applyOutcome p.graph outRerun true haltOutcome (s.get (GLB_STEP_FLAGS_LAST_SRC p.graph))).run
      (((applyOutcome p.graph (s.rd .aOut p.graph) false haltOutcome (s.get (GLB_STEP_FLAGS_LAST_SRC p.graph))).run t).set
        (GLB_STEP_CSEQ_CSEQ p.graph) (s.get (GLB_STEP_CSEQ_CSEQ p.graph) + 1)) := by
  have gap : (seqDiff p.cmax p.cmin = 1 && s.get (GLB_STEP_CSEQ_CSEQ p.graph) = p.cmin) = true := by
    simpa [State.isBehind, h] using hb
  rw [State.detourOutcome, if_neg (by simpa [CommitPass.halts] using h), gap]
  rfl

/-- A chip that stands level with the others reruns (R308). -/
theorem detourOutcome_level {s : State} {p : CommitPass} (h : p.halts = false) (hb : s.isBehind p.graph p = false) (t : State) :
    (s.detourOutcome p).run t = (applyOutcome p.graph outRerun true haltOutcome (s.get (GLB_STEP_FLAGS_LAST_SRC p.graph))).run t := by
  have gap : (seqDiff p.cmax p.cmin = 1 && s.get (GLB_STEP_CSEQ_CSEQ p.graph) = p.cmin) = false := by
    simpa [State.isBehind, h] using hb
  rw [State.detourOutcome, if_neg (by simpa [CommitPass.halts] using h), gap]
  rfl

section Outcome

variable {p : CommitPass} (hg : p.graph < 8) {s t : State} (ht : ∀ f, t.get f = s.get f)

include hg ht

theorem settled_halts (h : p.halts = true) : Settled p.graph p.halts (s.isBehind p.graph p) s ((s.detourOutcome p).run t) := by
  have same : s.isBehind p.graph p = false := by simp [State.isBehind, h]
  have act : s.detourOutcome p = applyOutcome p.graph outHalt false haltOutcome (s.get (GLB_STEP_FLAGS_LAST_SRC p.graph)) := if_pos h
  have kept {f : Field} (hf : f ∈ (settledFields p.graph).tail) (ne : f.key ≠ (GLB_STEP_STATE_HALTED p.graph).key) :
      ((s.detourOutcome p).run t).get f = s.get f := by rw [act, get_halt hg hf ne, ht]
  rw [h, same]
  refine ⟨?_, fun _ => ?_, ?_, fun _ => ⟨?_, ?_, ?_⟩, fun b => by cases b⟩
  · rw [act]
    exact get_lastOutcome_applyOutcome (by decide) _ _ _ _ _
  · rw [act]
    exact get_halted_applyOutcome _ _ _ _ _
  all_goals
    refine kept (by simp [settledFields]) ?_
    simp only [GLB_STEP_CSEQ_CSEQ, GLB_STEP_NUM_STEP, GLB_STEP_STATE_CUR_HALF, GLB_STEP_STATE_ATTEMPT, GLB_STEP_STATE_HALTED]
    omega

theorem settled_behind (h : p.halts = false) (hb : s.isBehind p.graph p = true) :
    Settled p.graph p.halts (s.isBehind p.graph p) s ((s.detourOutcome p).run t) := by
  have passed := get_applyOutcome_pass hg false haltOutcome (s.get (GLB_STEP_FLAGS_LAST_SRC p.graph)) t
  have kept {f : Field} (hf : f ∈ (settledFields p.graph).tail) (ne : (GLB_STEP_CSEQ_CSEQ p.graph).key ≠ f.key) :
      ((s.detourOutcome p).run t).get f =
        ((applyOutcome p.graph (s.rd .aOut p.graph) false haltOutcome (s.get (GLB_STEP_FLAGS_LAST_SRC p.graph))).run t).get f := by
    rw [detourOutcome_behind h hb, get_rerun hg hf, State.get_set_ne _ ne]
  rw [h, hb]
  refine ⟨?_, fun c => (by cases c), ?_, fun c => (by cases c), fun _ pass => ?_⟩
  · rw [detourOutcome_behind h hb]
    exact get_lastOutcome_applyOutcome (by decide) _ _ _ _ _
  · rw [detourOutcome_behind h hb, get_rerun hg (by simp [settledFields]), State.get_set_width (w := 32) _ rfl]
    rfl
  · rw [← pass, State.stepNum, State.stepNum, ht, ht] at passed
    rw [State.stepNum, kept (by simp [settledFields]), kept (by simp [settledFields])]
    · exact passed.symm
    all_goals
      simp only [GLB_STEP_CSEQ_CSEQ, GLB_STEP_NUM_STEP, GLB_STEP_STATE_CUR_HALF]
      omega

theorem settled_level (h : p.halts = false) (hb : s.isBehind p.graph p = false) :
    Settled p.graph p.halts (s.isBehind p.graph p) s ((s.detourOutcome p).run t) := by
  have kept {f : Field} (hf : f ∈ (settledFields p.graph).tail) : ((s.detourOutcome p).run t).get f = s.get f := by
    rw [detourOutcome_level h hb, get_rerun hg hf, ht]
  rw [h, hb]
  refine ⟨?_, fun c => (by cases c), kept (by simp [settledFields]), fun _ => ⟨?_, ?_, ?_⟩, fun c => by cases c⟩
  · rw [detourOutcome_level h hb]
    exact get_lastOutcome_applyOutcome (by decide) _ _ _ _ _
  all_goals exact kept (by simp [settledFields])

/-- The outcome of a DETOUR pass, on a chip whose graph halts, catches up or stands level with the others (R308). -/
theorem settled_detourOutcome : Settled p.graph p.halts (s.isBehind p.graph p) s ((s.detourOutcome p).run t) := by
  rcases Bool.eq_false_or_eq_true p.halts with h | h
  · exact settled_halts hg ht h
  · rcases Bool.eq_false_or_eq_true (s.isBehind p.graph p) with hb | hb
    · exact settled_behind hg ht h hb
    · exact settled_level hg ht h hb

end Outcome

/-- The resolution of a DETOUR pass settles the step registers, and the graph is outside a commit (R308). -/
theorem resolveDetour_settled {p : CommitPass} (hg : p.graph < 8) (s : State) :
    Settled p.graph p.halts (s.isBehind p.graph p) s ((resolveDetour p).run s) ∧
      ((resolveDetour p).run s).get (GLB_STEP_STATE_IN_COMMIT p.graph) = 0 := by
  have outcome := settled_detourOutcome hg (s := s) (t := (dropPass p.graph).run s) fun _ => rfl
  rw [resolveDetour_run]
  refine ⟨outcome.congr (fun f hf => ?_) (fun _ _ => rfl) rfl, get_inCommit_detourEnd (s.get_lt _) hg _⟩
  simp only [settledFields, List.mem_cons, List.not_mem_nil, or_false] at hf
  refine get_detourEnd (s.get_lt _) ?_ ?_ _
  · rcases hf with rfl | rfl | rfl | rfl | rfl | rfl <;>
      simp only [GLB_STEP_STATE_LAST_OUTCOME, GLB_STEP_STATE_HALTED, GLB_STEP_CSEQ_CSEQ, GLB_STEP_NUM_STEP, GLB_STEP_STATE_CUR_HALF,
        GLB_STEP_STATE_ATTEMPT] <;> omega
  · rcases hf with rfl | rfl | rfl | rfl | rfl | rfl <;>
      simp [GLB_STEP_STATE_LAST_OUTCOME, GLB_STEP_STATE_HALTED, GLB_STEP_CSEQ_CSEQ, GLB_STEP_NUM_STEP, GLB_STEP_STATE_CUR_HALF,
        GLB_STEP_STATE_ATTEMPT, GLB_STEP_FLAGS_LOCAL, GLB_STEP_FLAGS_SRC, GLB_STEP_STATE_NEXT_DIRTY, GLB_STEP_STATE_IN_COMMIT] <;> omega

end Sys2Proof.Machine
end

section
/-!
SUPPORT. The end of a rewind's drain (R307, R308, R484, R485), and what it reaches in terms of the attempt mark.
-/

namespace Sys2Proof.Machine

open Reg

theorem exec_rewindDrainEnd {s : State} (hs : s.running = true) (g : Graph) :
    exec (.rewindDrainEnd g) s = .next ((drainEnd g.val).run s) := live_eq hs

/-- Without a drain its end does nothing; the drain of a REWIND write ends in the rewind and DONE, that of a detour switch in the rewind
and the resolution of the pass (R308, R485). -/
theorem drainEnd_none {g : Nat} {s : State} (h : s.rd .draining g = 0) : (drainEnd g).run s = s := by
  simp [drainEnd, h]

theorem drainEnd_host {g : Nat} {s : State} (h : s.rd .draining g = 1) :
    (drainEnd g).run s = ((rewindNow g).run s).set CNT_RECOV_STATUS_DONE 1 := by
  simp [drainEnd, h]

theorem drainEnd_detour {g : Nat} {s : State} {p : CommitPass} (h : s.rd .draining g = 2) (hp : s.passOf g = some p) :
    (drainEnd g).run s = (resolveDetour p).run ((rewindNow g).run s) := by
  simp [drainEnd, h, hp]

theorem graph_of_passOf {g : Nat} {s : State} {p : CommitPass} (h : s.passOf g = some p) : p.graph = g := by
  simpa using List.find?_some h

/-- DONE of the recovery registers is no part of what a rewind leaves. -/
theorem Rewound.set_done {g : Nat} (hg : g < 8) {s t : State} (h : Rewound g s t) : Rewound g s (t.set CNT_RECOV_STATUS_DONE 1) := by
  obtain ⟨drained, counted, clean, src, loc, streams, insts, desks, vecs⟩ := h
  have step {f : Field} (hf : f.key < 0x400 * 8) : CNT_RECOV_STATUS_DONE.key ≠ f.key := by
    simp only [CNT_RECOV_STATUS_DONE]
    omega
  refine ⟨drained, ?_, ?_, ?_, ?_, fun q hq => (streams q hq).keep (fun f hf => State.get_set_ne _ ?_ _) fun _ h => h, insts, desks, vecs⟩
  · rw [State.get_set_ne _ (by decide), counted]
  · rw [State.get_set_ne _ (step (by simp only [GLB_STEP_STATE_NEXT_DIRTY]; omega)), clean]
  · rw [State.get_set_ne _ (step (by simp only [GLB_STEP_FLAGS_SRC]; omega)), src]
  · rw [State.get_set_ne _ (step (by simp only [GLB_STEP_FLAGS_LOCAL]; omega)), loc]
  · simp only [ctxKeys, inBytes, CNT_RECOV_STATUS_DONE] at hf ⊢
    omega

/-- A rewind leaves the step number, the half, ATTEMPT and the count of attempts. -/
theorem get_rewindNow_kept {g : Nat} (hg : g < 8) {s : State} (hm : (s.markFor g).Fits) {f : Field}
    (h : f ∈ [GLB_STEP_CSEQ_CSEQ g, GLB_STEP_NUM_STEP g, GLB_STEP_STATE_CUR_HALF g, GLB_STEP_STATE_ATTEMPT g]) :
    ((rewindNow g).run s).get f = s.get f := by
  have apart : f.key < 0x400 * 8 ∧ f.key ≠ (GLB_STEP_STATE_IDLE g).key ∧ f.key ≠ (GLB_STEP_STATE_NEXT_DIRTY g).key ∧
      f.key ≠ (GLB_STEP_FLAGS_LOCAL g).key ∧ f.key ≠ (GLB_STEP_FLAGS_SRC g).key := by
    simp only [List.mem_cons, List.not_mem_nil, or_false] at h
    rcases h with rfl | rfl | rfl | rfl <;>
      simp only [GLB_STEP_CSEQ_CSEQ, GLB_STEP_NUM_STEP, GLB_STEP_STATE_CUR_HALF, GLB_STEP_STATE_ATTEMPT, GLB_STEP_STATE_IDLE,
        GLB_STEP_STATE_NEXT_DIRTY, GLB_STEP_FLAGS_LOCAL, GLB_STEP_FLAGS_SRC] <;> omega
  obtain ⟨low, idle, dirty, loc, src⟩ := apart
  refine (rewindNow_frame hm).regs f ?_
  rintro (k | k)
  · have := Foot.returnTo_keys hm k
    omega
  · simp only [Foot.rewindClose, Foot.of, List.mem_cons, List.not_mem_nil, or_false, dirty, loc, src, false_or,
      CNT_RECOV_STATUS_REWINDS, CNT_RECOV_STATUS_BUSY] at k
    omega

theorem aOut_rewindNow (g : Nat) {s : State} (hm : (s.markFor g).Fits) : ((rewindNow g).run s).rd .aOut g = s.rd .aOut g :=
  (rewindNow_frame hm).cells .aOut g (by
    simp [Foot.rewind, Foot.returnTo, Foot.firings, Foot.cancelled, Foot.streams, Foot.milestone, Foot.hostDone, Foot.stations,
      Foot.rewindClose, Foot.or, Foot.of])

theorem byte_rewindNow (g : Nat) {s : State} (hm : (s.markFor g).Fits) (a : Nat) : ((rewindNow g).run s).byte a = s.byte a :=
  (rewindNow_frame hm).bytes a (by
    simp [Foot.rewind, Foot.returnTo, Foot.firings, Foot.cancelled, Foot.streams, Foot.milestone, Foot.hostDone, Foot.stations,
      Foot.rewindClose, Foot.or, Foot.of])

/-! The reach of a rewind in terms of the mark. -/

/-- What the end of a drain reaches: registers of steps, milestones, desks, the host, descriptors, recovery, the streams of the mark and
stations, with the residual counts of those in the mark. -/
def Foot.drained (mark : Option Mark) : Foot where
  keys k := stepKeys k ∨ mlsKeys k ∨ deskKeys k ∨ hostKeys k ∨ inBytes 0x02280000 0x022C0000 k ∨ inBytes 0x02500208 0x02500210 k ∨
    (∃ m q, mark = some m ∧ q ∈ m.streams ∧ ctxKeys q.1 k) ∨ (∃ e, isStation e = true ∧ stationKeys e k) ∨
    ∃ e ∈ ((mark.map (·.steps)).getD []).map (·.1), (Foot.leftOf e).keys k
  cells b _ := b ∈ [.rxSeq, .begun, .consumedSince, .tilesSince, .stepTile, .vecOrd, .commitDue, .draining, .runAlt, .streamRow,
    .cplPhase, .cplSince, .resetAsked]
  bytes _ := False
  parts q := q ∈ [.vecs, .desks, .waitMsgs, .vsyCells, .insts, .exacts, .earlyAborts, .takenCounts, .egress, .slots, .inflight,
    .hostOut, .msix]

section Drained

variable {mark : Option Mark} {k : Nat}

theorem Foot.drained_station {e : Nat} (he : isStation e = true) (h : stationKeys e k) : (Foot.drained mark).keys k :=
  .inr (.inr (.inr (.inr (.inr (.inr (.inr (.inl ⟨e, he, h⟩)))))))

theorem Foot.drained_firings {g : Nat} (hg : g < 8) (h : (Foot.firings g).keys k) : (Foot.drained mark).keys k := by
  have cluster {e : Nat} (he : e < 0x120) : isStation e = true := by simp [isStation]; omega
  rcases h with h | ⟨c, hc, h | h⟩ | h
  · exact .inr (.inr (.inl h))
  · exact Foot.drained_station (cluster (by omega)) h
  · exact Foot.drained_station (cluster (by omega)) h
  · exact .inl (by simp only [stepKeys, inBytes, GLB_STEP_STATE_IDLE] at h ⊢; omega)

theorem Foot.drained_milestone (h : (Foot.milestone []).keys k) : (Foot.drained mark).keys k := by
  rcases h with h | h | h | ⟨n, hn, -⟩
  · exact .inr (.inr (.inr (.inl h)))
  · exact .inr (.inl h)
  · exact .inr (.inr (.inl h))
  · cases hn

theorem Foot.drained_residue {e : Nat} (he : e ∈ ((mark.map (·.steps)).getD []).map (·.1)) (h : residueKeys e k) :
    (Foot.drained mark).keys k := by
  have left : (Foot.leftOf e).keys k := Or.imp_right (Or.imp_right (Or.imp_right (Or.imp_right (Or.imp_right .inl)))) h
  exact .inr (.inr (.inr (.inr (.inr (.inr (.inr (.inr ⟨e, he, left⟩)))))))

theorem Foot.drained_recovery (h : inBytes 0x02500208 0x02500210 k) : (Foot.drained mark).keys k :=
  .inr (.inr (.inr (.inr (.inr (.inl h)))))

theorem Foot.drained_close {g : Nat} (hg : g < 8) (h : (Foot.rewindClose g).keys k) : (Foot.drained mark).keys k := by
  simp only [Foot.rewindClose, Foot.of, List.mem_cons, List.not_mem_nil, or_false] at h
  rcases h with rfl | rfl | rfl | rfl | rfl
  case inl | inr.inl | inr.inr.inl =>
    exact .inl (by simp only [stepKeys, inBytes, GLB_STEP_STATE_NEXT_DIRTY, GLB_STEP_FLAGS_LOCAL, GLB_STEP_FLAGS_SRC]; omega)
  all_goals exact Foot.drained_recovery (by simp [inBytes, CNT_RECOV_STATUS_REWINDS, CNT_RECOV_STATUS_BUSY])

end Drained

/-- A graph's mark, where it has one, is what its rewind returns to. -/
theorem State.markFor_streams {s : State} {g : Nat} {q : Nat × Nat × Nat × Nat} (h : q ∈ (s.markFor g).streams) :
    ∃ m q', (s.marks.find? fun m => m.graph = g) = some m ∧ q' ∈ m.streams ∧ q'.1 = q.1 := by
  unfold State.markFor at h
  cases e : s.marks.find? fun m => m.graph = g with
  | none => simp [e] at h
  | some m => exact ⟨m, q, rfl, by simpa [e] using h, rfl⟩

theorem State.markFor_steps (s : State) (g : Nat) :
    (((s.marks.find? fun m => m.graph = g).map (·.steps)).getD []) = (s.markFor g).steps := by
  unfold State.markFor
  cases s.marks.find? fun m => m.graph = g <;> rfl

theorem rewindNow_drained {g : Nat} (hg : g < 8) {s : State} (hm : (s.markFor g).Fits) :
    Frame (Foot.drained (s.marks.find? fun m => m.graph = g)) s ((rewindNow g).run s) := by
  refine (rewindNow_frame hm).mono ?_ ?_ ?_ ?_
  · rintro k ((((h | h) | h | h | ⟨e, he, h | h⟩)) | h)
    · exact Foot.drained_firings hg h
    · exact .inr (.inr (.inr (.inr (.inl h))))
    · obtain ⟨n, hn, h⟩ := h
      obtain ⟨q, hq, rfl⟩ := List.mem_map.1 hn
      obtain ⟨m, q', hf, hq', e⟩ := State.markFor_streams hq
      exact .inr (.inr (.inr (.inr (.inr (.inr (.inl ⟨m, q', hf, hq', e ▸ h⟩))))))
    · exact Foot.drained_milestone h
    · exact Foot.drained_station (hm.stations e he) h
    · exact Foot.drained_residue (by rwa [State.markFor_steps]) h
    · exact Foot.drained_close hg h
  · intro b k h
    simp only [Foot.rewind, Foot.returnTo, Foot.firings, Foot.cancelled, Foot.streams, Foot.milestone, Foot.hostDone, Foot.stations,
      Foot.rewindClose, Foot.or, Foot.of, List.mem_cons, List.not_mem_nil, or_false] at h
    simp only [Foot.drained, List.mem_cons]
    grind
  · simp [Foot.rewind, Foot.returnTo, Foot.firings, Foot.cancelled, Foot.streams, Foot.milestone, Foot.hostDone, Foot.stations,
      Foot.rewindClose, Foot.or, Foot.of]
  · intro q h
    simp only [Foot.rewind, Foot.returnTo, Foot.firings, Foot.cancelled, Foot.streams, Foot.milestone, Foot.hostDone, Foot.stations,
      Foot.rewindClose, Foot.or, Foot.of, List.mem_cons, List.not_mem_nil, or_false, false_or] at h
    simp only [Foot.drained, List.mem_cons]
    grind

/-- The drain of a REWIND write ends in the rewind, with DONE set (R485). -/
theorem drainEnd_host_rewound {g : Nat} (hg : g < 8) {s : State} (hm : (s.markFor g).Fits) (h : s.rd .draining g = 1) :
    Rewound g s ((drainEnd g).run s) ∧ ((drainEnd g).run s).get CNT_RECOV_STATUS_DONE = 1 ∧
      Frame (Foot.drained (s.marks.find? fun m => m.graph = g)) s ((drainEnd g).run s) := by
  rw [drainEnd_host h]
  refine ⟨(rewindNow_rewound hg hm).set_done hg, State.get_set_width _ (w := 1) rfl 1, (rewindNow_drained hg hm).trans ?_⟩
  exact Frame.set _ _ _ _ (Foot.drained_recovery (by simp [inBytes, CNT_RECOV_STATUS_DONE]))

/-- The drain of a detour switch ends in the rewind and the resolution of the pass (R308). -/
theorem drainEnd_detour_settled {g : Nat} (hg : g < 8) {s : State} (hm : (s.markFor g).Fits) {p : CommitPass} (h : s.rd .draining g = 2)
    (hp : s.passOf g = some p) :
    Settled g p.halts (s.isBehind g p) s ((drainEnd g).run s) ∧ ((drainEnd g).run s).get (GLB_STEP_STATE_IN_COMMIT g) = 0 ∧
      ((drainEnd g).run s).rd .draining g = 0 ∧ ((drainEnd g).run s).passOf g = none ∧ ∀ a, ((drainEnd g).run s).byte a = s.byte a := by
  obtain rfl := graph_of_passOf hp
  rw [drainEnd_detour h hp]
  obtain ⟨settled, outside⟩ := resolveDetour_settled hg ((rewindNow p.graph).run s)
  have kept {f : Field} := get_rewindNow_kept hg hm (f := f)
  have behind : ((rewindNow p.graph).run s).isBehind p.graph p = s.isBehind p.graph p := by
    simp only [State.isBehind, kept (List.mem_cons_self)]
  refine ⟨behind ▸ settled.congr (fun _ _ => rfl) (fun f hf => kept hf) (aOut_rewindNow _ hm), outside, ?_, passOf_resolveDetour p _,
    fun a => ?_⟩
  · rw [draining_resolveDetour, (rewindNow_rewound hg hm).drained]
  · rw [byte_resolveDetour, byte_rewindNow _ hm]

/-- Settles O48: each control does what its conditions say; the drain's end goes by whose drain it was. -/
theorem stepControlsActUnderTheirConditions : Obligations.StepControlsActUnderTheirConditions := by
  unfold Obligations.StepControlsActUnderTheirConditions
  intro g s hs
  refine ⟨?halt, ?alone, ?dropped, ?started, ⟨?taken, ?refused⟩, ?forced, ?number, ?rewind, ?undrained, fun fits => ?drained⟩
  case halt =>
    exact ⟨_, exec_stepHalt hs g, get_halted_haltGraph _ _ _ _, get_idle_haltGraph _ _ _ _, faultDue_haltGraph _ _ _ _,
      haltGraph_within _ _ _ s⟩
  case alone =>
    intro h
    rw [exec_resume hs, resume_alone h]
  case dropped =>
    intro hh hd hr
    rw [exec_resume hs, resume_attempt hh hd, if_neg (by simp [hr]), Act.run_put]
  case started =>
    intro hh hd hr
    rw [exec_resume hs, resume_attempt hh hd, if_pos hr, exec_commitAttempt (running_set_halted hs _ _)]
  case taken =>
    intro ok
    obtain ⟨half, num, outcome⟩ := get_rollback ok
    exact ⟨_, exec_rollback hs g, half, num, outcome, rollback_taken_frame ok⟩
  case refused =>
    intro nok
    rw [exec_rollback hs, rollback_refused nok]
  case forced =>
    obtain ⟨src, loc⟩ := get_raiseSource_forced g.val s
    exact ⟨_, exec_forceFail hs g, src, loc, raiseSource_forced_frame g.val s⟩
  case number =>
    refine fun v => ⟨fun ok => ?_, fun nok enabled => ?_⟩
    · rw [exec_stepNumWrite hs, stepNumWrite_taken ok]
    · rw [exec_stepNumWrite hs, stepNumWrite_ignored nok enabled]
  case rewind =>
    intro outcome
    refine ⟨fun ok => ?_, fun nok => ?_⟩
    · rw [exec_rewind hs, rewindRequest_taken ok]
    · rw [exec_rewind hs, rewindRequest_refused nok]
  case undrained =>
    intro h
    rw [exec_rewindDrainEnd hs, drainEnd_none h]
  case drained =>
    have hm : (s.markFor g.val).Fits := State.markFor_fits fun m h => by
      obtain ⟨streams, mls, descs, steps, nodup⟩ := fits m h
      exact ⟨streams, mls, descs, steps, nodup⟩
    refine ⟨fun h => ?_, fun p h hp => ?_⟩
    · obtain ⟨⟨drained, counted, clean, src, loc, streams, insts, desks, vecs⟩, done, frame⟩ := drainEnd_host_rewound g.isLt hm h
      refine ⟨_, exec_rewindDrainEnd hs g, ⟨drained, counted, clean, src, loc, fun m hf q hq => ?_, insts, desks, vecs⟩, done, frame⟩
      obtain ⟨next, tiles, flows, empty⟩ := streams q (by rwa [State.markFor_eq hf])
      exact ⟨next, tiles, flows, empty⟩
    · obtain ⟨⟨outcome, halted, cseq, kept, passed⟩, outside, drained, ended, bytes⟩ := drainEnd_detour_settled g.isLt hm h hp
      exact ⟨_, exec_rewindDrainEnd hs g, drained, ended, outside, outcome, halted, cseq, kept, passed, bytes⟩

end Sys2Proof.Machine
end

section
/-!
SUPPORT. Two BUDGET commands of one ring in flight under one HSEQ (R378, R379, R385). HSEQ wraps modulo 2^32, and acceptance asks for
SEQ_NEXT alone, so that a ring takes the HSEQ of a command still in flight again after 2^32 commands. The model ends every command that
bears the ring and the HSEQ of one that ends: the end of the first takes the second along, without a completion of its own.
-/

namespace Sys2Proof.Machine

open Reg

/-- Bytes 8 to 15 of a completion entry are the TAG of its command (R381). -/
theorem tag_cplEntry (dseq : Nat) (c : HostCmd) (status phase result : Nat) :
    leNat (((cplEntry dseq c status phase result).drop 8).take 8) = c.tag % 256 ^ 8 := by
  have len : (leBytes 4 dseq ++ leBytes 4 c.hseq).length = 8 := by simp [length_leBytes]
  simp only [cplEntry, List.append_assoc]
  rw [← List.append_assoc, List.drop_left' len, List.take_left' (length_leBytes 8 _), leNat_leBytes]

/-- A BUDGET of ring 3 under HSEQ 7, with TAG 1, that has selected set 1 and waits for the change. -/
def waitingBudget : HostCmd := ⟨3, opBudget, true, false, 7, 1, 1, 0, true, 0⟩

/-- The entry of a BUDGET under the same HSEQ, with TAG 2, that selects set 0, and the command that it spells. -/
def twinEntry : Nat := opBudget + 1 <<< 16 + 7 <<< 32 + 2 <<< 64
def twinBudget : HostCmd := cmdOf 3 twinEntry

/-- Ring 3 runs, with HSEQ `next` expected and some commands in flight; set 0 is in force, and the change to set 1 waits. -/
def ringOfBudgets (next : Nat) (cmds : List HostCmd) : State :=
  let fields := [(HST_CMD_CTRL_RUN 3, 1), (HST_CMD_STATUS_STOPPED 3, 0), (HST_CMD_STATUS_INFLIGHT 3, cmds.length), (HST_CMD_PTR_TAIL 3, 8),
    (HST_CMD_PTR_HEAD 3, next), (HST_CMD_SEQ_NEXT_SEQ 3, next), (HST_CMD_SEQ_ACCEPTED_SEQ 3, next - 1), (GLB_BUDGET_SET_SEL, 1),
    (GLB_BUDGET_SET_PENDING, 1)]
  { fields.foldl (fun s f => s.set f.1 f.2) State.reset with inflight := cmds }

def twinBudgets : State := ringOfBudgets 8 [waitingBudget, twinBudget]

/-- The ring accepts the second command while the first is in flight (R382). -/
theorem exec_commandAccept_twin :
    exec (.commandAccept 3 (some (.ofNat 512 twinEntry))) (ringOfBudgets 7 [waitingBudget]) = .next twinBudgets :=
  (live_eq (by decide +kernel)).trans (congrArg Host.Outcome.next (by decide +kernel))

theorem twinBudget_starts : Starts 3 opBudget twinBudget twinBudgets :=
  ⟨by decide +kernel, by decide +kernel, by decide +kernel, by decide +kernel⟩

/-- The second command selects the set in force, which ends the change that waits; the first one's completion is the only one posted. -/
theorem exec_budget_twins : ∃ t, exec (.budget 3 false) twinBudgets = .next t ∧
    t.hostOut = [(0, cplEntry 0 waitingBudget stOk 1 0)] :=
  ⟨_, live_eq twinBudget_starts.on, by decide +kernel⟩

/-- Refutes O52: a BUDGET with nothing left to change does not complete where an earlier one in flight bears its HSEQ, for the one
completion posted has the TAG of the earlier one. -/
theorem not_hostCommandsRunAndComplete : ¬ Obligations.HostCommandsRunAndComplete := by
  unfold Obligations.HostCommandsRunAndComplete
  rintro ⟨-, -, runs⟩
  obtain ⟨-, -, -, -, -, -, budget, -⟩ := runs 3 twinBudget twinBudgets
  obtain ⟨t, ran, -, -, -, -, completes, -⟩ := (budget twinBudget_starts false).2 (by decide +kernel)
  have completed : Completed twinBudget stOk _ t := completes (by decide +kernel)
  obtain ⟨a, dseq, phase, posted⟩ := completed.posted (.inl (by decide +kernel))
  obtain ⟨u, ran', only⟩ := exec_budget_twins
  obtain rfl : u = t := Host.Outcome.next.inj (ran'.symm.trans ran)
  rw [only, List.mem_singleton, Prod.mk.injEq] at posted
  have tags := congrArg (fun e => leNat ((e.drop 8).take 8)) posted.2
  simp only [tag_cplEntry] at tags
  exact absurd tags (by decide +kernel)

end Sys2Proof.Machine
end

section
/-!
SUPPORT. The security block (R403–R413, R418, R419): how a SEC command completes, what each command does before it completes, what an
extension leaves in a measurement register, and what the mailbox answers.
-/

namespace Sys2Proof.Machine

open Reg

/-! Bits and bytes. -/

theorem bitAt_eq_testBit (n i : Nat) : bitAt n i = n.testBit i := by
  rw [Nat.testBit_eq_decide_div_mod_eq, bitAt, Nat.shiftRight_eq_div_pow]

/-- A replaced bit reads as the bit put there, and every other bit as before. -/
theorem bitAt_setBits (n lo v i : Nat) : bitAt (setBits n lo 1 v) i = if i = lo then decide (v % 2 = 1) else bitAt n i := by
  have low : n % 2 ^ lo < 2 ^ lo := Nat.mod_lt _ (Nat.two_pow_pos _)
  have parts : setBits n lo 1 v = 2 ^ lo * (2 ^ 1 * (n / 2 ^ (lo + 1)) + v % 2) + n % 2 ^ lo := by
    rw [setBits_eq, Nat.pow_one, Nat.pow_succ, Nat.mul_add, Nat.mul_comm (v % 2), Nat.mul_comm (n / _), Nat.mul_assoc]
    omega
  rw [bitAt_eq_testBit, bitAt_eq_testBit, parts, Nat.testBit_two_pow_mul_add _ low]
  rcases Nat.lt_trichotomy i lo with h | rfl | h
  · rw [if_pos h, if_neg (by omega), Nat.testBit_mod_two_pow, decide_eq_true h, Bool.true_and]
  · rw [if_neg (by omega), if_pos rfl, Nat.sub_self, Nat.testBit_two_pow_mul_add _ (Nat.mod_lt _ (by decide)), if_pos (by omega),
      Nat.testBit_zero, Nat.mod_mod]
  · rw [if_neg (by omega), if_neg (by omega), Nat.testBit_two_pow_mul_add _ (Nat.mod_lt _ (by decide)), if_neg (by omega),
      Nat.testBit_div_two_pow]
    congr 1
    omega

theorem b2n_lt (b : Bool) : b2n b < 2 := by cases b <;> decide

theorem leBytes_mod (n x : Nat) : leBytes n (x % 256 ^ n) = leBytes n x := by
  have := leBytes_of_list (leBytes n x)
  rwa [length_leBytes, leNat_leBytes, eq_comm] at this

/-- The first dwords of a number, byte by byte. -/
theorem flatMap_dwords (n x : Nat) : ((List.range n).flatMap fun k => leBytes 4 (bits x (32 * k) 32)) = leBytes (4 * n) x := by
  induction n with
  | zero => rfl
  | succ n ih =>
    have base : 2 ^ (32 * n) = 256 ^ (4 * n) := by
      rw [Nat.pow_mul, Nat.pow_mul]
    rw [List.range_succ, List.flatMap_append, ih, Nat.mul_succ, leBytes_append, List.flatMap_singleton, bits, Nat.shiftRight_eq_div_pow,
      show 2 ^ 32 = 256 ^ 4 from rfl, leBytes_mod, base]

/-- Bit `i` of a packed list of bits. -/
theorem bitAt_pack (l : List Nat) (i : Nat) (h : i < l.length) : bitAt (pack 1 l) i = decide (l[i] % 2 = 1) := by
  have := bits_pack 1 l i h
  rw [Nat.mul_one, bits] at this
  exact congrArg (fun x => decide (x = 1)) this

/-! Cells and fields that a command writes one after another. -/

/-- Cells written from `lo` upwards read back, and every other cell as before. -/
theorem rd_each_put (b : Bank) (lo n : Nat) (v : Nat → Nat) (s : State) (c : Bank) (j : Nat) :
    ((Act.each (List.range n) fun i => .put b (lo + i) (v i)).run s).rd c j =
      if b = c ∧ lo ≤ j ∧ j < lo + n then v (j - lo) else s.rd c j := by
  induction n with
  | zero => rw [List.range_zero, Act.run_each_nil, if_neg (by omega)]
  | succ n ih =>
    rw [List.range_succ, Act.run_each_append, Act.run_each_cons, Act.run_each_nil, Act.run_put, State.rd_wr, ih]
    by_cases last : b = c ∧ lo + n = j
    · obtain ⟨rfl, rfl⟩ := last
      rw [if_pos ⟨rfl, rfl⟩, if_pos ⟨rfl, by omega⟩, Nat.add_sub_cancel_left]
    · rw [if_neg last]
      by_cases earlier : b = c ∧ lo ≤ j ∧ j < lo + n
      · obtain ⟨bank, low, high⟩ := earlier
        rw [if_pos ⟨bank, low, high⟩, if_pos ⟨bank, low, by omega⟩]
      · rw [if_neg earlier, if_neg]
        rintro ⟨bank, low, high⟩
        have : lo + n ≠ j := fun e => last ⟨bank, e⟩
        exact earlier ⟨bank, low, by omega⟩

/-- Among fields at different bits, each takes its own value. -/
theorem get_each_set {F : Nat → Field} (apart : ∀ i j, (F i).key = (F j).key → i = j) (n : Nat) (v : Nat → Nat) (s : State) {k : Nat}
    (hk : k < n) : ((Act.each (List.range n) fun i => .set (F i) (v i)).run s).get (F k) = v k % 2 ^ (F k).width := by
  induction n with
  | zero => omega
  | succ n ih =>
    rw [List.range_succ, Act.run_each_append, Act.run_each_cons, Act.run_each_nil, Act.run_set]
    by_cases last : n = k
    · rw [last, State.get_set_self]
    · rw [State.get_set_ne _ (fun e => last (apart _ _ e)), ih (by omega)]

/-! Measurement registers (R407, R408). -/

theorem length_meas (s : State) (i : Nat) : (s.meas i).length = 64 := by
  simp only [State.meas, List.length_flatMap, length_leBytes]
  rfl

theorem meas_congr {s t : State} {i : Nat} (h : ∀ k, t.get (SEC_MEAS_VALUE i k) = s.get (SEC_MEAS_VALUE i k)) : t.meas i = s.meas i := by
  simp only [State.meas, h]

theorem extendMeas_within {F : Foot} {i : Nat} (h : ∀ k < 16, F.keys (SEC_MEAS_VALUE i k).key) (d : List Byte) :
    (extendMeas i d).Within F :=
  .ask fun _ => .each_mem fun k hk => .set (h k (List.mem_range.1 hk))

/-- An extended register holds the hash of its value and the data. -/
theorem meas_extendMeas (i : Nat) (d : List Byte) (s : State) : ((extendMeas i d).run s).meas i = shake256 64 (s.meas i ++ d) := by
  have apart (j k : Nat) (e : (SEC_MEAS_VALUE i j).key = (SEC_MEAS_VALUE i k).key) : j = k := by
    simp only [SEC_MEAS_VALUE] at e
    omega
  have value : ((extendMeas i d).run s).meas i =
      (List.range 16).flatMap fun k => leBytes 4 (bits (leNat (shake256 64 (s.meas i ++ d))) (32 * k) 32) := by
    rw [State.meas, List.flatMap_def, List.flatMap_def]
    refine congrArg List.flatten (List.map_congr_left fun k hk => ?_)
    rw [extendMeas, Act.run_ask, get_each_set apart 16 _ s (List.mem_range.1 hk)]
    exact congrArg (leBytes 4) (Nat.mod_eq_of_lt (bits_lt _ _ _))
  rw [value, flatMap_dwords]
  have := leBytes_of_list (shake256 64 (s.meas i ++ d))
  rwa [shake256, length_leBytes, eq_comm] at this

/-! The completion of a SEC command (R404, R418, R419). -/

/-- The fields that the completion of a SEC command sets. -/
def secStatus : List Field :=
  [SEC_STATE_OTHER_VALID, SEC_FW_INFO_OTHER_VERSION, SEC_STATE_PREF_SLOT, SEC_STATE_REQUIRE_SIGNED, SEC_STATE_FUSE_SVN, SEC_STATE_KEYS,
    SEC_CMD_STATUS_DONE, SEC_CMD_STATUS_CODE]

theorem Foot.sec_status {f : Field} (h : f ∈ secStatus) (l : List Field) (banks : List Bank) : (Foot.sec l banks).keys f.key :=
  ⟨f, List.mem_append_right l h, rfl⟩

theorem Foot.sec_own {f : Field} {l : List Field} (h : f ∈ l) (banks : List Bank) : (Foot.sec l banks).keys f.key :=
  ⟨f, List.mem_append_left _ h, rfl⟩

/-- A larger footprint of a SEC command. -/
theorem Frame.sec_mono {l m : List Field} {b c : List Bank} {s t : State} (h : Frame (Foot.sec l b) s t) (hl : l ⊆ m) (hb : b ⊆ c) :
    Frame (Foot.sec m c) s t :=
  h.mono (fun _ ⟨f, hf, e⟩ => ⟨f, (List.mem_append.1 hf).elim (fun x => List.mem_append_left _ (hl x)) (List.mem_append_right _), e⟩)
    (fun _ _ x => hb x) (fun _ => id) (fun _ => id)

/-- A field apart from those of a command's footprint. -/
theorem Frame.sec_get {l : List Field} {banks : List Bank} {s t : State} (h : Frame (Foot.sec l banks) s t) {f : Field}
    (hf : ∀ g ∈ l ++ secStatus, f.key ≠ g.key) : t.get f = s.get f :=
  h.regs f fun ⟨g, hg, e⟩ => hf g hg e

theorem secRefresh_within (l : List Field) (banks : List Bank) : secRefresh.Within (Foot.sec l banks) := by
  have status {f : Field} {v : Nat} (h : f ∈ secStatus) : (Act.set f v).Within (Foot.sec l banks) := .set (Foot.sec_status h l banks)
  exact .ask fun s => .cons (status (by simp [secStatus])) (.cons (status (by simp [secStatus])) (.cons (status (by simp [secStatus]))
    (.cons (status (by simp [secStatus])) (.cons (status (by simp [secStatus])) (.cons (status (by simp [secStatus])) .nil)))))

/-- The end of a command that completes with `code`, BUSY where SEC_CMD was written again. -/
def secEnd (code : Nat) (again : Bool) : Act := secRun (secDone code) again

theorem secEnd_within (code : Nat) (again : Bool) (l : List Field) (banks : List Bank) : (secEnd code again).Within (Foot.sec l banks) := by
  have status {f : Field} {v : Nat} (h : f ∈ secStatus) : (Act.set f v).Within (Foot.sec l banks) := .set (Foot.sec_status h l banks)
  exact .seq (.cons (secRefresh_within l banks) (.cons (status (by simp [secStatus])) (.cons (status (by simp [secStatus])) .nil)))
    (.when (status (by simp [secStatus])))

theorem secRun_of_done {a : Act} {code : Nat} {s u : State} (h : a.run s = (secDone code).run u) (again : Bool) :
    (secRun a again).run s = (secEnd code again).run u := by
  simp only [secEnd, secRun, Act.run_seq, h]

@[simp] theorem rd_secEnd (code : Nat) (again : Bool) (u : State) (b : Bank) (k : Nat) :
    ((secEnd code again).run u).rd b k = u.rd b k :=
  (secEnd_within code again [] [] u).cells b k (List.not_mem_nil)

theorem get_secEnd {f : Field} (h : ∀ g ∈ secStatus, f.key ≠ g.key) (code : Nat) (again : Bool) (u : State) :
    ((secEnd code again).run u).get f = u.get f :=
  (secEnd_within code again [] [] u).regs f fun ⟨g, hg, e⟩ => h g hg e

/-- The fields of a measurement register lie above those that a completion sets, and above SEC_STATE. -/
theorem meas_apart (i k : Nat) : ∀ g ∈ SEC_STATE_DEBUG_UNLOCKED :: secStatus, (SEC_MEAS_VALUE i k).key ≠ g.key := by
  intro g hg
  have low : g.key < 0x02701000 * 8 :=
    (show ∀ g ∈ SEC_STATE_DEBUG_UNLOCKED :: secStatus, g.key < 0x02701000 * 8 by decide) g hg
  simp only [SEC_MEAS_VALUE]
  omega

@[simp] theorem meas_secEnd (code : Nat) (again : Bool) (u : State) (i : Nat) : ((secEnd code again).run u).meas i = u.meas i :=
  meas_congr fun k => get_secEnd (fun g hg => meas_apart i k g (List.mem_cons_of_mem _ hg)) code again u

theorem fwRaw_congr {s t : State} (h : t.bank .flash = s.bank .flash) (k : Nat) : t.fwRaw k = s.fwRaw k := by
  rw [State.fwRaw, State.fwRaw, show t.flash = s.flash from h]

@[simp] theorem fwRaw_secEnd (code : Nat) (again : Bool) (u : State) (k : Nat) : ((secEnd code again).run u).fwRaw k = u.fwRaw k := by
  refine fwRaw_congr ?_ k
  cases again <;> simp [secEnd, secRun, secDone, secRefresh]

@[simp] theorem slotValid_secEnd (code : Nat) (again : Bool) (u : State) (k : Nat) :
    ((secEnd code again).run u).slotValid k = u.slotValid k := by
  simp only [State.slotValid, fwRaw_secEnd, rd_secEnd]

@[simp] theorem slotBad_secEnd (code : Nat) (again : Bool) (u : State) (k : Nat) : ((secEnd code again).run u).slotBad k = u.slotBad k := by
  simp only [State.slotBad, rd_secEnd]

@[simp] theorem prefSlot_secEnd (code : Nat) (again : Bool) (u : State) : ((secEnd code again).run u).prefSlot = u.prefSlot := by
  simp only [State.prefSlot, rd_secEnd]

/-- What a completion leaves in a field of SEC_STATE and SEC_FW_INFO is what bringing them up to date leaves there. -/
theorem get_secEnd_refresh {f : Field} (hd : f.key ≠ SEC_CMD_STATUS_DONE.key) (hc : f.key ≠ SEC_CMD_STATUS_CODE.key) (code : Nat)
    (again : Bool) (u : State) : ((secEnd code again).run u).get f = (secRefresh.run u).get f := by
  cases again <;> simp [secEnd, secRun, secDone, State.get_set_ne, hd.symm, hc.symm]

theorem keys_secRefresh (u : State) (k : Nat) (hk : k < 4) :
    bitAt ((secRefresh.run u).get SEC_STATE_KEYS) k = decide (u.rd .custKey k ≠ 0) := by
  have fits := pack_lt 1 ((List.range 4).map fun k => b2n (u.rd .custKey k ≠ 0))
  have value : (secRefresh.run u).get SEC_STATE_KEYS = pack 1 ((List.range 4).map fun k => b2n (u.rd .custKey k ≠ 0)) :=
    (State.get_set_self _ _ _).trans (Nat.mod_eq_of_lt fits)
  rw [value, bitAt_pack _ k (by simpa using hk), List.getElem_map, List.getElem_range]
  by_cases h : u.rd .custKey k = 0 <;> simp [h, b2n]

/-- What bringing SEC_STATE and SEC_FW_INFO up to date leaves in them, field by field (R418). -/
theorem get_secRefresh (u : State) :
    let o := 1 - u.get SEC_STATE_BOOT_SLOT
    (secRefresh.run u).get SEC_STATE_OTHER_VALID = b2n (u.slotValid o) ∧
    (secRefresh.run u).get SEC_FW_INFO_OTHER_VERSION = (if u.slotValid o then fwVersion (u.fwRaw o) else 0) ∧
    (secRefresh.run u).get SEC_STATE_PREF_SLOT = u.prefSlot ∧
    (secRefresh.run u).get SEC_STATE_REQUIRE_SIGNED = u.rd .bootMeta 1 % 2 ∧
    (secRefresh.run u).get SEC_STATE_FUSE_SVN = u.rd .fuse 4 % 2 ^ 7 := by
  have version (o : Nat) : (if u.slotValid o then fwVersion (u.fwRaw o) else 0) < 2 ^ 16 := by
    split
    · exact bits_lt _ _ _
    · decide
  simp (disch := decide) only [secRefresh, Act.run_ask, Act.run_all_cons, Act.run_all_nil, Act.run_set, State.get_set_ne, State.get_set_self]
  exact ⟨Nat.mod_eq_of_lt (b2n_lt _), Nat.mod_eq_of_lt (version _), Nat.mod_eq_of_lt (Nat.mod_lt _ (by decide)),
    Nat.mod_eq_of_lt (Nat.mod_lt _ (by decide)), rfl⟩

/-- A command that completes ends as SEC_STATE and SEC_CMD_STATUS say. -/
theorem secEnds_secEnd {code : Nat} (hc : code < 2 ^ 8) (again : Bool) {s u : State}
    (slot : u.get SEC_STATE_BOOT_SLOT = s.get SEC_STATE_BOOT_SLOT) : SecEnds code again s ((secEnd code again).run u) := by
  have refreshed {f : Field} (hd : f.key ≠ SEC_CMD_STATUS_DONE.key) (hk : f.key ≠ SEC_CMD_STATUS_CODE.key) :=
    get_secEnd_refresh hd hk code again u
  obtain ⟨other, version, pref, policy, svn⟩ := get_secRefresh u
  refine ⟨?_, ?_, ?_, ?_, ?_, ?_, ?_, fun k hk => ?_⟩
  · cases again <;> simp [secEnd, secRun, secDone, State.get_set_ne, SEC_CMD_STATUS_DONE, SEC_CMD_STATUS_CODE]
  · cases again
    · exact (State.get_set_self _ _ _).trans (Nat.mod_eq_of_lt hc)
    · exact State.get_set_self _ _ _
  · rw [refreshed (by decide) (by decide), slotValid_secEnd, ← slot, other]
  · rw [refreshed (by decide) (by decide), slotValid_secEnd, fwRaw_secEnd, ← slot, version]
  · rw [refreshed (by decide) (by decide), prefSlot_secEnd, pref]
  · rw [refreshed (by decide) (by decide), rd_secEnd, policy]
  · rw [refreshed (by decide) (by decide), rd_secEnd, svn]
  · rw [refreshed (by decide) (by decide), keys_secRefresh u k hk, rd_secEnd]

end Sys2Proof.Machine
end

section
/-!
SUPPORT. The SEC commands on firmware slots and fuses (R403, R404): what each does before it completes, and its status code.
-/

namespace Sys2Proof.Machine

open Reg

/-- A command that does its part and completes: it answers, ends with its code, and stays within its footprint. -/
theorem sec_completes {c : Bool → Instr} {a : Act} {code : Nat} {s u : State} {l : List Field} {banks : List Bank}
    (ex : ∀ again, exec (c again) s = .next ((secRun a again).run s)) (h : a.run s = (secDone code).run u) (hc : code < 2 ^ 8)
    (frame : Frame (Foot.sec l banks) s u) (apart : ∀ g ∈ l ++ secStatus, SEC_STATE_BOOT_SLOT.key ≠ g.key) (again : Bool) :
    exec (c again) s = .next ((secEnd code again).run u) ∧ SecEnds code again s ((secEnd code again).run u) ∧
      Frame (Foot.sec l banks) s ((secEnd code again).run u) :=
  ⟨(ex again).trans (congrArg _ (secRun_of_done h again)), secEnds_secEnd hc again (frame.sec_get apart),
    frame.trans (secEnd_within code again l banks u)⟩

/-- A command that completes with its status code and nothing else. -/
theorem sec_refused {c : Bool → Instr} {a : Act} {code : Nat} {s : State} (ex : ∀ again, exec (c again) s = .next ((secRun a again).run s))
    (h : a.run s = (secDone code).run s) (hc : code < 2 ^ 8) (again : Bool) :
    ∃ t, exec (c again) s = .next t ∧ SecEnds code again s t ∧ Frame (Foot.sec [] []) s t :=
  ⟨_, sec_completes ex h hc (Frame.refl _ s) (by decide) again⟩

/-! Firmware slots (R404). -/

/-- Arguments that FW_WRITE answers with BAD_ARG (R404). -/
def BadWriteArgs (s : State) : Prop :=
  s.get SEC_ARG0_VALUE % 65536 ≠ 0 ∨ slotBytes ≤ s.get SEC_ARG0_VALUE ∨ s.get SEC_ARG1_VALUE = 0 ∨ 65536 < s.get SEC_ARG1_VALUE

theorem fwWrite_active {s : State} {k : Nat} (h : s.slotActive k = true) : (fwWrite k).run s = (secDone secSlotActive).run s := by
  simp [fwWrite, h]

theorem badWriteArgs_iff {s : State} :
    (s.get SEC_ARG0_VALUE % 65536 ≠ 0 || slotBytes ≤ s.get SEC_ARG0_VALUE || s.get SEC_ARG1_VALUE = 0 || 65536 < s.get SEC_ARG1_VALUE) = true ↔
      BadWriteArgs s := by
  simp [BadWriteArgs, or_assoc]

theorem fwWrite_badArg {s : State} {k : Nat} (h : s.slotActive k = false) (bad : BadWriteArgs s) :
    (fwWrite k).run s = (secDone secBadArg).run s := by
  rw [fwWrite, Act.run_ask, if_neg (by simp [h]), if_pos (badWriteArgs_iff.2 bad)]

/-- The staged bytes in the slot, with the slot written and no longer sealed. -/
def programmed (k : Nat) (s : State) : State :=
  ((Act.each (List.range (s.get SEC_ARG1_VALUE)) fun i =>
    .put .flash (slotBytes * k + s.get SEC_ARG0_VALUE + i) (s.rd .staging i)).run s).wr .slotMeta k
      (setBits (setBits (s.rd .slotMeta k) 0 1 1) 1 1 0)

theorem fwWrite_programs {s : State} {k : Nat} (h : s.slotActive k = false) (good : ¬ BadWriteArgs s) :
    (fwWrite k).run s = (secDone secOk).run (programmed k s) := by
  rw [fwWrite, Act.run_ask, if_neg (by simp [h]), if_neg (mt badWriteArgs_iff.1 good)]
  rfl

theorem programmed_frame (k : Nat) (s : State) : Frame (Foot.sec [] [.flash, .slotMeta]) s (programmed k s) :=
  (Act.Within.each (F := Foot.sec [] [.flash, .slotMeta]) (fun _ => .put (by simp [Foot.sec, Foot.of])) s).trans
    (Frame.wr _ _ _ _ _ (by simp [Foot.sec, Foot.of]))

theorem fwSeal_active {s : State} {k : Nat} (h : s.slotActive k = true) : (fwSeal k).run s = (secDone secSlotActive).run s := by
  simp [fwSeal, h]

theorem fwSeal_valid {s : State} {k : Nat} (h : s.slotActive k = false) (v : s.slotValid k = true) :
    (fwSeal k).run s = (secDone secOk).run (s.wr .slotMeta k 2) := by
  simp [fwSeal, h, v]

theorem fwSeal_invalid {s : State} {k : Nat} (h : s.slotActive k = false) (v : s.slotValid k = false) :
    (fwSeal k).run s = (secDone secInvalid).run (s.wr .slotMeta k (setBits (s.rd .slotMeta k) 1 1 0)) := by
  simp [fwSeal, h, v]

theorem setPref_valid {s : State} {k : Nat} (w : bitAt (s.rd .slotMeta k) 0 = false) (v : s.slotValid k = true) :
    (setPref k).run s = (secDone secOk).run (s.wr .bootMeta 0 k) := by
  simp [setPref, w, v]

theorem setPref_invalid {s : State} {k : Nat} (h : bitAt (s.rd .slotMeta k) 0 = true ∨ s.slotValid k = false) :
    (setPref k).run s = (secDone secInvalid).run s := by
  rcases h with h | h <;> simp [setPref, h]

theorem slot_ne_other (slot : Bool) : b2n slot ≠ 1 - b2n slot := by cases slot <;> decide

/-! COMMIT_SVN (R403). -/

theorem firmwareOnly_recovery {s : State} (h : s.recovery = true) (a : Act) : (firmwareOnly a).run s = (secDone secRefused).run s := by
  simp [firmwareOnly, h]

theorem firmwareOnly_firmware {s : State} (h : s.recovery = false) (a : Act) : (firmwareOnly a).run s = a.run s := by
  simp [firmwareOnly, h]

/-- What COMMIT_SVN asks for: firmware that runs from the slot that the ROM tried first, has reported BOOT_OK, and is newer than the
fuses. -/
def CommitsSvn (s : State) : Prop :=
  s.recovery = false ∧ s.get GLB_BOOT_STATUS_BOOT_OK = 1 ∧ s.get SEC_STATE_FELL_BACK = 0 ∧ s.rd .fuse 4 < s.get SEC_STATE_RUN_SVN

theorem commitSvn_burns {s : State} (h : CommitsSvn s) :
    (firmwareOnly commitSvn).run s = (secDone secOk).run (s.wr .fuse 4 (s.get SEC_STATE_RUN_SVN)) := by
  obtain ⟨rec, ok, back, svn⟩ := h
  simp [firmwareOnly_firmware rec, commitSvn, ok, back, svn]

theorem commitSvn_refused {s : State} (h : ¬ CommitsSvn s) : (firmwareOnly commitSvn).run s = (secDone secRefused).run s := by
  cases rec : s.recovery with
  | true => exact firmwareOnly_recovery rec _
  | false =>
    rw [firmwareOnly_firmware rec, commitSvn, Act.run_ask, if_neg]
    simpa [CommitsSvn, rec] using h

/-! The commands where they act. -/

section Commands

variable {s : State} (hs : s.enumerated = true) (slot again : Bool)

include hs

/-- FW_WRITE programs the staged bytes from ARG0 on, and the slot is written and not sealed (R404). -/
theorem exec_fwWrite_programs (h : s.slotActive (b2n slot) = false) (good : ¬ BadWriteArgs s) :
    let k := b2n slot
    let o := s.get SEC_ARG0_VALUE
    let n := s.get SEC_ARG1_VALUE
    ∃ t, exec (.fwWrite slot again) s = .next t ∧ SecEnds secOk again s t ∧
      (∀ i, t.rd .flash i = if slotBytes * k + o ≤ i ∧ i < slotBytes * k + o + n then s.rd .staging (i - (slotBytes * k + o))
        else s.rd .flash i) ∧
      bitAt (t.rd .slotMeta k) 0 = true ∧ bitAt (t.rd .slotMeta k) 1 = false ∧ t.slotBad k = s.slotBad k ∧
      t.rd .slotMeta (1 - k) = s.rd .slotMeta (1 - k) ∧ Frame (Foot.sec [] [.flash, .slotMeta]) s t := by
  have word : (programmed (b2n slot) s).rd .slotMeta (b2n slot) = setBits (setBits (s.rd .slotMeta (b2n slot)) 0 1 1) 1 1 0 := by
    simp [programmed]
  obtain ⟨ex, ends, frame⟩ := sec_completes (c := .fwWrite slot) (fun _ => secLive_eq hs) (fwWrite_programs h good) (by decide)
    (programmed_frame _ s) (by decide) again
  refine ⟨_, ex, ends, fun i => ?_, ?_, ?_, ?_, ?_, frame⟩
  · rw [rd_secEnd, programmed, State.rd_wr, if_neg (by simp), rd_each_put]
    simp
  · rw [rd_secEnd, word, bitAt_setBits, bitAt_setBits]
    rfl
  · rw [rd_secEnd, word, bitAt_setBits]
    rfl
  · rw [slotBad_secEnd, State.slotBad, word, bitAt_setBits, bitAt_setBits]
    rfl
  · rw [rd_secEnd, programmed, State.rd_wr, if_neg (fun e => slot_ne_other slot e.2), rd_each_put]
    simp

/-- FW_SEAL of a valid slot leaves it sealed, neither written nor BAD (R404). -/
theorem exec_fwSeal_valid (h : s.slotActive (b2n slot) = false) (v : s.slotValid (b2n slot) = true) :
    ∃ t, exec (.fwSeal slot again) s = .next t ∧ SecEnds secOk again s t ∧ t.rd .slotMeta (b2n slot) = 2 ∧
      t.rd .slotMeta (1 - b2n slot) = s.rd .slotMeta (1 - b2n slot) ∧ Frame (Foot.sec [] [.slotMeta]) s t := by
  obtain ⟨ex, ends, frame⟩ := sec_completes (c := .fwSeal slot) (l := []) (banks := [.slotMeta]) (fun _ => secLive_eq hs)
    (fwSeal_valid h v) (by decide) (Frame.wr _ _ _ _ _ (List.mem_singleton_self _)) (by decide) again
  exact ⟨_, ex, ends, by simp, by simp [slot_ne_other], frame⟩

/-- FW_SEAL of a slot that is not valid leaves it not sealed, and its other marks (R404). -/
theorem exec_fwSeal_invalid (h : s.slotActive (b2n slot) = false) (v : s.slotValid (b2n slot) = false) :
    let k := b2n slot
    ∃ t, exec (.fwSeal slot again) s = .next t ∧ SecEnds secInvalid again s t ∧ bitAt (t.rd .slotMeta k) 1 = false ∧
      bitAt (t.rd .slotMeta k) 0 = bitAt (s.rd .slotMeta k) 0 ∧ t.slotBad k = s.slotBad k ∧
      t.rd .slotMeta (1 - k) = s.rd .slotMeta (1 - k) ∧ Frame (Foot.sec [] [.slotMeta]) s t := by
  obtain ⟨ex, ends, frame⟩ := sec_completes (c := .fwSeal slot) (l := []) (banks := [.slotMeta]) (fun _ => secLive_eq hs)
    (fwSeal_invalid h v) (by decide) (Frame.wr _ _ _ _ _ (List.mem_singleton_self _)) (by decide) again
  exact ⟨_, ex, ends, by simp [bitAt_setBits], by simp [bitAt_setBits], by simp [State.slotBad, bitAt_setBits], by simp [slot_ne_other], frame⟩

/-- SET_PREF of a sealed and valid slot makes it the preferred one (R404). -/
theorem exec_setPref_valid (w : bitAt (s.rd .slotMeta (b2n slot)) 0 = false) (v : s.slotValid (b2n slot) = true) :
    ∃ t, exec (.setPref slot again) s = .next t ∧ SecEnds secOk again s t ∧ t.prefSlot = b2n slot ∧
      (∀ i ≠ 0, t.rd .bootMeta i = s.rd .bootMeta i) ∧ Frame (Foot.sec [] [.bootMeta]) s t := by
  obtain ⟨ex, ends, frame⟩ := sec_completes (c := .setPref slot) (l := []) (banks := [.bootMeta]) (fun _ => secLive_eq hs)
    (setPref_valid w v) (by decide) (Frame.wr _ _ _ _ _ (List.mem_singleton_self _)) (by decide) again
  exact ⟨_, ex, ends, by simp [State.prefSlot, Nat.mod_eq_of_lt (b2n_lt slot)], fun i hi => by simp [hi.symm], frame⟩

/-- COMMIT_SVN burns the SVN of the running firmware (R403). -/
theorem exec_commitSvn_burns (h : CommitsSvn s) :
    ∃ t, exec (.commitSvn again) s = .next t ∧ SecEnds secOk again s t ∧ t.rd .fuse 4 = s.get SEC_STATE_RUN_SVN ∧
      (∀ i ≠ 4, t.rd .fuse i = s.rd .fuse i) ∧ Frame (Foot.sec [] [.fuse]) s t := by
  obtain ⟨ex, ends, frame⟩ := sec_completes (c := .commitSvn) (l := []) (banks := [.fuse]) (fun _ => secLive_eq hs)
    (commitSvn_burns h) (by decide) (Frame.wr _ _ _ _ _ (List.mem_singleton_self _)) (by decide) again
  exact ⟨_, ex, ends, by simp, fun i hi => by simp [hi.symm], frame⟩

end Commands

end Sys2Proof.Machine
end

section
/-!
SUPPORT. Record commands (R411–R413, R419): a LOAD in the course of one, the checks of a record in their order, and what an accepted
record does.
-/

namespace Sys2Proof.Machine

open Reg

/-! A LOAD in the course of a record command (R419). -/

/-- Where a record command stands after a LOAD in the course of it. -/
def withLoad (load : Bool) (s : State) : State := (Act.when (load && s.running) planLoad).run s

/-- A LOAD is written, on a chip that runs. -/
def Loads (load : Bool) (s : State) : Prop := load = true ∧ s.running = true

/-- What a LOAD in the course of a command reaches. -/
def Foot.loading (load : Bool) (s : State) : Foot :=
  Foot.of (fun k => Loads load s ∧ k ∈ [GLB_PLAN_STATUS_LOAD_STATE.key, GLB_PLAN_STATUS_BUSY_REJECT.key, GLB_BOOT_STATUS_STAGE.key]) [] []

theorem withLoad_loads {load : Bool} {s : State} (h : Loads load s) : withLoad load s = planLoad.run s := by
  obtain ⟨hl, hr⟩ := h
  simp [withLoad, hl, hr]

theorem withLoad_none {load : Bool} {s : State} (h : ¬ Loads load s) : withLoad load s = s := by
  rw [withLoad, Act.run_when, if_neg]
  simpa [Loads] using h

/-- LOAD while IDLE begins the checks; a load of start-up begins its stage 10 (R351, R414). -/
theorem planLoad_idle {s : State} (h : s.get GLB_PLAN_STATUS_LOAD_STATE = loadIdle) :
    planLoad.run s = (Act.when (s.get GLB_BOOT_STATUS_STAGE = 9) (.set GLB_BOOT_STATUS_STAGE 10)).run
      (s.set GLB_PLAN_STATUS_LOAD_STATE loadChecking) := by
  rw [planLoad, Act.run_ask, if_pos h]
  rfl

theorem planLoad_busy {s : State} (h : s.get GLB_PLAN_STATUS_LOAD_STATE ≠ loadIdle) :
    planLoad.run s = s.set GLB_PLAN_STATUS_BUSY_REJECT 1 := by
  rw [planLoad, Act.run_ask, if_neg h]
  rfl

theorem planLoad_within {F : Foot}
    (h : ∀ f ∈ [GLB_PLAN_STATUS_LOAD_STATE, GLB_PLAN_STATUS_BUSY_REJECT, GLB_BOOT_STATUS_STAGE], F.keys f.key) :
    planLoad.Within F :=
  .ask fun _ => .ite (.seq (.set (h _ (by simp))) (.when (.set (h _ (by simp))))) (.set (h _ (by simp)))

theorem withLoad_frame (load : Bool) (s : State) : Frame (Foot.loading load s) s (withLoad load s) := by
  by_cases h : Loads load s
  · rw [withLoad_loads h]
    exact planLoad_within (F := Foot.loading load s) (fun f hf => ⟨h, List.mem_map_of_mem (f := Field.key) hf⟩) s
  · rw [withLoad_none h]
    exact .refl _ _

theorem get_withLoad {f : Field} (h : f.key ∉ [GLB_PLAN_STATUS_LOAD_STATE.key, GLB_PLAN_STATUS_BUSY_REJECT.key, GLB_BOOT_STATUS_STAGE.key])
    (load : Bool) (s : State) : (withLoad load s).get f = s.get f :=
  (withLoad_frame load s).regs f fun k => h k.2

@[simp] theorem rd_withLoad (load : Bool) (s : State) (b : Bank) (k : Nat) : (withLoad load s).rd b k = s.rd b k :=
  (withLoad_frame load s).cells b k List.not_mem_nil

@[simp] theorem bank_withLoad (load : Bool) (s : State) (b : Bank) : (withLoad load s).bank b = s.bank b := by
  by_cases h : Loads load s
  · rw [withLoad_loads h]
    by_cases idle : s.get GLB_PLAN_STATUS_LOAD_STATE = loadIdle
    · rw [planLoad_idle idle, Act.run_when]
      split <;> simp
    · rw [planLoad_busy idle, State.bank_set]
  · rw [withLoad_none h]

theorem recovery_withLoad (load : Bool) (s : State) : (withLoad load s).recovery = s.recovery := by
  rw [State.recovery, State.recovery, get_withLoad (by decide)]

theorem staged_withLoad (load : Bool) (s : State) : (withLoad load s).staged = s.staged := by
  rw [State.staged, State.staged, show (withLoad load s).staging = s.staging from bank_withLoad load s .staging]

/-- A LOAD changes nothing that the acceptance of a record reads but LOAD_STATE. -/
theorem recordGood_withLoad (load : Bool) (s : State) (raw magic lo hi : Nat) :
    (withLoad load s).recordGood raw magic lo hi = s.recordGood raw magic lo hi := by
  rw [State.recordGood, State.recordGood, get_withLoad (f := LNK_SERIAL_SERIAL) (by decide),
    get_withLoad (f := SEC_STATE_BOOT_SLOT) (by decide), rd_withLoad, fwRaw_congr (bank_withLoad load s .flash)]

/-- What a LOAD in the course of a command leaves of the plan's load (R351, R419). -/
def Loaded (load : Bool) (s t : State) : Prop :=
  (Loads load s → s.get GLB_PLAN_STATUS_LOAD_STATE = loadIdle → t.get GLB_PLAN_STATUS_LOAD_STATE = loadChecking) ∧
  (Loads load s → ¬ s.get GLB_PLAN_STATUS_LOAD_STATE = loadIdle →
    t.get GLB_PLAN_STATUS_LOAD_STATE = s.get GLB_PLAN_STATUS_LOAD_STATE ∧ t.get GLB_PLAN_STATUS_BUSY_REJECT = 1)

theorem withLoad_loaded (load : Bool) (s : State) : Loaded load s (withLoad load s) := by
  refine ⟨fun h idle => ?_, fun h idle => ?_⟩
  · rw [withLoad_loads h, planLoad_idle idle, Act.run_when]
    split
    · rw [Act.run_set, State.get_set_ne _ (by decide), State.get_set_self]
      rfl
    · rw [State.get_set_self]
      rfl
  · rw [withLoad_loads h, planLoad_busy idle, State.get_set_ne _ (by decide), State.get_set_self]
    exact ⟨rfl, rfl⟩

/-- After a LOAD, and where a load was under way, the plan's load is not idle. -/
theorem withLoad_not_idle {load : Bool} {s : State} (h : Loads load s ∨ ¬ s.get GLB_PLAN_STATUS_LOAD_STATE = loadIdle) :
    (withLoad load s).get GLB_PLAN_STATUS_LOAD_STATE ≠ loadIdle := by
  obtain ⟨checking, busy⟩ := withLoad_loaded load s
  by_cases hl : Loads load s
  · by_cases idle : s.get GLB_PLAN_STATUS_LOAD_STATE = loadIdle
    · rw [checking hl idle]
      decide
    · rw [(busy hl idle).1]
      exact idle
  · rw [withLoad_none hl]
    exact h.resolve_left hl

/-! The checks of a record, in their order (R412). -/

section Checks

variable {s : State} {magic lo hi : Nat} {f : Nat → Act}

theorem onRecord_badArg (h : ¬ s.get SEC_ARG1_VALUE = recordBytes) : (onRecord magic lo hi f).run s = (secDone secBadArg).run s := by
  rw [onRecord, Act.run_ask, if_pos h]

theorem onRecord_refused (full : s.get SEC_ARG1_VALUE = recordBytes) (h : s.recordGood s.staged magic lo hi = false) :
    (onRecord magic lo hi f).run s = (secDone secRefused).run s := by
  rw [onRecord, Act.run_ask, if_neg (not_not_intro full), if_pos (by simp [h])]

theorem onRecord_busy (full : s.get SEC_ARG1_VALUE = recordBytes) (good : s.recordGood s.staged magic lo hi = true)
    (h : s.get GLB_PLAN_STATUS_LOAD_STATE ≠ loadIdle) : (onRecord magic lo hi f).run s = (secDone secBusy).run s := by
  rw [onRecord, Act.run_ask, if_neg (not_not_intro full), if_neg (by simp [good]), if_pos h]

/-- An accepted record takes effect and extends M4 (R407, R412). -/
theorem onRecord_accepted (full : s.get SEC_ARG1_VALUE = recordBytes) (good : s.recordGood s.staged magic lo hi = true)
    (h : s.get GLB_PLAN_STATUS_LOAD_STATE = loadIdle) :
    (onRecord magic lo hi f).run s = (secDone secOk).run ((extendItem 4 (leBytes recordBytes s.staged)).run ((f s.staged).run s)) := by
  rw [onRecord, Act.run_ask, if_neg (not_not_intro full), if_neg (by simp [good]), if_neg (not_not_intro h)]
  rfl

end Checks

/-! A record command that does not act. -/

/-- A record command ends with its status code and nothing else, beside a LOAD in the course of it. -/
def RecordEnds (load again : Bool) (cmd : Instr) (code : Nat) (s : State) : Prop :=
  ∃ t, exec cmd s = .next t ∧ SecEnds code again s t ∧ Loaded load s t ∧ Frame (Foot.or (Foot.sec [] []) (Foot.loading load s)) s t

section Records

variable {s : State} {load again : Bool} {cmd : Instr} {magic lo hi : Nat} {f : Nat → Act}

theorem recordEnds_of_done {a : Act} {code : Nat} (ex : exec cmd s = .next ((secRun (duringLoad load a) again).run s)) (hc : code < 2 ^ 8)
    (h : (firmwareOnly a).run (withLoad load s) = (secDone code).run (withLoad load s)) : RecordEnds load again cmd code s := by
  have run : (secRun (duringLoad load a) again).run s = (secEnd code again).run (withLoad load s) := secRun_of_done h again
  have kept {f : Field} (hf : ∀ g ∈ secStatus, f.key ≠ g.key) := get_secEnd hf code again (withLoad load s)
  obtain ⟨checking, busy⟩ := withLoad_loaded load s
  refine ⟨_, ex.trans (congrArg _ run), secEnds_secEnd hc again (get_withLoad (by decide) load s), ⟨fun hl idle => ?_, fun hl idle => ?_⟩, ?_⟩
  · rw [kept (by decide), checking hl idle]
  · rw [kept (by decide), kept (by decide)]
    exact busy hl idle
  · have begun : Frame (Foot.or (Foot.sec [] []) (Foot.loading load s)) s (withLoad load s) :=
      (withLoad_frame load s).mono (fun _ => .inr) (fun _ _ => .inr) (fun _ => .inr) (fun _ => .inr)
    exact begun.trans ((secEnd_within code again [] []).left (withLoad load s))

variable (ex : exec cmd s = .next ((secRun (duringLoad load (onRecord magic lo hi f)) again).run s))

include ex

/-- ROM recovery refuses a record command (R405). -/
theorem record_recovery (rec : s.recovery = true) : RecordEnds load again cmd secRefused s :=
  recordEnds_of_done ex (by decide) (firmwareOnly_recovery ((recovery_withLoad load s).trans rec) _)

variable (rec : s.recovery = false)

include rec

/-- A record of another length is BAD_ARG. -/
theorem record_badArg (h : ¬ s.get SEC_ARG1_VALUE = recordBytes) : RecordEnds load again cmd secBadArg s := by
  refine recordEnds_of_done ex (by decide) ?_
  rw [firmwareOnly_firmware ((recovery_withLoad load s).trans rec), onRecord_badArg]
  rwa [get_withLoad (by decide)]

variable (full : s.get SEC_ARG1_VALUE = recordBytes)

include full

/-- A record that is malformed, old, for another chip or not signed is refused. -/
theorem record_refused (bad : s.recordGood s.staged magic lo hi = false) : RecordEnds load again cmd secRefused s := by
  refine recordEnds_of_done ex (by decide) ?_
  rw [firmwareOnly_firmware ((recovery_withLoad load s).trans rec), onRecord_refused]
  · rwa [get_withLoad (by decide)]
  · rwa [staged_withLoad, recordGood_withLoad]

/-- A load under way, or begun in the course of the command, makes it BUSY (R412, R419). -/
theorem record_busy (good : s.recordGood s.staged magic lo hi = true) (h : Loads load s ∨ ¬ s.get GLB_PLAN_STATUS_LOAD_STATE = loadIdle) :
    RecordEnds load again cmd secBusy s := by
  refine recordEnds_of_done ex (by decide) ?_
  rw [firmwareOnly_firmware ((recovery_withLoad load s).trans rec), onRecord_busy _ _ (withLoad_not_idle h)]
  · rwa [get_withLoad (by decide)]
  · rwa [staged_withLoad, recordGood_withLoad]

/-- An accepted record acts, extends M4 and completes (R407, R412). -/
theorem record_accepted (good : s.recordGood s.staged magic lo hi = true) (hl : ¬ Loads load s)
    (idle : s.get GLB_PLAN_STATUS_LOAD_STATE = loadIdle) :
    exec cmd s = .next ((secEnd secOk again).run ((extendItem 4 (leBytes recordBytes s.staged)).run ((f s.staged).run s))) := by
  have run : (duringLoad load (onRecord magic lo hi f)).run s = (firmwareOnly (onRecord magic lo hi f)).run (withLoad load s) := rfl
  rw [withLoad_none hl, firmwareOnly_firmware rec, onRecord_accepted full good idle] at run
  exact ex.trans (congrArg _ (secRun_of_done run again))

end Records

/-! ENROLL and DEBUG_UNLOCK (R411–R413). -/

/-- What an accepted enrolment record does to the customer keys, the policy and SEQ. -/
def enrolRecord (raw : Nat) : Act :=
  .all [
    .when (rawU raw 4 1 = 1) (.put .custKey (rawU raw 5 1) (rawU raw 24 1793)), .when (rawU raw 4 1 = 2) (.put .custKey (rawU raw 5 1) 0),
    .put .bootMeta 1 (rawU raw 6 1 % 2), .put .bootMeta 2 (rawU raw 16 4)]

theorem enroll_eq : enroll = onRecord 0x4E455A4B 1 3 enrolRecord := rfl

theorem enrolRecord_within (raw : Nat) (l : List Field) : (enrolRecord raw).Within (Foot.sec l [.bootMeta, .custKey]) := by
  have put {b : Bank} {k v : Nat} (h : b ∈ [Bank.bootMeta, .custKey]) : (Act.put b k v).Within (Foot.sec l [.bootMeta, .custKey]) := .put h
  exact .cons (.when (put (by simp))) (.cons (.when (put (by simp))) (.cons (put (by simp)) (.cons (put (by simp)) .nil)))

theorem rd_bootMeta_enrolRecord (raw i : Nat) (s : State) : ((enrolRecord raw).run s).rd .bootMeta i =
    if i = 2 then rawU raw 16 4 else if i = 1 then rawU raw 6 1 % 2 else s.rd .bootMeta i := by
  have words : ((enrolRecord raw).run s).rd .bootMeta i =
      ((s.wr .bootMeta 1 (rawU raw 6 1 % 2)).wr .bootMeta 2 (rawU raw 16 4)).rd .bootMeta i := by
    simp only [enrolRecord, Act.run_all_cons, Act.run_all_nil, Act.run_when, Act.run_put, State.rd_wr]
    by_cases one : rawU raw 4 1 = 1 <;> by_cases two : rawU raw 4 1 = 2 <;> simp [one, two]
  simp only [words, State.rd_wr, true_and, eq_comm (a := i)]

theorem rd_custKey_enrolRecord (raw i : Nat) (s : State) : ((enrolRecord raw).run s).rd .custKey i =
    if i = rawU raw 5 1 ∧ rawU raw 4 1 = 1 then rawU raw 24 1793
    else if i = rawU raw 5 1 ∧ rawU raw 4 1 = 2 then 0 else s.rd .custKey i := by
  simp only [enrolRecord, Act.run_all_cons, Act.run_all_nil, Act.run_when, Act.run_put, State.rd_wr, reduceCtorEq, false_and, if_false,
    decide_eq_true_eq]
  by_cases one : rawU raw 4 1 = 1
  · simp [one, eq_comm (a := i)]
  · by_cases two : rawU raw 4 1 = 2
    · simp [two, eq_comm (a := i)]
    · simp [one, two]

theorem extendItem_within (l : List Field) (banks : List Bank) (i : Nat) (x : List Byte) (h : measFields i ⊆ l) :
    (extendItem i x).Within (Foot.sec l banks) :=
  extendMeas_within (fun k hk => Foot.sec_own (h (List.mem_map.2 ⟨k, List.mem_range.2 hk, rfl⟩)) banks) _

theorem rd_extendItem (i : Nat) (x : List Byte) (s : State) (b : Bank) (k : Nat) : ((extendItem i x).run s).rd b k = s.rd b k :=
  (extendItem_within (measFields i) [] i x (List.Subset.refl _) s).cells b k List.not_mem_nil

section Accepted

variable {s : State} (hs : s.enumerated = true) (again : Bool) {load : Bool} (rec : s.recovery = false)
  (full : s.get SEC_ARG1_VALUE = recordBytes) (hl : ¬ Loads load s) (idle : s.get GLB_PLAN_STATUS_LOAD_STATE = loadIdle)

include hs rec full hl idle

/-- An accepted enrolment record sets its customer key, the policy and SEQ, and extends M4 (R411, R412). -/
theorem exec_enroll_accepted (good : s.recordGood s.staged 0x4E455A4B 1 3 = true) :
    let raw := s.staged
    ∃ t, exec (.enroll again load) s = .next t ∧ SecEnds secOk again s t ∧
      t.rd .bootMeta 2 = rawU raw 16 4 ∧ t.rd .bootMeta 1 = rawU raw 6 1 % 2 ∧
      (∀ i, i ≠ 1 → i ≠ 2 → t.rd .bootMeta i = s.rd .bootMeta i) ∧
      (∀ i, t.rd .custKey i = if i = rawU raw 5 1 ∧ rawU raw 4 1 = 1 then rawU raw 24 1793
        else if i = rawU raw 5 1 ∧ rawU raw 4 1 = 2 then 0 else s.rd .custKey i) ∧
      t.meas 4 = shake256 64 (s.meas 4 ++ shake256 64 (leBytes recordBytes raw)) ∧
      Frame (Foot.sec (measFields 4) [.bootMeta, .custKey]) s t := by
  have own := enrolRecord_within s.staged [] s
  have frame := (own.sec_mono (List.nil_subset (measFields 4)) (List.Subset.refl _)).trans
    (extendItem_within (measFields 4) [.bootMeta, .custKey] 4 (leBytes recordBytes s.staged) (List.Subset.refl _) _)
  refine ⟨_, record_accepted (f := enrolRecord) (secLive_eq hs) rec full good hl idle,
    secEnds_secEnd (by decide) again (frame.sec_get (by decide)), ?_, ?_, fun i h1 h2 => ?_, fun i => ?_, ?_,
    frame.trans (secEnd_within _ _ _ _ _)⟩
  · rw [rd_secEnd, rd_extendItem, rd_bootMeta_enrolRecord, if_pos rfl]
  · rw [rd_secEnd, rd_extendItem, rd_bootMeta_enrolRecord, if_neg (by decide), if_pos rfl]
  · rw [rd_secEnd, rd_extendItem, rd_bootMeta_enrolRecord, if_neg h2, if_neg h1]
  · rw [rd_secEnd, rd_extendItem, rd_custKey_enrolRecord]
  · rw [meas_secEnd, extendItem, meas_extendMeas, meas_congr fun k => own.sec_get fun g hg => meas_apart 4 k g (List.mem_cons_of_mem _ hg)]

/-- An accepted unlock token unlocks debug, and extends M4 (R413). -/
theorem exec_debugUnlock_accepted (good : s.recordGood s.staged 0x42445A4B 0 0 = true) :
    ∃ t, exec (.debugUnlock again load) s = .next t ∧ SecEnds secOk again s t ∧ t.get SEC_STATE_DEBUG_UNLOCKED = 1 ∧
      t.meas 4 = shake256 64 (s.meas 4 ++ shake256 64 (leBytes recordBytes s.staged)) ∧
      Frame (Foot.sec (SEC_STATE_DEBUG_UNLOCKED :: measFields 4) []) s t := by
  have own : Frame (Foot.sec [SEC_STATE_DEBUG_UNLOCKED] []) s (s.set SEC_STATE_DEBUG_UNLOCKED 1) :=
    Frame.set _ _ _ _ (Foot.sec_own (by simp) [])
  have extend := extendItem_within (measFields 4) [] 4 (leBytes recordBytes s.staged) (List.Subset.refl _) (s.set SEC_STATE_DEBUG_UNLOCKED 1)
  have frame : Frame (Foot.sec (SEC_STATE_DEBUG_UNLOCKED :: measFields 4) []) s _ :=
    (own.sec_mono (by simp) (List.Subset.refl _)).trans (extend.sec_mono (by simp) (List.Subset.refl _))
  refine ⟨_, record_accepted (f := fun _ => .set SEC_STATE_DEBUG_UNLOCKED 1) (secLive_eq hs) rec full good hl idle,
    secEnds_secEnd (by decide) again (frame.sec_get (by decide)), ?_, ?_, frame.trans (secEnd_within _ _ _ _ _)⟩
  · rw [get_secEnd (by decide), Act.run_set, extend.sec_get (by decide), State.get_set_self]
    rfl
  · rw [meas_secEnd, extendItem, meas_extendMeas, Act.run_set, meas_congr fun k => own.sec_get (meas_apart 4 k)]

end Accepted

end Sys2Proof.Machine
end

section
/-!
SUPPORT. The measurement port and the mailbox (R406, R408–R410), and the statement about the security block as a whole.
-/

namespace Sys2Proof.Machine

open Reg

/-! MEAS_EXTEND (R408). -/

theorem measExtend_rejected {s : State} {i : Nat} (h : i < 8 ∨ s.get SEC_EXT_CTRL_DONE = 0) (again : Bool) :
    (measExtend i again).run s = s.set SEC_EXT_CTRL_EXT_REJECT 1 := by
  rw [measExtend, Act.run_ask, if_pos (by simpa using h)]
  rfl

theorem measExtend_extends {s : State} {i : Nat} (hi : 8 ≤ i) (done : s.get SEC_EXT_CTRL_DONE = 1) (again : Bool) :
    (measExtend i again).run s = (Act.when again (.set SEC_EXT_CTRL_EXT_REJECT 1)).run ((extendMeas i s.extData).run s) := by
  rw [measExtend, Act.run_ask, if_neg (by simp [done, hi])]
  rfl

/-- EXT_REJECT lies below the measurement registers. -/
theorem meas_ne_reject (i k : Nat) : SEC_EXT_CTRL_EXT_REJECT.key ≠ (SEC_MEAS_VALUE i k).key := by
  simp only [SEC_EXT_CTRL_EXT_REJECT, SEC_MEAS_VALUE]
  omega

/-- A GO write extends its register by D; another GO in the course of it sets EXT_REJECT (R408). -/
theorem exec_measExtend {s : State} (hs : s.enumerated = true) (i : BitVec 4) (again : Bool) (hi : 8 ≤ i.toNat)
    (done : s.get SEC_EXT_CTRL_DONE = 1) :
    ∃ t, exec (.measExtend i again) s = .next t ∧ t.meas i.toNat = shake256 64 (s.meas i.toNat ++ s.extData) ∧
      t.get SEC_EXT_CTRL_EXT_REJECT = (if again then 1 else s.get SEC_EXT_CTRL_EXT_REJECT) ∧
      Frame (Foot.fields (SEC_EXT_CTRL_EXT_REJECT :: measFields i.toNat)) s t := by
  have own {k : Nat} (hk : k < 16) : SEC_MEAS_VALUE i.toNat k ∈ measFields i.toNat := List.mem_map.2 ⟨k, List.mem_range.2 hk, rfl⟩
  have extended := extendMeas_within (F := Foot.fields (measFields i.toNat)) (fun k hk => ⟨_, own hk, rfl⟩) s.extData s
  have reject : ((extendMeas i.toNat s.extData).run s).get SEC_EXT_CTRL_EXT_REJECT = s.get SEC_EXT_CTRL_EXT_REJECT := by
    refine extended.regs _ fun ⟨f, hf, e⟩ => ?_
    obtain ⟨k, -, rfl⟩ := List.mem_map.1 hf
    exact meas_ne_reject _ k e
  have frame : Frame (Foot.fields (SEC_EXT_CTRL_EXT_REJECT :: measFields i.toNat)) s ((extendMeas i.toNat s.extData).run s) :=
    extended.mono (fun _ ⟨f, hf, e⟩ => ⟨f, List.mem_cons_of_mem _ hf, e⟩) (fun _ _ => id) (fun _ => id) (fun _ => id)
  refine ⟨_, (secLive_eq hs).trans (congrArg _ (measExtend_extends hi done again)), ?_, ?_, frame.trans
    (Act.Within.when (F := Foot.fields (SEC_EXT_CTRL_EXT_REJECT :: measFields i.toNat)) (.set ⟨_, List.mem_cons_self, rfl⟩) _)⟩
  · rw [← meas_extendMeas, Act.run_when]
    split
    · exact meas_congr fun k => State.get_set_ne _ (meas_ne_reject _ k) _
    · rfl
  · rw [Act.run_when]
    split
    · exact State.get_set_self _ _ _
    · exact reject

/-! The mailbox (R406, R409, R410). -/

/-- The object type of the attestation protocol. -/
def Ours (vendor : BitVec 16) (type : BitVec 8) : Prop := vendor = Config.vendorId ∧ type = 1

theorem doeServe_ours {vendor : BitVec 16} {type : BitVec 8} (h : Ours vendor type) (a : Act) (s : State) :
    (doeServe vendor.toNat type.toNat a).run s = a.run s := by
  obtain ⟨rfl, rfl⟩ := h
  simp [doeServe, doeType]

theorem doeServe_foreign {vendor : BitVec 16} {type : BitVec 8} (h : ¬ Ours vendor type) (a : Act) (s : State) :
    (doeServe vendor.toNat type.toNat a).run s = s := by
  rw [doeServe, Act.run_when, if_neg]
  simp only [Bool.and_eq_true, decide_eq_true_eq]
  rintro ⟨v, t⟩
  exact h ⟨BitVec.eq_of_toNat_eq v, BitVec.eq_of_toNat_eq t⟩

/-- A request of another object type is answered by nothing (R409). -/
theorem exec_doe_foreign {s : State} (hs : s.enumerated = true) {vendor : BitVec 16} {type : BitVec 8} (h : ¬ Ours vendor type)
    (mask : BitVec 16) (nonce : BitVec 256) :
    ∀ cmd ∈ [Instr.getCert vendor type, .getReport vendor type mask nonce, .doeInvalidRequest vendor type], exec cmd s = .next s := by
  intro cmd hc
  simp only [List.mem_cons, List.not_mem_nil, or_false] at hc
  rcases hc with rfl | rfl | rfl <;> exact (secLive_eq hs).trans (congrArg _ (doeServe_foreign h _ s))

/-- A report is answered with its 1,280 bytes of signature (R410). -/
theorem exec_getReport_ours {s : State} (hs : s.enumerated = true) {vendor : BitVec 16} {type : BitVec 8} (h : Ours vendor type)
    (mask : BitVec 16) (nonce : BitVec 256) :
    ∃ sig : List Byte, sig.length = 1280 ∧
      exec (.getReport vendor type mask nonce) s = .next ((doeAnswer (dwords (s.report mask.toNat nonce.toNat ++ sig))).run s) :=
  ⟨_, length_leBytes 1280 (Config.falconSign (s.rd .fuse 5) (s.report mask.toNat nonce.toNat)).toNat,
    (secLive_eq hs).trans (congrArg _ (doeServe_ours h _ s))⟩

theorem length_certificate (s : State) : s.certificate.length = 3136 := by
  simp [State.certificate, length_leBytes]

/-- A report is 96 bytes and 64 for each register of its mask (R410). -/
theorem length_report (s : State) (mask nonce : Nat) :
    (s.report mask nonce).length = 96 + 64 * ((List.range 16).filter fun i => bitAt mask i).length := by
  have sum (l : List Nat) : (l.flatMap s.meas).length = 64 * l.length := by
    induction l with
    | nil => rfl
    | cons i l ih =>
      rw [List.flatMap_cons, List.length_append, ih, length_meas, List.length_cons]
      omega
  simp only [State.report, List.length_append, length_leBytes, sum]

/-! The statement. -/

/-- Settles O54: each command is split along its status codes, each by the lemma that says what the command does before it completes. -/
theorem securityCommandsAnswerAndAct : Obligations.SecurityCommandsAnswerAndAct := by
  unfold Obligations.SecurityCommandsAnswerAndAct
  intro s hs refused
  refine ⟨fun vendor type mask nonce => ⟨fun foreign => exec_doe_foreign hs foreign mask nonce, fun ours => ?_⟩, fun slot again => ?_,
    ⟨fun h again => exec_commitSvn_burns hs again h, fun h => sec_refused (fun _ => secLive_eq hs) (commitSvn_refused h) (by decide)⟩,
    fun again load => ?_, fun i again => ?_⟩
  · exact ⟨length_certificate s, (secLive_eq hs).trans (congrArg _ (doeServe_ours ours _ s)), length_report s _ _,
      exec_getReport_ours hs ours mask nonce, (secLive_eq hs).trans (congrArg _ (doeServe_ours ours _ s))⟩
  · refine ⟨fun h => ⟨?_, ?_⟩, fun h bad => ?_, exec_fwWrite_programs hs slot again, exec_fwSeal_valid hs slot again,
      exec_fwSeal_invalid hs slot again, exec_setPref_valid hs slot again, fun h => ?_⟩
    · exact sec_refused (fun _ => secLive_eq hs) (fwWrite_active h) (by decide)
    · exact sec_refused (fun _ => secLive_eq hs) (fwSeal_active h) (by decide)
    · exact sec_refused (fun _ => secLive_eq hs) (fwWrite_badArg h bad) (by decide)
    · exact sec_refused (fun _ => secLive_eq hs) (setPref_invalid h) (by decide)
  · have ends {magic lo hi : Nat} {f : Nat → Act} {cmd : Instr}
        (ex : exec cmd s = .next ((secRun (duringLoad load (onRecord magic lo hi f)) again).run s)) :=
      And.intro (record_recovery ex) (And.intro (record_badArg ex) (And.intro (record_refused ex) (record_busy ex)))
    refine ⟨fun x hx => ?_, fun rec full hl idle =>
      ⟨exec_enroll_accepted hs again rec full hl idle, exec_debugUnlock_accepted hs again rec full hl idle⟩⟩
    simp only [List.mem_cons, List.not_mem_nil, or_false] at hx
    rcases hx with rfl | rfl
    · exact ends (f := enrolRecord) (secLive_eq hs)
    · exact ends (f := fun _ => .set SEC_STATE_DEBUG_UNLOCKED 1) (secLive_eq hs)
  · exact ⟨fun h => (secLive_eq hs).trans (congrArg _ (measExtend_rejected h again)), exec_measExtend hs i again⟩

end Sys2Proof.Machine
end

section
/-!
SUPPORT. The end of host commands (R378, R383): it posts completions and takes none back, and the command that it ends is no longer in
flight.
-/

namespace Sys2Proof.Machine

open Reg

/-! Acts that only end commands. -/

/-- What is posted stays posted, and no command comes into flight. -/
structure Finishing (s t : State) : Prop where
  posted : s.hostOut ⊆ t.hostOut
  inflight : t.inflight ⊆ s.inflight

theorem Finishing.refl (s : State) : Finishing s s := ⟨List.Subset.refl _, List.Subset.refl _⟩

theorem Finishing.trans {s t u : State} (h : Finishing s t) (k : Finishing t u) : Finishing s u :=
  ⟨fun _ hx => k.posted (h.posted hx), fun _ hx => h.inflight (k.inflight hx)⟩

/-- A command that is over stays over. -/
theorem Completed.finishing {c : HostCmd} {st r : Nat} {s t : State} (h : Completed c st r s) (k : Finishing s t) : Completed c st r t := by
  refine ⟨fun x hx => h.gone x (k.inflight hx), fun asked => ?_⟩
  obtain ⟨a, dseq, phase, hm⟩ := h.posted asked
  exact ⟨a, dseq, phase, k.posted hm⟩

/-- Acts that only end commands, whatever state they start from. -/
def Act.Finishes (a : Act) : Prop := ∀ s, Finishing s (a.run s)

namespace Act.Finishes

theorem skip : Act.skip.Finishes := Finishing.refl
theorem seq {a b : Act} (ha : a.Finishes) (hb : b.Finishes) : (Act.seq a b).Finishes := fun s => (ha s).trans (hb _)
theorem ask {f : State → Act} (h : ∀ s, (f s).Finishes) : (Act.ask f).Finishes := fun s => h s s
theorem nil : (Act.all []).Finishes := skip
theorem cons {a : Act} {l : List Act} (ha : a.Finishes) (hl : (Act.all l).Finishes) : (Act.all (a :: l)).Finishes := seq ha hl
theorem set (f : Field) (v : Nat) : (Act.set f v).Finishes := fun s => ⟨by simp, by simp⟩
theorem put (b : Bank) (k v : Nat) : (Act.put b k v).Finishes := fun s => ⟨by simp, by simp⟩

theorem when {c : Bool} {a : Act} (h : a.Finishes) : (Act.when c a).Finishes := by
  cases c
  · exact skip
  · exact h

theorem ite {c : Prop} [Decidable c] {a b : Act} (ha : a.Finishes) (hb : b.Finishes) : (if c then a else b).Finishes := by
  split
  · exact ha
  · exact hb

theorem each {α : Type} {l : List α} {f : α → Act} (h : ∀ x, (f x).Finishes) : (Act.each l f).Finishes := by
  induction l with
  | nil => exact skip
  | cons x l ih => exact seq (h x) ih

end Act.Finishes

/-! The end of a command. -/

theorem signal_finishes (v : Nat) : (signal v).Finishes := .ask fun _ => .ite (.set _ _) fun _ => ⟨by simp, by simp⟩

theorem ringStatus_finishes (r : Nat) : (ringStatus r).Finishes :=
  .ask fun _ => .cons (.set _ _) (.cons (.set _ _) (.cons (.when (.cons (.set _ _) (.cons (.set _ _) (.cons (.put _ _ _) .nil)))) .nil))

/-- A completion adds its entry to what is posted, and then only brings its ring up to date (R384). -/
theorem postCompletion_run (n : Nat) (c : HostCmd) (st r : Nat) (s : State) : ∃ a dseq phase, ∃ ring : Act, ring.Finishes ∧
    (postCompletion n c st r).run s = ring.run ((Upd.hostOut (s.hostOut ++ [(a, cplEntry dseq c st phase r)])).apply s) := by
  dsimp only [postCompletion, Act.run_ask]
  rw [Act.run_all_cons, Act.run_upd]
  refine ⟨_, _, _, _, ?_, rfl⟩
  exact .cons (.set _ _) (.cons (.when (.put _ _ _)) (.cons (.set _ _) (.cons (.set _ _)
    (.cons (.ite (.seq (signal_finishes _) (.put _ _ _)) (.put _ _ _)) .nil))))

theorem postCompletion_finishes (n : Nat) (c : HostCmd) (st r : Nat) : (postCompletion n c st r).Finishes := by
  intro s
  obtain ⟨a, dseq, phase, ring, finishes, e⟩ := postCompletion_run n c st r s
  rw [e]
  exact Finishing.trans ⟨by simp, by simp⟩ (finishes _)

theorem posted_postCompletion (n : Nat) (c : HostCmd) (st r : Nat) (s : State) :
    ∃ a dseq phase, (a, cplEntry dseq c st phase r) ∈ ((postCompletion n c st r).run s).hostOut := by
  obtain ⟨a, dseq, phase, ring, finishes, e⟩ := postCompletion_run n c st r s
  refine ⟨a, dseq, phase, ?_⟩
  rw [e]
  exact (finishes _).posted (by simp)

/-- The commands in flight without those that bear the ring and the HSEQ of `c`. -/
def State.without (s : State) (c : HostCmd) : State :=
  { s with inflight := s.inflight.filter fun x => !(x.ring = c.ring && x.hseq = c.hseq) }

theorem State.without_finishing (s : State) (c : HostCmd) : Finishing s (s.without c) :=
  ⟨List.Subset.refl _, fun _ hx => (List.mem_filter.1 hx).1⟩

theorem State.not_inflight_without (s : State) (c : HostCmd) :
    ∀ x ∈ (s.without c).inflight, ¬ (x.ring = c.ring ∧ x.hseq = c.hseq) := by
  rintro x hx ⟨ring, hseq⟩
  simpa [ring, hseq] using (List.mem_filter.1 hx).2

theorem finishOne_run (c : HostCmd) (st r : Nat) (s : State) : (finishOne c st r).run s =
    (Act.when (c.cpl || st ≠ 0) (postCompletion (s.get (HST_CMD_CFG_CPL_RING c.ring.val)) c st r)).run (s.without c) := rfl

theorem finishOne_finishes (c : HostCmd) (st r : Nat) : (finishOne c st r).Finishes := by
  intro s
  rw [finishOne_run]
  exact (s.without_finishing c).trans (Act.Finishes.when (postCompletion_finishes _ c st r) _)

theorem finishOne_completed (c : HostCmd) (st r : Nat) (s : State) : Completed c st r ((finishOne c st r).run s) := by
  rw [finishOne_run]
  refine ⟨fun x hx => s.not_inflight_without c x ?_, fun asked => ?_⟩
  · exact (Act.Finishes.when (postCompletion_finishes _ c st r) (s.without c)).inflight hx
  · rw [Act.run_when, if_pos (by simpa using asked)]
    exact posted_postCompletion _ c st r _

/-- After a command ends, the FENCEs that waited for it do, and the ring's status follows (R379, R386). -/
theorem finishCmd_run (c : HostCmd) (st r : Nat) (s : State) : ∃ ring : Act, ring.Finishes ∧
    (finishCmd c st r).run s = ring.run ((finishOne c st r).run s) := by
  rw [finishCmd, Act.run_all_cons]
  refine ⟨_, ?_, rfl⟩
  exact .cons (.ask fun _ => .each fun f => finishOne_finishes f 0 0) (.cons (ringStatus_finishes _) .nil)

theorem finishCmd_finishes (c : HostCmd) (st r : Nat) : (finishCmd c st r).Finishes := by
  intro s
  obtain ⟨ring, finishes, e⟩ := finishCmd_run c st r s
  rw [e]
  exact (finishOne_finishes c st r s).trans (finishes _)

theorem finishCmd_completed (c : HostCmd) (st r : Nat) (s : State) : Completed c st r ((finishCmd c st r).run s) := by
  obtain ⟨ring, finishes, e⟩ := finishCmd_run c st r s
  rw [e]
  exact (finishOne_completed c st r s).finishing (finishes _)

/-- Each of several commands that end completes, whichever ring and HSEQ the others bear. -/
theorem each_finishCmd_completed {l : List HostCmd} {c : HostCmd} (h : c ∈ l) (st r : Nat) (s : State) :
    Completed c st r ((Act.each l fun x => finishCmd x st r).run s) := by
  induction l generalizing s with
  | nil => cases h
  | cons x l ih =>
    rw [Act.run_each_cons]
    rcases List.mem_cons.1 h with rfl | h
    · exact (finishCmd_completed c st r s).finishing (Act.Finishes.each (fun y => finishCmd_finishes y st r) _)
    · exact ih h _

end Sys2Proof.Machine
end

section
/-!
SUPPORT. Snapshots (R473–R476): the copy of the shadowed registers, the request and the completion.
-/

namespace Sys2Proof.Machine

open Reg

/-! Lookups in a map of rising keys. -/

theorem Map.find_absent {m : Map} {k : Nat} (h : ∀ p ∈ m, p.1 ≠ k) (d : Nat) : m.find k d = d := by
  induction m with
  | nil => rfl
  | cons p m ih =>
    rw [Map.find, if_neg (h p (by simp)), ih fun q hq => h q (by simp [hq])]

/-- A filter that goes by the key finds what it keeps. -/
theorem Map.find_filter_key {P : Nat → Bool} {k : Nat} (h : P k = true) (m : Map) (d : Nat) :
    Map.find (m.filter fun p => P p.1) k d = m.find k d := by
  induction m with
  | nil => rfl
  | cons p m ih =>
    by_cases hk : p.1 = k
    · rw [List.filter_cons_of_pos (by rw [hk, h]), Map.find, Map.find, if_pos hk, if_pos hk]
    · rw [Map.find, if_neg hk, ← ih]
      cases hp : P p.1
      · rw [List.filter_cons_of_neg (by rw [hp]; decide)]
      · rw [List.filter_cons_of_pos (by rw [hp]), Map.find, if_neg hk]

/-- A bank into which a map of rising keys is copied reads as the map does, and as before where the map lists nothing. -/
theorem rd_each_put_map (b : Bank) {m : Map} (h : m.rising = true) (k : Nat) (s : State) :
    ((Act.each m fun p => .put b p.1 p.2).run s).rd b k = m.find k (s.rd b k) := by
  induction m generalizing s with
  | nil => rfl
  | cons p m ih =>
    obtain ⟨later, rising⟩ : (∀ q ∈ m, p.1 < q.1) ∧ Map.rising m = true := by simpa [Map.rising] using h
    rw [Act.run_each_cons, ih rising, Act.run_put, State.rd_wr, Map.find]
    by_cases hk : p.1 = k
    · rw [if_pos ⟨rfl, hk⟩, if_pos hk]
      exact Map.find_absent (fun q hq => by have := later q hq; omega) _
    · rw [if_neg fun e => hk e.2, if_neg hk]

/-! The copy. -/

/-- The shadow of a shadowed register is its live value (R473). -/
theorem rd_shadow_snapCopy {s : State} (h : s.regs.rising = true) {k : Nat} (hk : shadowed (k / 8) = true) :
    (snapCopy.run s).rd .shadow k = s.regs.find k 0 := by
  have cleared : ((Upd.clear .shadow).apply s).rd .shadow k = 0 := by simp
  have copied := rd_each_put_map .shadow (Map.rising_filter (fun p => shadowed (p.1 / 8)) h) k ((Upd.clear .shadow).apply s)
  rw [cleared, Map.find_filter_key (P := fun x => shadowed (x / 8)) hk] at copied
  exact copied

theorem snapCopy_within {F : Foot} (h : ∀ k, F.cells .shadow k) : snapCopy.Within F :=
  .ask fun _ => .seq (.clear h) (.each fun _ => .put (h _))

/-! The request. -/

section Request

variable {s : State}

theorem snapRequest_joins (h : s.get CNT_SNAP_STATUS_PENDING = 1) : snapRequest.run s = s := by simp [snapRequest, h]

theorem snapRequest_copies (h : s.get CNT_SNAP_STATUS_PENDING = 0) :
    snapRequest.run s = (snapCopy.run s).set CNT_SNAP_STATUS_PENDING 1 := by simp [snapRequest, h]

/-- A request without a pending snapshot copies every shadowed field and leaves the snapshot pending (R473, R474). -/
theorem exec_snapshotRequest_copies (hs : s.running = true) (h : s.get CNT_SNAP_STATUS_PENDING = 0) (rising : s.regs.rising = true) :
    ∃ t, exec .snapshotRequest s = .next t ∧ t.get CNT_SNAP_STATUS_PENDING = 1 ∧
      (∀ f : Field, shadowed (f.key / 8) = true → f.reset = 0 → t.rd .shadow f.key % 2 ^ f.width = s.get f) ∧
      Frame (Foot.of (fun k => k = CNT_SNAP_STATUS_PENDING.key) [.shadow] []) s t := by
  refine ⟨_, (live_eq hs).trans (congrArg _ (snapRequest_copies h)), State.get_set_self _ _ _, fun f hf hr => ?_, ?_⟩
  · rw [State.rd_set, rd_shadow_snapCopy rising hf, State.get, hr]
  · exact (snapCopy_within (fun _ => List.mem_singleton.2 rfl) s).trans (Frame.set _ _ _ _ rfl)

end Request

/-! The completion. -/

/-- The SNAPSHOT commands that have started (R379). -/
def State.snapshotCmds (s : State) : List HostCmd := s.inflight.filter fun c => c.opcode = 9 && c.started

/-- The state in which a snapshot has been counted and is pending no more. -/
def State.snapCounted (s : State) : State := (s.set CNT_SNAP_SEQ_SEQ (s.get CNT_SNAP_SEQ_SEQ + 1)).set CNT_SNAP_STATUS_PENDING 0

theorem get_seq_snapCounted (s : State) : s.snapCounted.get CNT_SNAP_SEQ_SEQ = (s.get CNT_SNAP_SEQ_SEQ + 1) % 2 ^ 32 := by
  rw [State.snapCounted, State.get_set_ne _ (by decide), State.get_set_self]
  rfl

theorem snapComplete_idle {s : State} (h : s.get CNT_SNAP_STATUS_PENDING = 0) : snapComplete.run s = s := by simp [snapComplete, h]

/-- A pending snapshot is counted, and the commands that wait end with its number (R473). -/
theorem snapComplete_run {s : State} (h : s.get CNT_SNAP_STATUS_PENDING = 1) :
    snapComplete.run s =
      (Act.each s.snapshotCmds fun c => finishCmd c 0 ((s.get CNT_SNAP_SEQ_SEQ + 1) % 2 ^ 32)).run s.snapCounted := by
  rw [← get_seq_snapCounted]
  simp only [snapComplete, Act.run_ask, Act.run_when, h, decide_true, if_true]
  rfl

theorem exec_snapshotComplete_pending {s : State} (hs : s.running = true) (h : s.get CNT_SNAP_STATUS_PENDING = 1) :
    ∃ t, exec .snapshotComplete s = .next t ∧ t.get CNT_SNAP_STATUS_PENDING = 0 ∧
      t.get CNT_SNAP_SEQ_SEQ = (s.get CNT_SNAP_SEQ_SEQ + 1) % 2 ^ 32 ∧
      (∀ c ∈ s.inflight, c.opcode = 9 → c.started = true → Completed c 0 ((s.get CNT_SNAP_SEQ_SEQ + 1) % 2 ^ 32) t) ∧
      Frame (Foot.or Foot.hostDone (Foot.fields [CNT_SNAP_STATUS_PENDING, CNT_SNAP_SEQ_SEQ])) s t := by
  have ends : (Act.each s.snapshotCmds fun c => finishCmd c 0 ((s.get CNT_SNAP_SEQ_SEQ + 1) % 2 ^ 32)).Within Foot.hostDone :=
    .each fun c => finishCmd_within c _ _
  have counted : Frame (Foot.fields [CNT_SNAP_STATUS_PENDING, CNT_SNAP_SEQ_SEQ]) s s.snapCounted :=
    (Frame.set _ _ _ _ (Foot.fields_key (by simp))).trans (Frame.set _ _ _ _ (Foot.fields_key (by simp)))
  refine ⟨_, (live_eq hs).trans (congrArg _ (snapComplete_run h)), ?_, ?_, fun c hc opcode started => ?_, ?_⟩
  · rw [(ends _).regs _ (by simp [Foot.hostDone, Foot.of, hostKeys, inBytes, CNT_SNAP_STATUS_PENDING])]
    exact State.get_set_self _ _ _
  · rw [(ends _).regs _ (by simp [Foot.hostDone, Foot.of, hostKeys, inBytes, CNT_SNAP_SEQ_SEQ]), get_seq_snapCounted]
  · exact each_finishCmd_completed (List.mem_filter.2 ⟨hc, by simp [opcode, started]⟩) _ _ _
  · exact Frame.trans (counted.mono (fun _ => .inr) (fun _ _ => .inr) (fun _ => .inr) fun _ => .inr) (ends.left _)

end Sys2Proof.Machine
end

section
/-!
SUPPORT. Fault records (R477–R480): what firmware does before the record of an event, the three fates of the record, and the statement
about snapshots and fault records as a whole.
-/

namespace Sys2Proof.Machine

open Reg

/-! Counters and interrupts. -/

/-- An event counter takes the sum, up to its greatest value (R471). -/
theorem get_countBy {cnt ovf : Field} (hw : cnt.width = 48) (apart : ovf.key ≠ cnt.key) (k : Nat) (s : State) :
    ((countBy cnt ovf k).run s).get cnt = min (s.get cnt + k) (2 ^ 48 - 1) := by
  simp only [countBy, Act.run_ask]
  split
  · rw [Act.run_all_cons, Act.run_all_cons, Act.run_all_nil, Act.run_set, Act.run_set, State.get_set_ne _ apart, State.get_set_width _ hw]
    omega
  · rw [Act.run_set, State.get_set_width _ hw]
    omega

theorem signal_masked {s : State} {v : Nat} (h : s.masked v = true) : (signal v).run s = s.set (MSIX_PENDING v) 1 := by simp [signal, h]

theorem signal_unmasked {s : State} {v : Nat} (h : s.masked v = false) : (signal v).run s = (Upd.msix (s.msix ++ [v])).apply s := by
  simp [signal, h]

/-- Masks are registers of the MSI-X table and of the PCIe configuration alone. -/
theorem masked_frame {F : Foot} {s t : State} (h : Frame F s t) {v : Nat} (hk : ¬ F.keys (MSIX_MASK v).key) (hp : ¬ F.parts .pcie) :
    t.masked v = s.masked v := by
  have pcie : t.pcie = s.pcie := h.parts .pcie hp
  rw [State.masked, State.masked, h.regs _ hk, pcie]

/-! Fields written one after another. -/

/-- Among fields with keys of their own, each takes its own value. -/
theorem get_each_set_pairs {l : List (Field × Nat)} (hn : (l.map fun p => p.1.key).Nodup) {f : Field} {v : Nat} (h : (f, v) ∈ l)
    (s : State) : ((Act.each l fun p => .set p.1 p.2).run s).get f = v % 2 ^ f.width := by
  induction l generalizing s with
  | nil => cases h
  | cons p l ih =>
    obtain ⟨own, hn⟩ := List.nodup_cons.1 hn
    rw [Act.run_each_cons]
    rcases List.mem_cons.1 h with rfl | h
    · have others : (Act.each l fun p => .set p.1 p.2).Within (Foot.fields (l.map (·.1))) :=
        .each_mem fun q hq => .set (Foot.fields_key (List.mem_map_of_mem hq))
      refine (others _).regs f (Foot.not_fields_key fun x hx e => own ?_) |>.trans (State.get_set_self s f v)
      obtain ⟨q, hq, rfl⟩ := List.mem_map.1 hx
      exact List.mem_map.2 ⟨q, hq, e.symm⟩
    · exact ih hn h _

/-! What firmware does before the record. -/

/-- The work of firmware on desk 0 (R481). -/
def fwWork : List Field := [CLU_DESK_FWCYC_COUNT 0, CLU_DESK_FWCYC_OVF 0]

/-- The notice that a record of a class reports, the oldest of its code (R237, R477). -/
def State.reportedNotice (s : State) (cls : Nat) : Option Nat := (faultNotice cls).bind fun k => s.notices.find? fun n => bits n 0 8 = k

theorem notices_takeNotice (cls : Nat) (s : State) :
    ((takeNotice cls).run s).notices = ((s.reportedNotice cls).map fun n => s.notices.erase n).getD s.notices := by
  simp only [takeNotice, Act.run_ask, State.reportedNotice]
  cases faultNotice cls with
  | none => rfl
  | some k =>
    simp only [Option.bind_some]
    cases s.notices.find? fun n => bits n 0 8 = k <;> rfl

theorem takeNotice_within {F : Foot} (h : F.parts .notices) (cls : Nat) : (takeNotice cls).Within F := by
  refine .ask fun s => ?_
  split
  · exact .skip
  · split
    · exact .part .notices rfl h
    · exact .skip

/-- Firmware has spent its cycles, and `rest` is still to be reported. -/
def State.worked (s : State) (rest : List FaultEvent) (cycles : Nat) : State :=
  (Upd.faultDue rest).apply ((countBy (CLU_DESK_FWCYC_COUNT 0) (CLU_DESK_FWCYC_OVF 0) cycles).run s)

/-- The event's notice is taken as well. -/
def State.taken (s : State) (e : FaultEvent) (rest : List FaultEvent) (cycles : Nat) : State :=
  (takeNotice e.cls).run (s.worked rest cycles)

/-- The event and its notice are taken, and the cycles counted (R478, R481). -/
structure Reported (e : FaultEvent) (rest : List FaultEvent) (cycles : Nat) (s t : State) : Prop where
  due : t.faultDue = rest
  notices : t.notices = ((s.reportedNotice e.cls).map fun n => s.notices.erase n).getD s.notices
  work : t.get (CLU_DESK_FWCYC_COUNT 0) = min (s.get (CLU_DESK_FWCYC_COUNT 0) + cycles) (2 ^ 48 - 1)

theorem Reported.frame {e : FaultEvent} {rest : List FaultEvent} {cycles : Nat} {s t u : State} (h : Reported e rest cycles s t) {F : Foot}
    (k : Frame F t u) (hk : ¬ F.keys (CLU_DESK_FWCYC_COUNT 0).key) (hd : ¬ F.parts .faultDue) (hn : ¬ F.parts .notices) :
    Reported e rest cycles s u :=
  ⟨Eq.trans (k.parts .faultDue hd) h.due, Eq.trans (k.parts .notices hn) h.notices, (k.regs _ hk).trans h.work⟩

section Post

variable (s : State) (e : FaultEvent) (rest : List FaultEvent) (cycles : Nat)

theorem worked_frame {F : Foot} (hk : ∀ f ∈ fwWork, F.keys f.key) (hd : F.parts .faultDue) : Frame F s (s.worked rest cycles) :=
  (countBy_within (hk _ (by simp [fwWork])) (hk _ (by simp [fwWork])) cycles s).trans (Frame.upd_part F _ _ .faultDue rfl hd)

theorem taken_frame {F : Foot} (hk : ∀ f ∈ fwWork, F.keys f.key) (hn : F.parts .notices) (hd : F.parts .faultDue) :
    Frame F s (s.taken e rest cycles) :=
  (worked_frame s rest cycles hk hd).trans (takeNotice_within hn e.cls _)

theorem notices_worked : (s.worked rest cycles).notices = s.notices :=
  (worked_frame s rest cycles (F := Foot.noted fwWork) (fun _ => Foot.noted_key) (by simp [Foot.noted, Foot.or, Foot.of])).parts .notices
    (by simp [Foot.noted, Foot.fields, Foot.or, Foot.of])

/-- What taking an event reaches. -/
def Foot.taken : Foot := Foot.or (Foot.fields fwWork) (Foot.of (fun _ => False) [] [.notices, .faultDue])

theorem taken_frame_own : Frame Foot.taken s (s.taken e rest cycles) :=
  taken_frame s e rest cycles (fun _ h => .inl (Foot.fields_key h)) (by simp [Foot.taken, Foot.or, Foot.of])
    (by simp [Foot.taken, Foot.or, Foot.of])

theorem get_taken {f : Field} (h : ∀ x ∈ fwWork, f.key ≠ x.key) : (s.taken e rest cycles).get f = s.get f := by
  refine (taken_frame_own s e rest cycles).regs f ?_
  rintro (k | k)
  · exact Foot.not_fields_key h k
  · exact k

theorem reported_taken : Reported e rest cycles s (s.taken e rest cycles) := by
  have takes : (takeNotice e.cls).Within (Foot.of (fun _ => False) [] [.notices]) := takeNotice_within (by simp [Foot.of]) _
  refine ⟨(takes _).parts .faultDue (by simp [Foot.of]), ?_, ?_⟩
  · rw [State.taken, notices_takeNotice, State.reportedNotice, notices_worked]
    rfl
  · rw [State.taken, (takes _).regs _ (by simp [Foot.of]), State.worked, Upd.get_apply _ _ _ rfl, get_countBy rfl (by decide)]

end Post

/-! The record. -/

/-- The index of the newest record of the log. -/
def State.newestRecord (s : State) : Nat := (s.get CNT_FLT_PTR_TAIL + 255) % 256

/-- The record is that of the newest entry again, less than 1 ms after it (R478). -/
def State.Repeats (s : State) (e : FaultEvent) (recent : Bool) : Prop :=
  recent = true ∧ s.get CNT_FLT_PTR_HEAD ≠ s.get CNT_FLT_PTR_TAIL ∧ s.sameRecord s.newestRecord e = true

/-- VEC is signalled for the class of the event (R480). -/
def State.Signals (s : State) (e : FaultEvent) : Prop := s.get CNT_FLT_CFG_IRQ_EN = 1 ∧ bitAt (s.get CNT_FLT_CFG_CLASS_MASK) e.cls = true

/-- What a record puts into entry `i`, and into TAIL (R477, R479). -/
def recordFields (i fseq : Nat) (e : FaultEvent) : List (Field × Nat) :=
  [(CNT_FLT_ENTRY_FSEQ i, fseq), (CNT_FLT_ENTRY_CLASS i, e.cls), (CNT_FLT_ENTRY_SEVERITY i, faultSeverity e.cls),
    (CNT_FLT_ENTRY_REPEAT i, 0), (CNT_FLT_ENTRY_SOURCE i, e.source), (CNT_FLT_ENTRY_CHIP i, e.chip), (CNT_FLT_ENTRY_GRAPH i, e.graph),
    (CNT_FLT_ENTRY_DETAIL i, e.detail), (CNT_FLT_PTR_TAIL, i + 1)]

/-- FSEQ is consumed. -/
def State.nextFaultSeq (s : State) : Nat := (s.faultSeq + 1) % 2 ^ 32

/-- What becomes of a record: it repeats the newest one, finds the log full, or stands at TAIL (R478–R480). -/
def State.recordAct (s : State) (e : FaultEvent) (recent : Bool) : Act :=
  if recent && s.get CNT_FLT_PTR_HEAD ≠ s.get CNT_FLT_PTR_TAIL && s.sameRecord s.newestRecord e then
    .modify (CNT_FLT_ENTRY_REPEAT s.newestRecord) fun r => min (r + 1) 255
  else if (s.get CNT_FLT_PTR_TAIL + 1) % 256 = s.get CNT_FLT_PTR_HEAD then
    .seq (count CNT_FLT_LOST_COUNT CNT_FLT_LOST_OVF) (.upd (.faultSeq s.nextFaultSeq))
  else .all ((recordFields (s.get CNT_FLT_PTR_TAIL) s.faultSeq e).map (fun p => Act.set p.1 p.2) ++ [.upd (.faultSeq s.nextFaultSeq),
    .when (s.get CNT_FLT_CFG_IRQ_EN = 1 && bitAt (s.get CNT_FLT_CFG_CLASS_MASK) e.cls) (signal (s.get CNT_FLT_CFG_VEC))])

/-- A record goes by the registers of the log and by FSEQ alone. -/
theorem recordAct_congr {s t : State} (h : ∀ f : Field, 0x02500000 * 8 ≤ f.key → t.get f = s.get f) (hq : t.faultSeq = s.faultSeq)
    (e : FaultEvent) (recent : Bool) : t.recordAct e recent = s.recordAct e recent := by
  have log {f : Field} (hf : 0x02500000 * 8 ≤ f.key) : t.get f = s.get f := h f hf
  have newest : t.newestRecord = s.newestRecord := by rw [State.newestRecord, State.newestRecord, log (by decide)]
  have same : t.sameRecord s.newestRecord e = s.sameRecord s.newestRecord e := by
    rw [State.sameRecord, State.sameRecord, log (f := CNT_FLT_ENTRY_CLASS _) (by simp only [CNT_FLT_ENTRY_CLASS]; omega),
      log (f := CNT_FLT_ENTRY_SOURCE _) (by simp only [CNT_FLT_ENTRY_SOURCE]; omega),
      log (f := CNT_FLT_ENTRY_CHIP _) (by simp only [CNT_FLT_ENTRY_CHIP]; omega),
      log (f := CNT_FLT_ENTRY_DETAIL _) (by simp only [CNT_FLT_ENTRY_DETAIL]; omega)]
  simp only [State.recordAct, State.nextFaultSeq, newest, same, hq, log (f := CNT_FLT_PTR_HEAD) (by decide),
    log (f := CNT_FLT_PTR_TAIL) (by decide), log (f := CNT_FLT_CFG_IRQ_EN) (by decide), log (f := CNT_FLT_CFG_CLASS_MASK) (by decide),
    log (f := CNT_FLT_CFG_VEC) (by decide)]

theorem postFault_run (e : FaultEvent) (recent : Bool) (s : State) :
    (postFault e recent).run s = (s.recordAct e recent).run ((takeNotice e.cls).run s) := rfl

theorem postOldest_none {s : State} (h : s.faultDue = []) (recent : Bool) (cycles : Nat) : (postOldest recent cycles).run s = s := by
  simp [postOldest, h]

/-- The oldest event is taken, and then its record has one of its fates (R478). -/
theorem postOldest_run {s : State} {e : FaultEvent} {rest : List FaultEvent} (h : s.faultDue = e :: rest) (recent : Bool) (cycles : Nat) :
    (postOldest recent cycles).run s = (s.recordAct e recent).run (s.taken e rest cycles) := by
  have post : (postOldest recent cycles).run s = (postFault e recent).run (s.worked rest cycles) := by
    simp only [postOldest, Act.run_ask, h]
    rfl
  have worked : Frame (Foot.noted fwWork) s (s.worked rest cycles) :=
    worked_frame s rest cycles (fun _ => Foot.noted_key) (by simp [Foot.noted, Foot.or, Foot.of])
  have log (f : Field) (hf : 0x02500000 * 8 ≤ f.key) : (s.worked rest cycles).get f = s.get f := by
    refine worked.regs f ?_
    simp [Foot.noted, Foot.or, Foot.fields, Foot.of, fwWork, CLU_DESK_FWCYC_COUNT, CLU_DESK_FWCYC_OVF]
    omega
  have fseq : (s.worked rest cycles).faultSeq = s.faultSeq := worked.parts .faultSeq (by simp [Foot.noted, Foot.or, Foot.fields, Foot.of])
  rw [post, postFault_run, recordAct_congr log fseq]
  rfl

/-! The three fates. -/

section Fates

variable {s : State} {e : FaultEvent} {recent : Bool}

theorem recordAct_repeats (h : s.Repeats e recent) :
    s.recordAct e recent = .modify (CNT_FLT_ENTRY_REPEAT s.newestRecord) fun r => min (r + 1) 255 := by
  obtain ⟨soon, listed, same⟩ := h
  rw [State.recordAct, if_pos (by simp [soon, listed, same])]

theorem not_repeating_of_fresh (h : ¬ s.Repeats e recent) :
    ¬ (recent && s.get CNT_FLT_PTR_HEAD ≠ s.get CNT_FLT_PTR_TAIL && s.sameRecord s.newestRecord e) = true := by
  simpa [State.Repeats, and_assoc] using h

theorem recordAct_lost (h : ¬ s.Repeats e recent) (full : (s.get CNT_FLT_PTR_TAIL + 1) % 256 = s.get CNT_FLT_PTR_HEAD) :
    s.recordAct e recent = .seq (count CNT_FLT_LOST_COUNT CNT_FLT_LOST_OVF) (.upd (.faultSeq s.nextFaultSeq)) := by
  rw [State.recordAct, if_neg (not_repeating_of_fresh h), if_pos full]

/-- The record stands at TAIL, and FSEQ is consumed. -/
def State.recorded (s : State) (i fseq next : Nat) (e : FaultEvent) : State :=
  (Upd.faultSeq next).apply ((Act.each (recordFields i fseq e) fun p => .set p.1 p.2).run s)

theorem recordAct_posted (h : ¬ s.Repeats e recent) (room : (s.get CNT_FLT_PTR_TAIL + 1) % 256 ≠ s.get CNT_FLT_PTR_HEAD) (t : State) :
    (s.recordAct e recent).run t =
      (Act.when (s.get CNT_FLT_CFG_IRQ_EN = 1 && bitAt (s.get CNT_FLT_CFG_CLASS_MASK) e.cls) (signal (s.get CNT_FLT_CFG_VEC))).run
        (t.recorded (s.get CNT_FLT_PTR_TAIL) s.faultSeq s.nextFaultSeq e) := by
  rw [State.recordAct, if_neg (not_repeating_of_fresh h), if_neg room, Act.run_all_append]
  rfl

end Fates

/-! The entry. -/

theorem faultSeverity_lt (c : Nat) : faultSeverity c < 2 ^ 3 := by
  have fits : ∀ x ∈ [0, 2, 2, 0, 2, 1, 1, 0, 1, 2, 0, 3, 2, 0, 1, 2], x < 2 ^ 3 := by decide
  unfold faultSeverity
  cases h : [0, 2, 2, 0, 2, 1, 1, 0, 1, 2, 0, 3, 2, 0, 1, 2][c]? with
  | none => decide
  | some x => exact fits x (List.mem_of_getElem? h)

/-- What a record reaches: its entry, TAIL and FSEQ. -/
def Foot.record (i : Nat) : Foot :=
  Foot.of (fun k => k = CNT_FLT_PTR_TAIL.key ∨ inBytes (0x02510000 + i * 0x10) (0x02510010 + i * 0x10) k) [] [.faultSeq]

theorem recordFields_apart (i fseq : Nat) (e : FaultEvent) : ((recordFields i fseq e).map fun p => p.1.key).Nodup := by
  simp [recordFields, CNT_FLT_ENTRY_FSEQ, CNT_FLT_ENTRY_CLASS, CNT_FLT_ENTRY_SEVERITY, CNT_FLT_ENTRY_REPEAT, CNT_FLT_ENTRY_SOURCE,
    CNT_FLT_ENTRY_CHIP, CNT_FLT_ENTRY_GRAPH, CNT_FLT_ENTRY_DETAIL, CNT_FLT_PTR_TAIL]
  omega

theorem recordFields_keys {i fseq : Nat} {e : FaultEvent} : ∀ p ∈ recordFields i fseq e, (Foot.record i).keys p.1.key := by
  simp [recordFields, Foot.record, Foot.of, inBytes, CNT_FLT_ENTRY_FSEQ, CNT_FLT_ENTRY_CLASS, CNT_FLT_ENTRY_SEVERITY, CNT_FLT_ENTRY_REPEAT,
    CNT_FLT_ENTRY_SOURCE, CNT_FLT_ENTRY_CHIP, CNT_FLT_ENTRY_GRAPH, CNT_FLT_ENTRY_DETAIL, CNT_FLT_PTR_TAIL]
  omega

theorem recorded_frame {F : Foot} {i : Nat} (hk : ∀ k, (Foot.record i).keys k → F.keys k) (hp : F.parts .faultSeq) (s : State)
    (fseq next : Nat) (e : FaultEvent) : Frame F s (s.recorded i fseq next e) :=
  (Act.Within.each_mem (fun p h => .set (hk _ (recordFields_keys p h))) s).trans (Frame.upd_part _ _ _ .faultSeq rfl hp)

theorem get_recorded {i fseq : Nat} {e : FaultEvent} {f : Field} {v : Nat} (h : (f, v) ∈ recordFields i fseq e) (next : Nat) (s : State) :
    (s.recorded i fseq next e).get f = v % 2 ^ f.width := by
  rw [State.recorded, Upd.get_apply _ _ _ rfl, get_each_set_pairs (recordFields_apart i fseq e) h]

/-- What the signal of a vector reaches. -/
def Foot.signal (v : Nat) : Foot := Foot.or (Foot.fields [MSIX_PENDING v]) (Foot.of (fun _ => False) [] [.msix])

theorem signal_reach {F : Foot} {v : Nat} (hk : F.keys (MSIX_PENDING v).key) (hp : F.parts .msix) : (signal v).Within F :=
  .ask fun _ => .ite (.set hk) (.part .msix rfl hp)

/-! FAULT_RECORD_POST. -/

section Fate

variable {s : State} {e : FaultEvent} {rest : List FaultEvent} {recent : Bool}

theorem exec_faultRecordPost (hs : s.running = true) (due : s.faultDue = e :: rest) (cycles : BitVec 16) :
    exec (.faultRecordPost recent cycles) s = .next ((s.recordAct e recent).run (s.taken e rest cycles.toNat)) :=
  (live_eq hs).trans (congrArg _ (postOldest_run due recent cycles.toNat))

/-- A repeated record raises REPEAT of the newest entry, up to 255 (R478). -/
theorem exec_faultRecordPost_repeats (hs : s.running = true) (due : s.faultDue = e :: rest) (h : s.Repeats e recent) (cycles : BitVec 16) :
    ∃ t, exec (.faultRecordPost recent cycles) s = .next t ∧ Reported e rest cycles.toNat s t ∧
      t.get (CNT_FLT_ENTRY_REPEAT s.newestRecord) = min (s.get (CNT_FLT_ENTRY_REPEAT s.newestRecord) + 1) 255 ∧
      Frame (Foot.or (Foot.fields (CNT_FLT_ENTRY_REPEAT s.newestRecord :: fwWork))
        (Foot.of (fun _ => False) [] [.notices, .faultDue])) s t := by
  have apart : ∀ x ∈ fwWork, (CNT_FLT_ENTRY_REPEAT s.newestRecord).key ≠ x.key := by
    simp [fwWork, CNT_FLT_ENTRY_REPEAT, CLU_DESK_FWCYC_COUNT, CLU_DESK_FWCYC_OVF]
    omega
  have repeated := Frame.set (Foot.fields [CNT_FLT_ENTRY_REPEAT s.newestRecord]) (s.taken e rest cycles.toNat)
    (CNT_FLT_ENTRY_REPEAT s.newestRecord) (min (s.get (CNT_FLT_ENTRY_REPEAT s.newestRecord) + 1) 255) (Foot.fields_key (by simp))
  refine ⟨_, (exec_faultRecordPost hs due cycles).trans (congrArg _ ?_),
    (reported_taken s e rest cycles.toNat).frame repeated ?_ ?_ ?_, ?_, ?_⟩
  · rw [recordAct_repeats h, Act.run_modify, get_taken _ _ _ _ apart]
  · exact Foot.not_fields_key fun x hx k => apart (CLU_DESK_FWCYC_COUNT 0) (by simp [fwWork]) (by rw [k, List.mem_singleton.1 hx])
  · simp [Foot.fields, Foot.of]
  · simp [Foot.fields, Foot.of]
  · rw [State.get_set_width (w := 8) _ rfl]
    omega
  · exact Frame.trans (taken_frame s e rest cycles.toNat (fun f hf => .inl (Foot.fields_key (by simp [hf]))) (by simp [Foot.or, Foot.of])
      (by simp [Foot.or, Foot.of])) (Frame.set _ _ _ _ (.inl (Foot.fields_key (by simp))))

/-- A record that finds the log full is counted as lost, and its FSEQ is consumed (R479). -/
theorem exec_faultRecordPost_lost (hs : s.running = true) (due : s.faultDue = e :: rest) (h : ¬ s.Repeats e recent)
    (full : (s.get CNT_FLT_PTR_TAIL + 1) % 256 = s.get CNT_FLT_PTR_HEAD) (cycles : BitVec 16) :
    ∃ t, exec (.faultRecordPost recent cycles) s = .next t ∧ Reported e rest cycles.toNat s t ∧
      t.get CNT_FLT_LOST_COUNT = min (s.get CNT_FLT_LOST_COUNT + 1) (2 ^ 48 - 1) ∧ t.faultSeq = s.nextFaultSeq ∧
      Frame (Foot.or (Foot.fields ([CNT_FLT_LOST_COUNT, CNT_FLT_LOST_OVF] ++ fwWork))
        (Foot.of (fun _ => False) [] [.notices, .faultDue, .faultSeq])) s t := by
  have lost (F : Foot) (hk : ∀ f ∈ [CNT_FLT_LOST_COUNT, CNT_FLT_LOST_OVF], F.keys f.key) (hp : F.parts .faultSeq) :
      (Act.seq (count CNT_FLT_LOST_COUNT CNT_FLT_LOST_OVF) (.upd (.faultSeq s.nextFaultSeq))).Within F :=
    .seq (countBy_within (hk _ (by simp)) (hk _ (by simp)) 1) (.part .faultSeq rfl hp)
  have own := lost (Foot.or (Foot.fields [CNT_FLT_LOST_COUNT, CNT_FLT_LOST_OVF]) (Foot.of (fun _ => False) [] [.faultSeq]))
    (fun f hf => .inl (Foot.fields_key hf)) (.inr (by simp [Foot.of])) (s.taken e rest cycles.toNat)
  refine ⟨_, (exec_faultRecordPost hs due cycles).trans (congrArg _ (by rw [recordAct_lost h full])),
    (reported_taken s e rest cycles.toNat).frame own ?_ ?_ ?_, ?_, rfl, ?_⟩
  · rintro (⟨x, hx, k⟩ | k)
    · exact Foot.not_fields_key (l := [CNT_FLT_LOST_COUNT, CNT_FLT_LOST_OVF]) (by decide) ⟨x, hx, k⟩
    · exact k
  · simp [Foot.or, Foot.fields, Foot.of]
  · simp [Foot.or, Foot.fields, Foot.of]
  · rw [Act.run_seq, Act.run_upd, Upd.get_apply _ _ _ rfl, count, get_countBy rfl (by decide), get_taken _ _ _ _ (by decide)]
  · refine Frame.trans (taken_frame s e rest cycles.toNat (fun f hf => .inl (Foot.fields_key (by simp [hf]))) ?_ ?_)
      (lost _ (fun f hf => ?_) ?_ _)
    case refine_3 => exact .inl (Foot.fields_key (List.mem_append_left _ hf))
    all_goals simp [Foot.or, Foot.of]

end Fate

/-! The record in its entry. -/

/-- What a post may do to VEC of the log, from `s` to `t` (R393, R480). -/
def Signalled (signals : Prop) (vec : Nat) (s t : State) : Prop :=
  (¬ signals → t.msix = s.msix ∧ t.get (MSIX_PENDING vec) = s.get (MSIX_PENDING vec)) ∧
  (signals → s.masked vec = false → t.msix = s.msix ++ [vec] ∧ t.get (MSIX_PENDING vec) = s.get (MSIX_PENDING vec)) ∧
  (signals → s.masked vec = true → t.msix = s.msix ∧ t.get (MSIX_PENDING vec) = 1)

/-- Masks, pending bits and what is signalled, as a record leaves them. -/
structure SameInterrupts (vec : Nat) (s w : State) : Prop where
  msix : w.msix = s.msix
  masked : w.masked vec = s.masked vec
  pending : w.get (MSIX_PENDING vec) = s.get (MSIX_PENDING vec)

theorem signalled_when {signals : Prop} {c : Bool} (hc : c = true ↔ signals) {vec : Nat} {s w : State} (h : SameInterrupts vec s w) :
    Signalled signals vec s ((Act.when c (signal vec)).run w) := by
  obtain ⟨msix, masked, pending⟩ := h
  refine ⟨fun no => ?_, fun yes unmasked => ?_, fun yes m => ?_⟩
  · rw [Act.run_when, if_neg (fun e => no (hc.1 e))]
    exact ⟨msix, pending⟩
  · rw [Act.run_when, if_pos (hc.2 yes), signal_unmasked (masked.trans unmasked), Upd.get_apply _ _ _ rfl, ← msix]
    exact ⟨rfl, pending⟩
  · rw [Act.run_when, if_pos (hc.2 yes), signal_masked (masked.trans m)]
    exact ⟨msix, State.get_set_self _ _ _⟩

/-- What a post reaches before it signals. -/
def Foot.posted (i : Nat) : Foot := Foot.or Foot.taken (Foot.record i)

section Posted

variable (s : State) (e : FaultEvent) (rest : List FaultEvent) (cycles fseq next : Nat) {i : Nat}

theorem posted_frame : Frame (Foot.posted i) s ((s.taken e rest cycles).recorded i fseq next e) :=
  Frame.trans ((taken_frame_own s e rest cycles).mono (fun _ => .inl) (fun _ _ => .inl) (fun _ => .inl) fun _ => .inl)
    (recorded_frame (F := Foot.posted i) (fun _ => .inr) (by simp [Foot.posted, Foot.record, Foot.or, Foot.of]) _ _ _ _)

/-- The MSI-X table and its pending bits lie apart from the log and from the desks. -/
theorem posted_not_msix {k : Nat} (hk : k < 0x00F00000 * 8) : ¬ (Foot.posted i).keys k := by
  simp [Foot.posted, Foot.taken, Foot.record, Foot.or, Foot.fields, Foot.of, fwWork, inBytes, CLU_DESK_FWCYC_COUNT, CLU_DESK_FWCYC_OVF,
    CNT_FLT_PTR_TAIL]
  omega

theorem posted_sameInterrupts {vec : Nat} (hv : vec < 256) : SameInterrupts vec s ((s.taken e rest cycles).recorded i fseq next e) := by
  have frame := posted_frame s e rest cycles fseq next (i := i)
  refine ⟨frame.parts .msix ?_, masked_frame frame (posted_not_msix ?_) ?_, frame.regs _ (posted_not_msix ?_)⟩
  · simp [Foot.posted, Foot.taken, Foot.record, Foot.or, Foot.fields, Foot.of]
  · simp only [MSIX_MASK]
    omega
  · simp [Foot.posted, Foot.taken, Foot.record, Foot.or, Foot.fields, Foot.of]
  · simp only [MSIX_PENDING]
    omega

theorem reported_recorded : Reported e rest cycles s ((s.taken e rest cycles).recorded i fseq next e) := by
  have own : Frame (Foot.record i) (s.taken e rest cycles) ((s.taken e rest cycles).recorded i fseq next e) :=
    recorded_frame (fun _ h => h) (by simp [Foot.record, Foot.of]) _ _ _ _
  refine (reported_taken s e rest cycles).frame own ?_ (by simp [Foot.record, Foot.of]) (by simp [Foot.record, Foot.of])
  simp [Foot.record, Foot.of, inBytes, CNT_FLT_PTR_TAIL, CLU_DESK_FWCYC_COUNT]
  omega

end Posted

/-- Pending bits lie below the log and below the desks. -/
theorem signal_not_key {vec : Nat} (hv : vec < 256) {f : Field} (hf : 0x01000000 * 8 ≤ f.key) : ¬ (Foot.signal vec).keys f.key := by
  simp [Foot.signal, Foot.or, Foot.fields, Foot.of, MSIX_PENDING]
  omega

/-- The record of an event stands in the entry of its fields (R477). -/
structure Entered (i fseq : Nat) (e : FaultEvent) (t : State) : Prop where
  cls : t.get (CNT_FLT_ENTRY_CLASS i) = e.cls % 2 ^ 5
  severity : t.get (CNT_FLT_ENTRY_SEVERITY i) = faultSeverity e.cls
  repeats : t.get (CNT_FLT_ENTRY_REPEAT i) = 0
  fseq : t.get (CNT_FLT_ENTRY_FSEQ i) = fseq % 2 ^ 32
  source : t.get (CNT_FLT_ENTRY_SOURCE i) = e.source % 2 ^ 9
  chip : t.get (CNT_FLT_ENTRY_CHIP i) = e.chip % 2 ^ 24
  graph : t.get (CNT_FLT_ENTRY_GRAPH i) = e.graph % 2 ^ 3
  detail : t.get (CNT_FLT_ENTRY_DETAIL i) = e.detail % 2 ^ 32
  tail : t.get CNT_FLT_PTR_TAIL = (i + 1) % 256

theorem entered_of_fields {i fseq : Nat} {e : FaultEvent} {t : State}
    (h : ∀ p ∈ recordFields i fseq e, t.get p.1 = p.2 % 2 ^ p.1.width) : Entered i fseq e t := by
  simp only [recordFields, List.forall_mem_cons] at h
  obtain ⟨fseq, cls, severity, repeats, source, chip, graph, detail, tail, -⟩ := h
  exact ⟨cls, severity.trans (Nat.mod_eq_of_lt (faultSeverity_lt e.cls)), repeats, fseq, source, chip, graph, detail, tail⟩

/-- A fresh record stands at TAIL, and VEC is signalled where its class asks for it (R477, R479, R480). -/
theorem exec_faultRecordPost_posted {s : State} {e : FaultEvent} {rest : List FaultEvent} {recent : Bool} (hs : s.running = true)
    (due : s.faultDue = e :: rest) (h : ¬ s.Repeats e recent)
    (room : (s.get CNT_FLT_PTR_TAIL + 1) % 256 ≠ s.get CNT_FLT_PTR_HEAD) (cycles : BitVec 16) :
    let i := s.get CNT_FLT_PTR_TAIL
    let vec := s.get CNT_FLT_CFG_VEC
    ∃ t, exec (.faultRecordPost recent cycles) s = .next t ∧ Reported e rest cycles.toNat s t ∧ Entered i s.faultSeq e t ∧
      t.faultSeq = s.nextFaultSeq ∧ Signalled (s.Signals e) vec s t ∧
      Frame (Foot.or (Foot.fields (CNT_FLT_PTR_TAIL :: MSIX_PENDING vec :: fwWork))
        (Foot.of (inBytes (0x02510000 + i * 0x10) (0x02510010 + i * 0x10)) [] [.notices, .faultDue, .faultSeq, .msix])) s t := by
  intro i vec
  have hv : vec < 256 := s.get_lt CNT_FLT_CFG_VEC
  have rings {F : Foot} (hk : F.keys (MSIX_PENDING vec).key) (hp : F.parts .msix) :
      (Act.when (s.get CNT_FLT_CFG_IRQ_EN = 1 && bitAt (s.get CNT_FLT_CFG_CLASS_MASK) e.cls) (signal vec)).Within F :=
    .when (signal_reach hk hp)
  have rung := rings (F := Foot.signal vec) (.inl (Foot.fields_key (by simp))) (.inr (by simp [Foot.of]))
    ((s.taken e rest cycles.toNat).recorded i s.faultSeq s.nextFaultSeq e)
  refine ⟨_, (exec_faultRecordPost hs due cycles).trans (congrArg _ (recordAct_posted h room _)),
    (reported_recorded s e rest _ _ _).frame rung (signal_not_key hv (by decide)) ?_ ?_, entered_of_fields fun p hp => ?_,
    rung.parts .faultSeq ?_, signalled_when (by simp [State.Signals]) (posted_sameInterrupts s e rest _ _ _ hv), ?_⟩
  · simp [Foot.signal, Foot.or, Foot.fields, Foot.of]
  · simp [Foot.signal, Foot.or, Foot.fields, Foot.of]
  · refine (rung.regs _ (signal_not_key hv ?_)).trans (get_recorded hp _ _)
    have hk : (Foot.record i).keys p.1.key := recordFields_keys p hp
    simp only [Foot.record, Foot.of, inBytes, CNT_FLT_PTR_TAIL] at hk
    omega
  · simp [Foot.signal, Foot.or, Foot.fields, Foot.of]
  · refine Frame.trans (Frame.trans (taken_frame s e rest cycles.toNat (fun f hf => .inl (Foot.fields_key (by simp [hf]))) ?_ ?_)
      (recorded_frame ?_ ?_ _ _ _ _)) (rings ?_ ?_ _)
    case refine_3 =>
      rintro k (rfl | hk)
      · exact .inl (Foot.fields_key (by simp))
      · exact .inr hk
    case refine_5 => exact .inl (Foot.fields_key (by simp))
    all_goals simp [Foot.or, Foot.of]

/-! A write of HEAD. -/

/-- The register of HEAD and TAIL. -/
def fltPtrRow : RegDef := ⟨0x02500104, 0x0, 1, 4, CNT_FLT_PTR_fields⟩

theorem regAt_fltPtr : regAt 0x02500104 = some (0x02500104, fltPtrRow) := by decide +kernel

/-- A write leaves read-only fields alone (R2). -/
theorem plainWrite_within_writable {F : Foot} {off a : Nat} {r : RegDef} (h : regAt off = some (a, r))
    (hf : ∀ f ∈ r.fields, f.acc ≠ .ro → F.keys (f.at a).key) (v : Nat) : (plainWrite off v).Within F := by
  rw [plainWrite_eq h]
  refine .each_mem fun f hm => ?_
  by_cases ro : f.acc = .ro
  · unfold writePart fieldWrite
    rw [ro]
    split
    · exact .skip
    · exact .skip
  · exact writePart_within fun _ => hf f hm ro

theorem wordWrite_fltPtr (v : Nat) : wordWrite 0x02500104 v = plainWrite 0x02500104 v := wordWrite_plain (by decide +kernel) v

/-- A write of CNT_FLT_PTR moves HEAD alone: TAIL is read-only (R479). -/
theorem exec_write_head {s : State} (hs : s.running = true) (v : BitVec 64) :
    ∃ t, exec (.registerWrite 0x02500104#26 4 v 0) s = .next t ∧ t.get CNT_FLT_PTR_HEAD = bits v.toNat 0 8 ∧
      Frame (Foot.fields [CNT_FLT_PTR_HEAD]) s t := by
  have written : alignedWrite (0x02500104#26).toNat 4 v.toNat = plainWrite 0x02500104 (v.toNat % 2 ^ 32) := by
    rw [alignedWrite, if_pos (by decide)]
    exact wordWrite_fltPtr _
  refine ⟨_, (exec_registerWrite_alone hs _ 4 v).trans (by rw [written]), ?_, ?_⟩
  · refine (get_plainWrite regAt_fltPtr (f := ⟨0, 8, .rw, 0⟩) (by decide) (lo := 0) (n := 8) (p := 0) (by decide) _ s).trans ?_
    simp only [accessResult]
    refine (setBits_whole _ 8 _ (s.get_lt CNT_FLT_PTR_HEAD)).trans ?_
    simp only [bits, Nat.shiftRight_zero]
    omega
  · refine plainWrite_within_writable regAt_fltPtr (fun f hf writable => ?_) _ s
    obtain rfl | rfl : f = ⟨0, 8, .rw, 0⟩ ∨ f = ⟨16, 8, .ro, 0⟩ := by simpa [fltPtrRow, CNT_FLT_PTR_fields] using hf
    · exact Foot.fields_key (f := CNT_FLT_PTR_HEAD) (by simp)
    · exact absurd rfl writable

/-! The statement. -/

/-- Settles O58: requests and completions of a snapshot go by PENDING, and a post by what becomes of its record. -/
theorem snapshotsAndFaultRecords : Obligations.SnapshotsAndFaultRecords := by
  unfold Obligations.SnapshotsAndFaultRecords
  intro s hs
  refine ⟨fun h => (live_eq hs).trans (congrArg _ (snapRequest_joins h)), exec_snapshotRequest_copies hs,
    fun h => (live_eq hs).trans (congrArg _ (snapComplete_idle h)), exec_write_head hs, exec_snapshotComplete_pending hs,
    fun recent cycles => ⟨fun empty => (live_eq hs).trans (congrArg _ (postOldest_none empty recent cycles.toNat)),
      fun e rest due => ?_⟩⟩
  refine ⟨fun again => ?_, fun fresh full => ?_, fun fresh room => ?_⟩
  · obtain ⟨t, ran, ⟨taken, notices, work⟩, counted, frame⟩ := exec_faultRecordPost_repeats hs due again cycles
    exact ⟨t, ran, ⟨taken, notices, work⟩, counted, frame⟩
  · obtain ⟨t, ran, ⟨taken, notices, work⟩, lost, consumed, frame⟩ := exec_faultRecordPost_lost hs due fresh full cycles
    exact ⟨t, ran, ⟨taken, notices, work⟩, lost, consumed, frame⟩
  · obtain ⟨t, ran, ⟨taken, notices, work⟩, ⟨cls, severity, repeats, fseq, source, chip, graph, detail, tail⟩, consumed,
      ⟨quiet, sent, kept⟩, frame⟩ := exec_faultRecordPost_posted hs due fresh room cycles
    exact ⟨t, ran, ⟨taken, notices, work⟩, cls, severity, repeats, fseq, source, chip, graph, detail, tail, consumed, quiet, sent,
      kept, frame⟩

end Sys2Proof.Machine
end
